-- ==== Sys2Proof/Word.lean ====
section
/-! DEFINITION. The register word of the block (R9, R14) and the shape of a sparse table. -/

namespace Sys2Proof

/-- A word of a register, of a core memory or of a message: what the manual numbers bit by bit. -/
abbrev Word := BitVec 32

/-- A sparse table by number: entries in strictly rising keys, and no entry that equals what an unlisted key reads as. -/
abbrev Tab (α : Type) := List (Nat × α)

end Sys2Proof
end

