-- ==== Sys2Proof/Syntax.lean ====
section
/-! DEFINITION. The commands of the block: one constructor for each row of spec/opcode_table.json, with the row's operands.
Numbers of a message or a pin are natural numbers; `priv` is RP_PRIV of a Register Port access (R398): 0 user, 1 system,
2 debug, 3 security; an Agent is named by Booth × 64 + Agent. An operand with a default value is one that most senders leave at it
(no memory error, a pulse that the filter passes). -/

namespace Sys2Proof

/-- A command. Log 117 DESIGN CHOICE. -/
inductive Instr where
  /-- TICK (R20); `filtered` false: a TICK_EPOCH without a pulse that passes the AOCLK filter. -/
  | tick (refNs : Int) (epoch : Bool) (bclk phase aoclk : Nat) (filtered : Bool := true)
  /-- TICK_WINDOW_CLOSE (R23). -/
  | tickWindowClose (refNs : Int)
  /-- SAMPLE_EDGE (R110). -/
  | sampleEdge (cycles dropped : Nat)
  /-- SLOT_RUN (R107): to the end of the routine, or `steps` instructions of it; errors corrected, and an uncorrectable one (R108). -/
  | slotRun (slot : Nat) (steps : Option Nat) (corr : Nat := 0) (unc : Bool := false)
  /-- OVERRUN (R119): the instructions that still complete, and the memory errors among their words. -/
  | overrun (slot n : Nat) (corr : Nat := 0) (unc : Bool := false)
  /-- FREEZE_MAX_EXPIRY (R130). -/
  | freezeMaxExpiry
  /-- ORDINAL_BEAT (R33). -/
  | ordinalBeat (oo : Nat) (step : Bool) (scene ctx : Nat)
  /-- STEP_TIMEOUT (R38). -/
  | stepTimeout
  /-- REFILL (R57). -/
  | refill
  /-- REFILL_MESSAGE (R59). -/
  | refillMessage (booth late : Nat)
  /-- GIVE (R64). -/
  | give (agent late : Nat)
  /-- AGENT_REPORT (R61). -/
  | agentReport (agent late : Nat)
  /-- BOOTH_REPORT_SUMMARY (R61). -/
  | boothReportSummary (booth late : Nat)
  /-- RESYNC (R98). -/
  | resync (agent : Nat)
  /-- TK_REQ (R48). -/
  | tkReq (agent holder cls cost : Nat) (ret : Bool) (ecc : Nat)
  /-- TK_RET (R68). -/
  | tkRet (agent holder amount : Nat)
  /-- GRANT_DECISION (R62). -/
  | grantDecision (agent ps : Nat) (busy : Bool) (ctx : Nat) (taps : List (Nat × Nat)) (req : Nat)
      (ecc : List (Nat × Nat) := [])
  /-- RESERVE_AGE (R63). -/
  | reserveAge (agent holder : Nat)
  /-- DESCHED_HINT (R70). -/
  | deschedHint (agent holder : Nat)
  /-- FORCED_EXPIRY (R91). -/
  | forcedExpiry (agent holder : Nat)
  /-- ENG_RST_ASSERT (R92). -/
  | engRstAssert (agent : Nat)
  /-- ENG_RST_RELEASE (R94). -/
  | engRstRelease (agent : Nat)
  /-- GIVE_WATCHDOG_EXPIRY (R95). -/
  | giveWatchdogExpiry (agent : Nat)
  /-- BOOTH_REPORT_TIMEOUT (R100). -/
  | boothReportTimeout (booth : Nat)
  /-- NONE (R102). -/
  | noneOp (priv agent : Nat)
  /-- HOLD (R102). -/
  | hold (priv agent : Nat)
  /-- UNHOLD (R102). -/
  | unhold (priv agent : Nat)
  /-- ADD_POOL (R102). -/
  | addPool (priv agent count : Nat)
  /-- DISCARD_POOL (R102). -/
  | discardPool (priv agent count : Nat)
  /-- GRANT_HOLDER (R102). -/
  | grantHolder (priv agent holder : Nat)
  /-- EXPIRE_HOLDER (R102). -/
  | expireHolder (priv agent holder : Nat)
  /-- CLEAR_HOLDER (R102). -/
  | clearHolder (priv agent holder : Nat)
  /-- RESTORE (R98). -/
  | restore (priv agent : Nat)
  /-- FORCE_BYPASS (R102). -/
  | forceBypass (priv agent : Nat)
  /-- TKT_SEL_LATCH (R366). -/
  | tktSelLatch (priv : Nat) (data : Word)
  /-- TKT_CLASS_SWAP (R52). -/
  | tktClassSwap (priv : Nat)
  /-- ACTIVITY_RECORD (R136). -/
  | activityRecord (booth slot ctx sample window : Nat) (taps : List (Nat × Nat))
  /-- RAIL_RESPONSE (R404). -/
  | railResponse (rail frame : Nat) (sync : Bool)
  /-- TELEMETRY_TIMEOUT (R143). -/
  | telemetryTimeout
  /-- TRUST_LOST (R148). -/
  | trustLost
  /-- TRUST_REGAINED (R148). -/
  | trustRegained
  /-- UNVERIFIED (R148). -/
  | unverified
  /-- SITE_IMPLAUSIBLE (R157). -/
  | siteImplausible (site : Nat)
  /-- COLD_MAJORITY (R159). -/
  | coldMajority
  /-- COLD_MAJORITY_CLEAR (R159). -/
  | coldMajorityClear
  /-- HOT_MAJORITY_RAISE (R159). -/
  | hotMajorityRaise
  /-- RESET_ADAPT (R150). -/
  | resetAdapt (priv : Nat)
  /-- READMIT_SITE (R160). -/
  | readmitSite (priv site : Nat)
  /-- CUE (R193). -/
  | cue (ctx bits : Nat)
  /-- CUE_EXPIRE (R196). -/
  | cueExpire (index : Nat)
  /-- SETTLE_HOLD_END (R185). -/
  | settleHoldEnd (dom : Nat)
  /-- SCENE_DATA_WRITE (R183). -/
  | sceneDataWrite (priv : Nat) (data : Word)
  /-- HOST_CAP_WRITE (R208). -/
  | hostCapWrite (priv : Nat) (data : Word)
  /-- HOST_PREF_WRITE (R208). -/
  | hostPrefWrite (priv : Nat) (data : Word)
  /-- FF_FALLBACK (R218). -/
  | ffFallback
  /-- FF_RETURN (R218). -/
  | ffReturn
  /-- CAP_UNATT_CLEAR (R222). -/
  | capUnattClear
  /-- SUPPLY_ESC_REPEAT (R223). -/
  | supplyEscRepeat
  /-- RAMP_STEP (R226). -/
  | rampStep
  /-- DROOP_CROSSING (R234). -/
  | droopCrossing (det supply ns : Nat)
  /-- STRETCH_HOLD_EXPIRY (R233). -/
  | stretchHoldExpiry (region : Nat)
  /-- HOLD_MAX_EXPIRY (R237). -/
  | holdMaxExpiry (region : Nat)
  /-- RATE_WINDOW_END (R240). -/
  | rateWindowEnd
  /-- AGEMON_READ (R241). -/
  | agemonRead (codes : List (Nat × Nat × Bool))
  /-- TRIM_INSTANT (R242). -/
  | trimInstant
  /-- STORE (R246). -/
  | store (priv : Nat)
  /-- MARGIN_STORE_DONE (R246). -/
  | marginStoreDone (error : Bool) (back : List Nat)
  /-- THERMAL_SITE_READ (R248). -/
  | thermalSiteRead (site : Nat) (raw : Int) (parityOk : Bool)
  /-- SITE_TIMEOUT (R249). -/
  | siteTimeout (site : Nat)
  /-- THR_ACK (R258). -/
  | thrAck
  /-- GRACE_EXPIRY (R259). -/
  | graceExpiry
  /-- CURTAIN_READ (R265). -/
  | curtainRead (readings : List (Option Int)) (split : List Nat)
  /-- RAIL_OFF_REPEAT (R407). -/
  | railOffRepeat
  /-- CURTAIN_RELEASE (R268). -/
  | curtainRelease
  /-- COOL_HB_EDGE (R396). -/
  | coolHbEdge (ns : Nat)
  /-- COOL_HB_EXPIRY (R271). -/
  | coolHbExpiry
  /-- COOL_FAULT_CLOSE (R271). -/
  | coolFaultClose
  /-- LEAK_STATE (R272). -/
  | leakState (p n : Bool)
  /-- LEAK_FILT_EXPIRY (R272). -/
  | leakFiltExpiry
  /-- DBP_REPORT (R276). -/
  | dbpReport (src dst role payload : Nat)
  /-- DBP_ALLOC (R286). -/
  | dbpAlloc (src dst role payload : Nat)
  /-- DBP_JOIN (R279). -/
  | dbpJoin (src dst role payload : Nat)
  /-- DBP_SLACK (R292). -/
  | dbpSlack (src dst role payload : Nat)
  /-- DBP_ROLES (R282). -/
  | dbpRoles (src dst role payload : Nat)
  /-- DBP_LEAVE (R298). -/
  | dbpLeave (src dst role payload : Nat)
  /-- JOIN_PHASE_END (R279). -/
  | joinPhaseEnd
  /-- TAKEOVER (R280). -/
  | takeover
  /-- MEMBER_SILENCE (R287). -/
  | memberSilence
  /-- DIE_SILENCE (R288). -/
  | dieSilence (die : Nat)
  /-- DONOR_TIMEOUT (R290). -/
  | donorTimeout (die : Nat)
  /-- PKG_ESC_REPEAT (R289). -/
  | pkgEscRepeat
  /-- ZILTER_INTERVAL (R295). -/
  | zilterInterval
  /-- ZLT_REPORT (R294). -/
  | zltReport (src dst seq term : Nat) (body : List Nat)
  /-- ZLT_ALLOC (R291). -/
  | zltAlloc (src dst seq term : Nat) (body : List Nat)
  /-- ZLT_JOIN (R299). -/
  | zltJoin (src dst seq term : Nat) (body : List Nat)
  /-- ZLT_LEAVE (R298). -/
  | zltLeave (src dst seq term : Nat) (body : List Nat)
  /-- ZLT_LEAVE_ACK (R298). -/
  | zltLeaveAck (src dst seq term : Nat) (body : List Nat)
  /-- PARENT_SILENCE (R296). -/
  | parentSilence
  /-- CHILD_SILENCE (R296). -/
  | childSilence (package : Nat)
  /-- FMP_TX_TIMEOUT (R420). -/
  | fmpTxTimeout
  /-- MGMT_GAP_TIMEOUT (R301). -/
  | mgmtGapTimeout
  /-- HEARTBEAT_LOST (R302). -/
  | heartbeatLost
  /-- ORPHAN (R302). -/
  | orphan
  /-- MANAGEMENT_HEARTBEAT (R302). -/
  | managementHeartbeat (seq : Nat)
  /-- GET_SEQUENCE_STATE (R416). -/
  | getSequenceState (seq : Nat)
  /-- GET_STATUS (R416). -/
  | getStatus (seq : Nat)
  /-- GET_REGISTER (R416). -/
  | getRegister (seq offset : Nat)
  /-- REPORT_COOLANT_TEMPERATURE (R153). -/
  | reportCoolantTemperature (seq : Nat) (temp : Int)
  /-- SET_TICK_COUNT (R26). -/
  | setTickCount (seq count : Nat)
  /-- SET_LIMIT (R206). -/
  | setLimit (seq scope window value : Nat)
  /-- SET_THERMAL_THRESHOLD (R251). -/
  | setThermalThreshold (seq which : Nat) (value : Int)
  /-- SET_THROTTLE_LEVEL (R257). -/
  | setThrottleLevel (seq level : Nat)
  /-- SET_AUTHORITY (R208). -/
  | setAuthority (seq value : Nat)
  /-- SET_ALLOWED_MODES (R207). -/
  | setAllowedModes (seq mask : Nat)
  /-- SET_DIE_SLEW (R72). -/
  | setDieSlew (seq value : Nat)
  /-- SET_HOLDOVER_PERCENT (R28). -/
  | setHoldoverPercent (seq value : Nat)
  /-- START_RAMP (R224). -/
  | startRamp (seq rampId c1 t0 d : Nat)
  /-- CANCEL_RAMP (R227). -/
  | cancelRamp (seq rampId : Nat)
  /-- SET_ZILTER_POSITION (R291). -/
  | setZilterPosition (seq package level parent : Nat)
  /-- SET_FLEET_BUDGET (R291). -/
  | setFleetBudget (seq budget : Nat)
  /-- ORDERLY_DEPARTURE (R298). -/
  | orderlyDeparture (seq scope : Nat)
  /-- DEPARTED (R298). -/
  | departed (seq scope id : Nat)
  /-- SCHEDULE_SNAPSHOT (R377). -/
  | scheduleSnapshot (seq tick : Nat) (freeze : Bool)
  /-- ORDERLY_SHUTDOWN (R246). -/
  | orderlyShutdown (seq : Nat)
  /-- SET_ENDPOINT_ID (R412). -/
  | setEndpointId (eid : Nat)
  /-- GET_ENDPOINT_ID (R412). -/
  | getEndpointId
  /-- GET_ENDPOINT_UUID (R412). -/
  | getEndpointUuid
  /-- GET_MCTP_VERSION_SUPPORT (R412). -/
  | getMctpVersionSupport (type : Nat)
  /-- GET_MESSAGE_TYPE_SUPPORT (R412). -/
  | getMessageTypeSupport
  /-- GET_VENDOR_DEFINED_MESSAGE_SUPPORT (R414). -/
  | getVendorDefinedMessageSupport (selector : Nat)
  /-- MCTP_REASSEMBLY_TIMEOUT (R412). -/
  | mctpReassemblyTimeout
  /-- GETTID (R413). -/
  | getTid
  /-- GETPLDMVERSION (R413). -/
  | getPldmVersion (type : Nat)
  /-- GETPLDMTYPES (R413). -/
  | getPldmTypes
  /-- GETPLDMCOMMANDS (R413). -/
  | getPldmCommands (type : Nat)
  /-- GETSENSORREADING (R413). -/
  | getSensorReading (sensor : Nat)
  /-- GETSTATESENSORREADINGS (R413). -/
  | getStateSensorReadings (sensor : Nat)
  /-- GETPDRREPOSITORYINFO (R413). -/
  | getPdrRepositoryInfo
  /-- GETPDR (R413). -/
  | getPdr (record : Nat)
  /-- ENTDAA (R411). -/
  | entdaa (address : Nat)
  /-- SETDASA (R411). -/
  | setdasa (static address : Nat)
  /-- RSTDAA (R411). -/
  | rstdaa
  /-- ENEC (R411). -/
  | enec (mask : Nat)
  /-- DISEC (R411). -/
  | disec (mask : Nat)
  /-- GETPID (R411). -/
  | getPid
  /-- GETBCR (R411). -/
  | getBcr
  /-- GETDCR (R411). -/
  | getDcr
  /-- I3C_GETSTATUS (R411). -/
  | i3cGetStatus
  /-- SETMWL (R411). -/
  | setMwl (length : Nat)
  /-- GETMWL (R411). -/
  | getMwl
  /-- SETMRL (R411). -/
  | setMrl (length : Nat)
  /-- GETMRL (R411). -/
  | getMrl
  /-- RSTACT (R411). -/
  | rstact
  /-- NOP (R401). -/
  | nop
  /-- APPLY (R401). -/
  | apply
  /-- READ_CUT (R401). -/
  | readCut
  /-- STORE_ALL (R401). -/
  | storeAll
  /-- PORST_N_ASSERT (R304). -/
  | porstNAssert
  /-- PORST_N_RELEASE (R304). -/
  | porstNRelease
  /-- HRST_N_ASSERT (R304). -/
  | hrstNAssert
  /-- HRST_N_RELEASE (R304). -/
  | hrstNRelease
  /-- BLOCK_SUPPLY_LOSS (R304). -/
  | blockSupplyLoss
  /-- ALWAYS_ON_SUPPLY_REMOVAL (R269). -/
  | alwaysOnSupplyRemoval
  /-- CURTAIN_TEST (R267). -/
  | curtainTest (failed : List Nat)
  /-- MEM_INIT (R306). -/
  | memInit
  /-- PING_REPEAT (R408). -/
  | pingRepeat
  /-- DISCOVER (R310). -/
  | discover (valid : Bool) (rev density : Nat) (erase4k quad : Bool)
  /-- READ (R319). -/
  | read
  /-- FLASH_READ_TIMEOUT (R421). -/
  | flashReadTimeout
  /-- RELEASE (R318). -/
  | release (priv : Nat)
  /-- KEY_REG_WRITE (R318). -/
  | keyRegWrite (priv offset : Nat) (data : Word)
  /-- VERIFY (R317). -/
  | verify
  /-- CHECK (R319). -/
  | check
  /-- LIVE (R308). -/
  | live
  /-- LOAD (R322). -/
  | load (priv : Nat)
  /-- PROGRAM (R322). -/
  | program (priv : Nat)
  /-- PROGRAM_CAL (R322). -/
  | programCal (priv : Nat)
  /-- RESTART (R322). -/
  | restart (priv : Nat)
  /-- LOAD_DATA (R322). -/
  | loadData (priv : Nat) (data : Word)
  /-- LOAD_STREAM_TIMEOUT (R323). -/
  | loadStreamTimeout
  /-- LOADER_DONE (R322). -/
  | loaderDone (error : Bool) (back : List Nat)
  /-- CLOSE (R334). -/
  | close (priv : Nat) (same : List Nat)
  /-- RECOVER (R336). -/
  | recover (priv : Nat)
  /-- ERR_PAIR_MISMATCH (R339). -/
  | errPairMismatch
  /-- BCLK_ABSENT (R390). -/
  | bclkAbsent
  /-- BCLK_RETURN (R390). -/
  | bclkReturn
  /-- AOCLK_OUT_OF_RANGE (R390). -/
  | aoclkOutOfRange (count : Nat)
  /-- EN (R340). -/
  | en (priv : Nat) (on : Bool)
  /-- CURT_ARM (R342). -/
  | curtArm (priv : Nat)
  /-- HOST_IDLE (R342). -/
  | hostIdle
  /-- INJECTION_GO (R341). -/
  | injectionGo (priv : Nat)
  /-- PB_PUBLISH (R351). -/
  | pbPublish (code : Nat)
  /-- CLEAR (R358). -/
  | clear (priv : Nat)
  /-- PB_STORE (R360). -/
  | pbStore (priv : Nat)
  /-- PB_STORE_DONE (R360). -/
  | pbStoreDone (error : Bool) (back : List Nat)
  /-- PB_STORED_FETCH (R361). -/
  | pbStoredFetch (priv : Nat)
  /-- PB_FIND (R357). -/
  | pbFind (priv code : Nat)
  /-- OPMIN_ADVANCE (R354). -/
  | opminAdvance
  /-- OBS_OP_LATCH (R370). -/
  | obsOpLatch (priv : Nat)
  /-- ARM (R375). -/
  | arm (priv : Nat)
  /-- STOP (R375). -/
  | stop (priv : Nat)
  /-- SNAP_IN (R374). -/
  | snapIn
  /-- SNAP_ARM (R377). -/
  | snapArm (priv : Nat)
  /-- CANCEL (R377). -/
  | cancel (priv : Nat)
  /-- SNAPSHOT_EDGE (R378). -/
  | snapshotEdge
  /-- SNAP_DRAIN_DONE (R381). -/
  | snapDrainDone
  /-- AVS_RESPONSE (R410). -/
  | avsResponse (rail : Nat) (ok : Bool)
  /-- TAP_IDCODE (R445). -/
  | tapIdcode
  /-- SAMPLE_PRELOAD (R445). -/
  | samplePreload
  /-- TAP_BYPASS (R445). -/
  | tapBypass
  /-- MBIST_RUN (R446). -/
  | mbistRun
  /-- MBIST_DONE (R445). -/
  | mbistDone (result : Word)
  /-- MBIST_RESULT (R445). -/
  | mbistResult
  /-- SCAN_BLOCK (R446). -/
  | scanBlock
  /-- PARAM_READ (R445). -/
  | paramRead
  /-- AO_MIRROR (R445). -/
  | aoMirror
  /-- REGISTER_WRITE (R400). -/
  | registerWrite (priv offset : Nat) (data : Word)
  /-- BLOCK_SUPPLY_RETURN (R304). -/
  | blockSupplyReturn
  /-- KEY_WAIT_ATTN (R434). -/
  | keyWaitAttn
  /-- LO_REGISTER_READ (R39). -/
  | loRegisterRead (priv ctx offset : Nat)
  /-- ORDINAL_QUEUE_FULL (R392). -/
  | ordinalQueueFull (oo : Nat := 0)
  /-- DBP_BAD (R276). -/
  | dbpBad
  /-- ZLT_BAD (R293, R420): `crc` says that the CRC failed. -/
  | zltBad (crc : Bool := true)
  /-- UNKNOWN_COMMAND (R415). -/
  | unknownCommand (code seq : Nat) (wrongLength : Bool)
  /-- UNSUPPORTED_PLDM_CMD (R413). -/
  | unsupportedPldmCmd (type cmd : Nat)
  deriving DecidableEq, Repr

end Sys2Proof
end

