-- ==== Sys2Proof/Decode.lean ====
section
/-! DEFINITION. The command that a word spells by the bits of spec/opcode_table.json. No row of the table gives bits: the
commands are accesses, messages and events of several ports, and none of them is a word of an instruction memory. -/

namespace Sys2Proof

/-- No word spells a command: no row of the table gives bits. Log 3 DESIGN CHOICE. -/
def decodeTableWord (_nbits _w : Nat) : Option Instr := none

end Sys2Proof
end

