-- ==== Sys2Proof/Machine/Operands.lean ====
section
/-! DEFINITION. The forms in which the block's fields are read and written: bit fields of words, signed fields, ranges
and nearest limits (R11, R15), counters that wrap (R11), sparse tables, CRC-8 and CRC-32C. -/

namespace Sys2Proof.Machine

/-- Bits `[hi:lo]` of a number. -/
def bits (w hi lo : Nat) : Nat := (w >>> lo) % 2 ^ (hi + 1 - lo)

/-- Bits `[hi:lo]` of a word. -/
def fieldOf (w : Word) (hi lo : Nat) : Nat := bits w.toNat hi lo

/-- Bit `i` of a word. -/
def bitOf (w : Word) (i : Nat) : Bool := w.toNat.testBit i

/-- The number that a list of `(hi, lo, value)` fields spells; a value is cut to its field's width. -/
def numOf : List (Nat × Nat × Nat) → Nat
  | [] => 0
  | (hi, lo, v) :: r => (v % 2 ^ (hi + 1 - lo)) <<< lo + numOf r

/-- The word that a list of `(hi, lo, value)` fields spells. -/
def wordOf (l : List (Nat × Nat × Nat)) : Word := BitVec.ofNat 32 (numOf l)

/-- A one-bit field. -/
def bit (i : Nat) (b : Bool) : Nat × Nat × Nat := (i, i, b.toNat)

/-- A word whose bits `[hi:lo]` are replaced. -/
def setField (w : Word) (hi lo v : Nat) : Word :=
  BitVec.ofNat 32 (w.toNat - (bits w.toNat hi lo) <<< lo + (v % 2 ^ (hi + 1 - lo)) <<< lo)

/-- The two's-complement spelling of an integer in `n` bits. -/
def twos (n : Nat) (i : Int) : Nat := (i % (2 ^ n : Nat)).toNat

/-- The integer that an `n`-bit two's-complement field spells. -/
def signedOf (n x : Nat) : Int := if x < 2 ^ (n - 1) then (x : Int) else (x : Int) - (2 ^ n : Nat)

/-- The nearest limit (R11, R15): a value outside `lo` to `hi` is replaced by the limit that it passes. -/
def clampN (lo hi x : Nat) : Nat := if x < lo then lo else if hi < x then hi else x

/-- The nearest limit for a signed value. -/
def clampI (lo hi x : Int) : Int := if x < lo then lo else if hi < x then hi else x

/-- A counter that is monotonic mod 2^n advances by `d` (R11). -/
def wrapAdd (n c d : Nat) : Nat := (c + d) % 2 ^ n

/-- A counter that is monotonic mod 2^n advances by one where `b` holds. -/
def wrapInc (n : Nat) (b : Bool) (c : Nat) : Nat := if b then wrapAdd n c 1 else c

/-- A counter that saturates at `top` advances by one. -/
def satInc (top c : Nat) : Nat := min top (c + 1)

/-- Rounding to nearest with ties to even of `num / den` (R11, R125). -/
def roundEven (num : Int) (den : Nat) : Int :=
  let q := num / (den : Int)
  let r := num % (den : Int)
  if 2 * r < (den : Int) then q
  else if (den : Int) < 2 * r then q + 1
  else if q % 2 = 0 then q else q + 1

/-- Division that rounds up. -/
def ceilDiv (a b : Nat) : Nat := (a + b - 1) / b

/-- An integer as an unsigned power or current field of `n` bits: the nearest limit, never a wrap (R11). -/
def toUnsigned (n : Nat) (i : Int) : Nat := (clampI 0 ((2 ^ n : Nat) - 1) i).toNat

/-- The difference of two 32-bit counters (R66). -/
def diff32 (a b : Nat) : Nat := (a + 2 ^ 32 - b % 2 ^ 32) % 2 ^ 32

/-- The number of ones among the low `n` bits. -/
def popcount (n m : Nat) : Nat := ((List.range n).filter (fun i => m.testBit i)).length

/-- floor(log2 n), 0 for 0. -/
def log2 (n : Nat) : Nat := Nat.log2 n

/-- What key `k` reads as in a sparse table whose unlisted keys read as `d`. -/
def tget {α : Type} (d : α) (k : Nat) : Tab α → α
  | [] => d
  | (j, v) :: r => if j = k then v else tget d k r

/-- The entry at key `k`, where there is one. -/
def tlook {α : Type} (k : Nat) : Tab α → Option α
  | [] => none
  | (j, v) :: r => if j = k then some v else tlook k r

/-- A sparse table without an entry at `k`. -/
def terase {α : Type} (k : Nat) : Tab α → Tab α
  | [] => []
  | (j, v) :: r => if j = k then r else (j, v) :: terase k r

/-- A sparse table with an entry `v` at `k`, in rising keys. -/
def tins {α : Type} (k : Nat) (v : α) : Tab α → Tab α
  | [] => [(k, v)]
  | (j, w) :: r => if k < j then (k, v) :: (j, w) :: r else if j = k then (k, v) :: r else (j, w) :: tins k v r

/-- Writing `v` at `k`: writing what an unlisted key reads as removes the entry, so equal tables are equal lists. -/
def tset {α : Type} [DecidableEq α] (d : α) (k : Nat) (v : α) (t : Tab α) : Tab α :=
  if v = d then terase k t else tins k v t

/-- A table changed at one key by a function. -/
def tmod {α : Type} [DecidableEq α] (d : α) (k : Nat) (f : α → α) (t : Tab α) : Tab α :=
  tset d k (f (tget d k t)) t

/-- A table changed at each key of a list. -/
def tmodAll {α : Type} [DecidableEq α] (d : α) (ks : List Nat) (f : Nat → α → α) (t : Tab α) : Tab α :=
  ks.foldl (fun u k => tset d k (f k (tget d k u)) u) t

/-- A table changed at every entry. -/
def tadj {α : Type} [DecidableEq α] (d : α) (f : Nat → α → α) (t : Tab α) : Tab α :=
  (t.map (fun p => (p.1, f p.1 p.2))).filter (fun p => p.2 ≠ d)

/-- A table built from a function over a list of keys. -/
def tbuild {α : Type} [DecidableEq α] (d : α) (ks : List Nat) (f : Nat → α) : Tab α :=
  ks.foldl (fun u k => tset d k (f k) u) []

/-- The canonical form: keys strictly rising, and no entry that equals the default. -/
def twf {α : Type} [DecidableEq α] (d : α) : Tab α → Bool
  | [] => true
  | [(_, v)] => decide (v ≠ d)
  | (j, v) :: (k, w) :: r => decide (j < k) && decide (v ≠ d) && twf d ((k, w) :: r)

/-- One bit of the CRC-32C shift register (reflected, polynomial 0x82F6_3B78). -/
def crc32cBit (r : Nat) : Nat := if r % 2 = 1 then (r / 2) ^^^ 0x82F63B78 else r / 2

/-- One byte into the CRC-32C register. -/
def crc32cByte (r b : Nat) : Nat := (List.range 8).foldl (fun x _ => crc32cBit x) (r ^^^ b)

/-- CRC-32C of a list of bytes: initial value and final inversion all ones. -/
def crc32c (l : List Nat) : Nat := (l.foldl crc32cByte 0xFFFFFFFF) ^^^ 0xFFFFFFFF

/-- The bytes of a word, low byte first. -/
def bytesOfWord (w : Nat) : List Nat := [w % 256, (w / 2 ^ 8) % 256, (w / 2 ^ 16) % 256, (w / 2 ^ 24) % 256]

/-- The bytes of a list of words, each low byte first. -/
def bytesOfWords (l : List Nat) : List Nat := l.flatMap bytesOfWord

/-- The words of a list of bytes, low byte first; a last part word is filled with zeros. -/
def wordsOfBytes : List Nat → List Nat
  | a :: b :: c :: d :: r => (a + b * 2 ^ 8 + c * 2 ^ 16 + d * 2 ^ 24) :: wordsOfBytes r
  | [a, b, c] => [a + b * 2 ^ 8 + c * 2 ^ 16]
  | [a, b] => [a + b * 2 ^ 8]
  | [a] => [a]
  | [] => []

/-- One bit of a CRC-8 shift register with polynomial `p`, most significant bit first. -/
def crc8Bit (p r : Nat) : Nat := if r / 128 % 2 = 1 then ((r * 2) ^^^ p) % 256 else (r * 2) % 256

/-- CRC-8 of a list of bytes with polynomial `p` and initial value 0. -/
def crc8 (p : Nat) (l : List Nat) : Nat :=
  l.foldl (fun r b => (List.range 8).foldl (fun x _ => crc8Bit p x) ((r ^^^ b) % 256)) 0

/-- The element at index `i` of a list, `d` beyond its end. -/
def at' {α : Type} (d : α) (l : List α) (i : Nat) : α := l.getD i d

/-- The list with the element at `i` replaced, unchanged beyond its end. -/
def put {α : Type} (l : List α) (i : Nat) (v : α) : List α := l.set i v

/-- The sum of a list of integers. -/
def sumI (l : List Int) : Int := l.foldl (· + ·) 0

/-- The sum of a list of numbers. -/
def sumN (l : List Nat) : Nat := l.foldl (· + ·) 0

/-- The smallest of a list of numbers, `d` when it is empty. -/
def minN (d : Nat) : List Nat → Nat
  | [] => d
  | x :: r => r.foldl min x

/-- The largest of a list of integers, `d` when it is empty. -/
def maxI (d : Int) : List Int → Int
  | [] => d
  | x :: r => r.foldl max x

/-- Insertion of one element into a list that is sorted by `le`. -/
def insertBy {α : Type} (le : α → α → Bool) (x : α) : List α → List α
  | [] => [x]
  | y :: r => if le x y then x :: y :: r else y :: insertBy le x r

/-- The list sorted by `le`, stable. -/
def sortBy {α : Type} (le : α → α → Bool) (l : List α) : List α := l.foldr (insertBy le) []

/-- All ones, the word that withdraws a limit or says "none". -/
def allOnes : Nat := 0xFFFFFFFF

end Sys2Proof.Machine
end

