-- ==== Sys2Proof/Machine/State.lean ====
section
/-! DEFINITION. The state of one Trasilen block as plain data: every register, table, counter, queue, timer and pin that
the spec gives it, by chapter; the reasons a step can stop; and the state after reset. -/

namespace Sys2Proof.Machine

open Sys2Proof

/-! ### Build parameters (R444, Table 17-4) -/

/-- The parameters fixed at hardening; no command changes them. -/
structure Params where
  /-- 0 Full, 1 Standard, 2 Lite. -/
  build : Nat
  patch : Nat
  /-- 0 wired digest, 1 security controller. -/
  keySource : Nat
  /-- The wired digest, twelve words, used when KEY_SOURCE is 0. -/
  keyDigest : List Nat
  secRelease : Nat
  /-- CURT_WIRED_THR in 1/16 °C. -/
  curtWired : Int
  /-- SAFE_FREQ in MHz. -/
  safeFreq : Nat
  /-- SAFE_VOLT in 0.25 mV. -/
  safeVolt : Nat
  safeRails : Nat
  i3cStatic : Nat
  i3cPidInst : Nat
  dbpVendor : Nat
  ianaPen : Nat
  idcodeMfr : Nat
  deriving DecidableEq, Repr

/-! ### Time (chapter 01) -/

/-- The Rack Tick count, the subtick generator's lock and the counts of Table 1-8. -/
structure TimeSt where
  /-- Ticks counted while the block runs, whatever happens to the count: the base of every timer in ticks. -/
  up : Nat
  /-- The 64-bit tick count (R20, R26). -/
  count : Nat
  countSet : Bool
  /-- A tick has been accepted since reset (R26, R30). -/
  anyTick : Bool
  locked : Bool
  holdover : Bool
  /-- Consecutive accepted ticks that count towards lock (R22). -/
  lockRun : Nat
  /-- Consecutive synthesised ticks (R23). -/
  synthRun : Nat
  /-- Reference instant of the previous accepted or synthesised tick, in ns (R20). -/
  lastRef : Option Int
  /-- Reference instant of the last accepted pulse (R448). -/
  lastAcc : Option Int
  /-- Instant of the last tick that the count has taken: an accepted pulse's or the generator's (R20, R23, R448). -/
  lastTick : Option Int
  missed : Nat
  epochMis : Nat
  ordReject : Nat
  /-- Nonzero residue of the last epoch marker that mismatched (R27). -/
  epochRes : Option Nat
  /-- The count that Set Tick Count has named, until the next epoch (R26). -/
  pendCount : Option Nat
  /-- `up` at entry into holdover (R30). -/
  holdSince : Nat
  /-- BCLK has been found out of range and not in range since (R22, R120). -/
  bclkBad : Bool
  pSel : Nat
  /-- Sample number (R25). -/
  k : Nat
  /-- Edges since the last tick (R25). -/
  subIdx : Nat
  /-- `up` at the last sample edge, and whether a sample is in progress (R31). -/
  edgeUp : Nat
  begun : Bool
  /-- The instant of the last edge, in quarters of a tick by `up` (R91, R142). -/
  edgeQ : Nat
  /-- Sample edges so far, and their number at the last arrival of each input that comes less often, by source (R109). -/
  edgeN : Nat
  came : Tab Nat
  /-- Ticks counted towards the next operating minute (R354). -/
  opTicks : Nat
  /-- Latched high words of the pairs whose low word a read latches (R39, R430), by the offset of the high word. -/
  hiLatch : Tab Nat
  deriving DecidableEq, Repr

/-- A step start that the core has not met yet: the lock length before it and after it, and whether the lock is new (R187, R189). -/
structure StepMark where
  was : Option Nat
  lock : Option Nat
  new : Bool
  deriving DecidableEq, Repr

/-- The Operation Ordinal: the last accepted beat, the step lock and the timeout (R33 to R38). -/
structure OrdSt where
  seen : Bool
  last : Nat
  scene : Nat
  ctx : Nat
  /-- The last step start S_n, once there is one. -/
  start : Option Nat
  /-- The previous step length, a candidate for lock. -/
  prevLen : Option Nat
  lockLen : Option Nat
  timeout : Bool
  /-- Ordinals advanced, and a beat accepted, since the last edge (R34, R38). -/
  adv : Nat
  beat : Bool
  /-- Active samples since the last step start, and of the last locked step, where there has been one (R38). -/
  active : Nat
  activeLast : Option Nat
  /-- The timeout has expired since the last step start (R38). -/
  expired : Bool
  /-- The last accepted ordinal as the last edge latched it (R34). -/
  lastEdge : Nat
  /-- The step starts since the last edge whose sample the Control Program ran in, oldest first. -/
  marks : List StepMark
  /-- No beat in the last sample (Table 1-6). -/
  stalled : Bool
  /-- Position feed-forward is disabled until lock returns (R38). -/
  ffOff : Bool
  deriving DecidableEq, Repr

/-! ### The collector (chapter 12) -/

/-- A pending injection of Rehearsal mode (R341). -/
structure Inject where
  checker : Nat
  mask : Nat
  left : Nat
  deriving DecidableEq, Repr

/-- The open fault record, the last closed one and the counters (R330 to R345). -/
structure FaultSt where
  isOpen : Bool
  cls : Nat
  injected : Bool
  errMismatch : Bool
  seen : Nat
  merges : Nat
  code : Nat
  cause : Nat
  lastCode : Nat
  firstTick : Nat
  firstOpmin : Nat
  /-- The S codes merged into the open record (R336). -/
  sCodes : List Nat
  prevCode : Word
  prevStatus : Word
  prevTick : Nat
  nN : Nat
  nC : Nat
  nD : Nat
  nS : Nat
  nInj : Nat
  nL : Nat
  ctrlSt : Nat
  /-- A RECOVER waits for the next sample edge (R336). -/
  recoverReq : Bool
  /-- In the safe state of R335. -/
  safe : Bool
  /-- The safe state was entered before the LIVE edge of this start (R336). -/
  safeEarly : Bool
  /-- The error pair is driven to fault (R338). -/
  errFault : Bool
  /-- Rehearsal mode in force (R340). -/
  reh : Bool
  /-- A CURT_ARM waits for the next sample (R342). -/
  armReq : Bool
  /-- Every Agent is held for Curtain injection (R342). -/
  curtArm : Bool
  /-- `up` at the arming edge. -/
  armUp : Nat
  hostIdle : Bool
  curtInjSeen : Bool
  /-- Curtain reads left until the redirection of a Curtain injection ends (R342). -/
  redirect : Nat
  /-- The pair under test by Curtain injection, as pair × 2 + channel. -/
  underTest : Option Nat
  /-- The redirection has ended, and the hold on the Agents ends at the next sample edge (R342). -/
  curtDone : Bool
  inj : Option Inject
  injStatus : Nat
  /-- Curtain faults that wait for the block supply (R330): code and value. -/
  held : List (Nat × Int)
  deriving DecidableEq, Repr

/-! ### The Prompt Book (chapter 13) -/

/-- The contents of one copy of an entry (R348). -/
structure Entry where
  code : Nat
  sev : Nat
  binSat : Bool
  count : Nat
  min : Int
  max : Int
  firstOpmin : Nat
  firstPcc : Nat
  lastOpmin : Nat
  lastPcc : Nat
  lastValue : Int
  firstTick : Nat
  lastTick : Nat
  /-- The 32 bins, sparse. -/
  bins : Tab Nat
  deriving DecidableEq, Repr

/-- One entry: its publication sequence, its working copy and its published copy (R349, R352). -/
structure BookSlot where
  seq : Nat
  work : Option Entry
  pub : Option Entry
  /-- `up` at the entry's last publication; none before the first (R351). -/
  lastPub : Option Nat
  /-- The working copy holds a delivery that has not been published. -/
  dirty : Bool
  deriving DecidableEq, Repr

/-- One entry of the code table (R355). -/
structure CodeRow where
  code : Nat
  sev : Nat
  binMode : Nat
  binShift : Nat
  binLo : Int
  rate : Nat
  name0 : Nat
  name1 : Nat
  deriving DecidableEq, Repr, Inhabited

/-- The event recorder (R346 to R363). -/
structure BookSt where
  slots : Tab BookSlot
  lost : Tab Nat
  evict : Tab Nat
  opmin : Nat
  pcc : Nat
  codes : List CodeRow
  /-- A CLEAR waits for the next sample edge (R358). -/
  clearReq : Bool
  /-- A store runs, with the words that it programs; or one waits for a margin store (R362). -/
  storing : Option (List Nat)
  storeWait : Bool
  done : Bool
  status : Nat
  stores : Nat
  /-- PB_STORED (R361). -/
  stored : Nat
  /-- READY and the index whose stored entry the window holds (R361). -/
  ready : Bool
  fetched : Option Nat
  deriving DecidableEq, Repr

/-! ### Registers (chapter 16) -/

/-- What the Register Port holds: RW fields as written and as in force, cause bits, and its error counters. -/
structure RegSt where
  /-- RW fields as last written, by offset; an unlisted register holds its reset word. -/
  wr : Tab Nat
  /-- "Next sample" fields as in force (R12), by offset. -/
  act : Tab Nat
  /-- ATTN_CAUSE_g by group (R435). -/
  cause : Tab Nat
  privDenied : Nat
  badAddr : Nat
  lockWrites : Nat
  /-- The last response: code of RP_RESP and the data of a read (R400). -/
  resp : Nat
  rdata : Word
  deriving DecidableEq, Repr

/-! ### Start, loader and keys (chapter 11) -/

/-- The start machine, the loader and the key registers (R304 to R327). -/
structure StartSt where
  /-- The always-on supply and the block supply are up (R439). -/
  aoUp : Bool
  blkUp : Bool
  porstLow : Bool
  hrstLow : Bool
  /-- START_STATUS.STATE, Table 11-1. -/
  state : Nat
  causeCode : Nat
  warm : Bool
  /-- A Curtain restart waits for the block supply (R304). -/
  curtPend : Bool
  /-- The margin record and the stored book have not been read since the last cold start (R245, R354). -/
  coldDue : Bool
  /-- FROM_HOST, and whether the start in progress takes its image from the host stream. -/
  fromHost : Bool
  streaming : Bool
  pbMinor : Nat
  starts : Nat
  reason : Nat
  sect : Nat
  detail : Nat
  offset : Nat
  imageVer : Nat
  density : Nat
  mode : Nat
  addr4 : Bool
  sfdpRev : Nat
  /-- The flash answered DISCOVER with a usable table (R310). -/
  flashOk : Bool
  keyDigest : List Nat
  keyMinVer : Nat
  keyLocked : Bool
  /-- KEY_WAIT has lasted 100 ms (R434). -/
  keyWaitLong : Bool
  /-- The LIVE edge of this start has passed. -/
  live : Bool
  /-- `up` at the start of SETTLE (R308). -/
  settleUp : Nat
  /-- Loader operation in progress, its length, its stream so far, DONE and STATUS (R322). -/
  ldOp : Nat
  ldLen : Nat
  ldGot : List Nat
  ldUp : Option Nat
  ldBusy : Bool
  ldDone : Bool
  ldStatus : Nat
  /-- RESTART waits for a store to finish (R322). -/
  restartWait : Bool
  /-- BCLK is absent; it has been absent since the last start (R390). -/
  bclkAbsent : Bool
  bclkWas : Bool
  aoclkBad : Bool
  /-- A private test instruction is selected, and the state is undefined until HRST_N (R446). -/
  testMode : Bool
  undef : Bool
  partId : Nat
  partIdLatched : Bool
  deriving DecidableEq, Repr

/-! ### The ticket fabric (chapters 02 and 03) -/

/-- What the agent map gives one Agent (R42, R95, R96). -/
structure AgentCfg where
  dom : Nat
  lease : Bool
  poolCeil : Nat
  /-- 1/256 ticket per ns (R53). -/
  maxLease : Nat
  isArray : Bool
  clkDom : Nat
  /-- MHz. -/
  fMax : Nat
  /-- 1/256 ticket per ns (R96). -/
  bypRate : Nat
  /-- The GIVE watchdog in host cycles (R95). -/
  wd : Nat
  deriving DecidableEq, Repr, Inhabited

/-- One holder entry (R46) with the host cycles and ticks that it has waited. -/
structure Holder where
  wait : Bool
  reserving : Bool
  descSent : Bool
  reclaimed : Bool
  prio : Nat
  cls : Nat
  cost : Nat
  reason : Nat
  /-- Host cycles since the pending request was accepted (R47). -/
  w : Nat
  /-- The first edge or tick after the pending request was accepted, in quarters of a tick (R91). -/
  since : Nat
  /-- An Expired or a Refused status waits for its pulse (R81). -/
  expired : Bool
  refused : Bool
  deriving DecidableEq, Repr

/-- The engine counters of one Agent (R364). -/
structure EngCount where
  busy : Nat
  idle : Nat
  overlap : Nat
  stall : Tab Nat
  deriving DecidableEq, Repr

/-- A closed ceiling window: its refill and sample, the lump tickets and all tickets granted under it (R61, R64). -/
structure WinRec where
  refill : Nat
  sample : Nat
  lump : Nat
  all : Nat
  deriving DecidableEq, Repr

/-- One Agent: counters, pool, ceilings, lease, bypass and holders. -/
structure Agent where
  recv : Nat
  spent : Nat
  ret : Nat
  rcLeft : Nat
  /-- The part of `rcLeft` that is slew credit (R75). -/
  credit : Nat
  grantedNow : Nat
  poolTag : Nat
  rateTag : Nat
  /-- Refill and sample of the GIVE whose ceiling window is open (R64), and what was granted under it. -/
  winRefill : Nat
  winSample : Nat
  winLump : Nat
  winAll : Nat
  /-- Closed ceiling windows that have not been reported (R61). -/
  closed : List WinRec
  /-- TK_GNT pulse for the next host cycle: holder, status, cost. -/
  pulse : Option (Nat × Nat × Nat)
  /-- TK_WAIT_REASON and TL_WAIT_REASON as driven (R65, R56). -/
  tkReason : Nat
  tlReason : Nat
  /-- The lease: granted rate in 2^-24 ticket per ns, target, requested rate as driven and as sampled, ceiling (R53, R54). -/
  rateQ : Nat
  target : Nat
  reqRate : Nat
  /-- The requested rate as sampled at the boundaries that a GIVE may still name, by refill (R54). -/
  reqAt : Tab Nat
  leaseCeil : Nat
  /-- The pool or the lease ceiling holds the target below the request (R56). -/
  poolBound : Bool
  /-- Slope taken in the last host cycle, in 2^-24 ticket per ns per ns (R73). -/
  took : Nat
  /-- The fraction accumulator, in 1/65,536 ticket, and the part of a charge below its LSB, in 1/16,777,216,000 ticket (R55). -/
  acc : Nat
  accRest : Nat
  igniting : Bool
  /-- Under a hand hold (R102); ENG_RST accepted high (R92). -/
  handHold : Bool
  engRst : Bool
  /-- Bypass (R95, R96): flag, cause of the last entry, entries, causes seen, bucket in 2^-16 ticket, BYP_GRANTED. -/
  byp : Bool
  bypCause : Nat
  bypEntries : Nat
  causesSeen : Nat
  bucket : Int
  bypGranted : Nat
  /-- Holder entries that fail their check uncorrectably at the next access (R96). -/
  badHolders : List Nat
  /-- A RESTORE waits for its RESYNC (R98). -/
  resyncWait : Bool
  /-- The GIVE watchdog runs (R95), and the host cycles since the last GIVE. -/
  wdRun : Bool
  wdCyc : Nat
  /-- Grants made by hand whose pulse waits for the line: holder and cost (R81, R102). -/
  handGrants : List (Nat × Nat)
  /-- Epoch of 4 µs, tickets granted and returns accepted in it and in the one before (R68). -/
  epoch : Nat
  epGrant : Nat
  epGrantOld : Nat
  epRet : Nat
  epRetOld : Nat
  /-- Returns accepted and not yet reported, by sample (R68). -/
  retSample : Nat
  eng : EngCount
  holders : Tab Holder
  deriving DecidableEq, Repr

/-- What the Office knows of one Agent (R60, R66). -/
structure OfficeAgent where
  sent : Nat
  repSpent : Nat
  repRecv : Nat
  repRet : Nat
  demand : Nat
  /-- Slew credit reported as carried (R88). -/
  credit : Nat
  /-- Requested lease rate as reported. -/
  req : Nat
  /-- The Office counts the Agent again from the next sample edge (R98). -/
  rejoin : Bool
  deriving DecidableEq, Repr

/-- The Office's account of one Booth and domain in the current sample (R58, R60, R88). -/
structure BoothDom where
  quota : Nat
  gk : Nat
  /-- `send` of R88, and what has been sent of it and of the returns credited. -/
  send : Nat
  sent : Nat
  /-- Returns credited in the sample so far (R68). -/
  credited : Nat
  /-- Grant-budget share offered in the sample so far (R89). -/
  shared : Nat
  bypCharge : Nat
  /-- granted(j) and uncredited returns of the last 16 samples, newest first (R88). -/
  granted : List Nat
  uncredited : List Nat
  /-- The edge since which the Booth and domain has been stopped, in quarters of a tick (R89, R91), and whether an expiry has been
  told of. -/
  stopUp : Option Nat
  stopTold : Bool
  tag : Nat
  /-- Tickets that the Booth holds until its next refill of the same sample (R59). -/
  held : Nat
  deriving DecidableEq, Repr

/-- A REFILL message: Office to Booth (R61). -/
structure RefillMsg where
  refill : Nat
  sample : Nat
  len : Nat
  /-- Tickets per domain. -/
  amount : Tab Nat
  /-- Share of the lump rate ceiling of R74, and the grant-budget share and pacing share per domain. -/
  rc : Nat
  share : Tab Nat
  pace : Tab Nat
  /-- Lease ceilings by Agent, 1/256 ticket per ns. -/
  lease : Tab Nat
  poolTag : Tab Nat
  deriving DecidableEq, Repr

/-- A GIVE: Booth to Agent (R64). -/
structure GiveMsg where
  refill : Nat
  sample : Nat
  tickets : Nat
  rc : Nat
  lease : Nat
  poolTag : Nat
  rateTag : Nat
  deriving DecidableEq, Repr

/-- A REPORT: Agent to Booth (R59, R61). -/
structure AgentRep where
  agent : Nat
  recv : Nat
  spent : Nat
  ret : Nat
  wins : List WinRec
  demand : Nat
  credit : Nat
  req : Nat
  /-- Returns accepted since the last report, and the sample in which they were (R68). -/
  retNow : Nat
  retK : Nat
  deriving DecidableEq, Repr

/-- The counts of one channel of the ticket network (R44). -/
structure Chan where
  msgsSent : Nat
  msgsRecv : Nat
  tksSent : Nat
  tksRecv : Nat
  deriving DecidableEq, Repr

/-- One context slot of a Booth: context and tap counts of the window (R134, R135). -/
structure ActSlot where
  ctx : Nat
  taps : Tab Nat
  deriving DecidableEq, Repr

/-- One Booth: its replica of the demands, its slots and its failure (R59, R100, R135). -/
structure Booth where
  failed : Bool
  missed : Nat
  /-- Reports received since the last boundary, and the last report of each Agent as latched (R61). -/
  inbox : List AgentRep
  reps : Tab AgentRep
  slots : Tab ActSlot
  /-- Contexts that hold slots 0 to 3 in this sample, in order of appearance. -/
  ctxs : List Nat
  overflow : Bool
  /-- Busy and stalled cycles per context in this sample (R367). -/
  busy : Tab Nat
  stall : Tab Nat
  deriving DecidableEq, Repr

/-- A hand operation that waits for its refill boundary (R102). -/
structure AgentCmd where
  op : Nat
  priv : Nat
  agent : Nat
  holder : Nat
  count : Nat
  deriving DecidableEq, Repr

/-- What TKT_SEL.LATCH latched (R79, R366). -/
structure TkLatch where
  sent : Nat
  recv : Nat
  spent : Nat
  ret : Nat
  entry : Nat
  state : Word
  fault : Word
  bypGranted : Nat
  eng : EngCount
  deriving DecidableEq, Repr

/-- The ticket fabric. -/
structure TicketSt where
  agents : Tab Agent
  office : Tab OfficeAgent
  bds : Tab BoothDom
  booths : Tab Booth
  /-- Class cost table, active and shadow: key class × 2 + word (R49, R52). -/
  cost : Tab Nat
  shadow : Tab Nat
  swap : Bool
  /-- Refill index in the sample and refill number since start (R57). -/
  i : Nat
  j : Nat
  /-- Sample number and index of the window that the last boundary began (R134). -/
  win : Option (Nat × Nat)
  /-- RC(j−1) and G by refill number (R74). -/
  rc : Nat
  g : Tab Nat
  /-- Die slope S × V in A/ns × 0.25 mV latched at the last edge (R72). -/
  slopeSV : Nat
  /-- REFILL, GIVE, REPORT and summary messages in flight, first in first out, by Booth or Agent. -/
  toBooth : Tab (List RefillMsg)
  toAgent : Tab (List GiveMsg)
  toBoothUp : Tab (List AgentRep)
  toOffice : Tab (List (List AgentRep))
  chans : Tab Chan
  cmd : Option AgentCmd
  cmdDone : Bool
  cmdStatus : Nat
  /-- A write of TKT_SEL.LATCH waits for its boundary. -/
  latchReq : Bool
  latched : Bool
  lat : TkLatch
  lateRefill : Nat
  retClip : Nat
  retConflict : Nat
  reqReplace : Nat
  ignitions : Nat
  forcedExpiry : Nat
  oversize : Nat
  ceilRefused : Nat
  reclaims : Nat
  bypassEntries : Nat
  handAdded : Nat
  handDiscard : Nat
  ctxOverflow : Nat
  /-- Clock domains whose Agents are held while a Scene settles (R185). -/
  settle : List Nat
  deriving DecidableEq, Repr

/-! ### Instructions of the core as the loader reads them (R116) -/

/-- The classes of Table 4-5. -/
inductive InsnClass where
  | alu | mul | mem | table | skip | loop | vec | reduce | interp | vmem | gather | array
  deriving DecidableEq, Repr, Inhabited

/-- What one instruction does. The manual gives instructions by class and not by encoding; the chapters give what the
routines compute. So an act is either a plain operation of the arithmetic of chapter 04, or one whole computation that a
chapter lays down. Registers are numbered within the thread; block operands name the word at which a block of vector
memory begins. -/
inductive CoreAct where
  | nothing
  /-- Scalar operation by code: rd := ra op rb. -/
  | scalar (op rd ra rb : Nat)
  /-- Scalar multiply, 32 × 32 to 64 bits: low word to rd, high word to the register after it. -/
  | mulWide (signed : Bool) (rd ra rb : Nat)
  /-- Scalar select: rd := ra where register rc is not 0, else rb. -/
  | selectS (rd rc ra rb : Nat)
  | loadW (rd ra off : Nat)
  | storeW (rs ra off : Nat)
  | tableW (rd ra off : Nat)
  /-- Skips `n` instructions when register `ra` is not 0. -/
  | skipIf (ra n : Nat)
  /-- Runs the next `len` instructions `count` times. -/
  | loopN (count len : Nat)
  /-- Elementwise stage by code; `sr` selects stochastic rounding. -/
  | vector (op vd va vb : Nat) (sr : Bool)
  /-- Reduction by code, 0 sum, 1 max, 2 min. -/
  | reduceV (op vd va : Nat) (sr : Bool)
  | interpV (vd tab va : Nat) (sr : Bool)
  | moveV (vd va : Nat)
  | gatherV (vd tab va : Nat)
  /-- Array operation: `b` input vectors of `n` elements at `va`, `m` outputs at `vd`, weights at `wa`. -/
  | arrayM (vd va wa m n b : Nat) (act : Bool)
  | features
  | correction
  | estimate
  | filter
  | judge
  | adapt
  | pctl
  | thermalPart (part : Nat)
  /-- One tile of a part, by its place in the list of tiles (R152). -/
  | thermalTile (tile : Nat)
  | thermalEnd
  | stage
  | commit
  | windows
  | region
  | loops
  | cues
  | learn
  | prePosition
  | allowance
  | allocation
  | thermal
  | package
  deriving DecidableEq, Repr, Inhabited

/-- One instruction. A plain operation's class, operands and size follow from its act; the other fields give those of a whole
computation. `tiles` and `batch` size an array operation. Log 11 DESIGN CHOICE. -/
structure CoreInsn where
  cls : InsnClass
  dst : Option Nat
  srcs : List Nat
  tiles : Nat
  batch : Nat
  activation : Bool
  act : CoreAct
  deriving DecidableEq, Repr, Inhabited
/-! ### Estimation (chapter 05): what the Playbill gives -/

/-- One activity tap (R133, R138). -/
structure TapCfg where
  booth : Nat
  loc : Nat
  feature : Nat
  weight : Nat
  deriving DecidableEq, Repr, Inhabited

/-- One feature: zone, shift, seed gain and its bounds in Q16 (R138, R145). -/
structure FeatCfg where
  zone : Nat
  shift : Nat
  seed : Int
  lo : Int
  hi : Int
  deriving DecidableEq, Repr, Inhabited

/-- One power zone (R133, R139, R140, R154). -/
structure ZoneCfg where
  rail : Nat
  dom : Nat
  nodes : List Nat
  sites : List Nat
  /-- κ_z in 1/4,096. -/
  kappa : Nat
  /-- CORR_LIM_z in mW. -/
  corrLim : Nat
  /-- Whether the section has a leakage table for the zone, and the table in 4 mW: key i × 16 + j. -/
  leakHere : Bool
  leak : Tab Nat
  deriving DecidableEq, Repr, Inhabited

/-- One tile of the thermal model (R151, R152). -/
structure TileCfg where
  part : Nat
  /-- First of its 64 nodes. -/
  base : Nat
  coupling : List Nat
  /-- Fourteen power inputs: zone and share in 1/4,096. -/
  power : List (Nat × Nat)
  /-- M_t: key row × 96 + column, mantissas with one exponent. -/
  m : Tab Int
  exp : Int
  deriving DecidableEq, Repr, Inhabited

/-- The model weights section (R133 to R155). -/
structure ModelCfg where
  taps : Tab TapCfg
  feats : Tab FeatCfg
  zones : Tab ZoneCfg
  /-- T0 and ΔT in 1/16 °C, V0 and ΔV in 0.25 mV (R139). -/
  t0 : Int
  dT : Int
  v0 : Int
  dV : Int
  netOn : Bool
  /-- δ, phi_max in 2^-48 of 1/W² (R145). -/
  delta : Int
  phiMax : Int
  tiles : List TileCfg
  /-- Observer gain G in Q16, design coolant temperature in 1/16 °C, warm-up updates (R153 to R155). -/
  gain : Int
  coolant : Int
  warmup : Nat
  measured : List Nat
  deriving DecidableEq, Repr, Inhabited

/-! ### Estimation: inputs, memory and outputs -/

/-- One activity record as received (R134, R136). -/
structure ActRec where
  booth : Nat
  slot : Nat
  ctx : Nat
  taps : Tab Nat
  deriving DecidableEq, Repr

/-- One telemetry sample (R142, R143): request tick by `up`, answers, and the sums once it is complete. -/
structure TelSample where
  up : Nat
  complete : Bool
  /-- P_meas in 1/65,536 mW. -/
  pMeas : Int
  /-- Measured energy of the interval in 1/65,536 µJ. -/
  eMeas : Int
  deriving DecidableEq, Repr

/-- The telemetry receive path and the activity unit, outside the Control Program. -/
structure TelSt where
  /-- A phase is open: the tick of its request by `up`, and the rails that have answered. -/
  phase : Option Nat
  answered : Tab (Nat × Nat)
  /-- Last reported power of each rail, 1/65,536 mW (R143). -/
  lastP : Tab Int
  /-- The latest sample that ended since the last edge at which the Control Program ran (R144). -/
  sample : Option TelSample
  missing : Nat
  /-- EST_E_MEAS in 1/65,536 µJ. -/
  eMeas : Nat
  /-- Activity of the records that have arrived since the last edge (R136). -/
  act : Tab Nat
  recs : List ActRec
  lateAct : Nat
  /-- Coolant report in 1/16 °C and `up` when it came, and whether it came since start (R153). -/
  coolant : Option (Int × Nat)
  coolNew : Bool
  deriving DecidableEq, Repr

/-- What the estimator keeps of one sample for the telemetry interval (R144, R145). -/
structure SampRec where
  /-- The sample's edge in quarter ticks by `up`. -/
  q : Nat
  /-- P_est over the measured zones, and its leakage, correction and bypass terms, 1/65,536 mW. -/
  est : Int
  other : Int
  d : Tab Int
  deriving DecidableEq, Repr

/-- Energy staged in one sample, by context, 1/65,536 µJ (R162): of measured and of unmeasured zones. -/
structure StageRec where
  /-- The sample's edge in quarter ticks by `up`. -/
  q : Nat
  m : Tab Int
  u : Tab Int
  deriving DecidableEq, Repr

/-- Plausibility of one thermal site (R154 to R158). -/
structure SitePlaus where
  cold : Nat
  hot : Nat
  broken : Bool
  causeCold : Bool
  residual : Int
  /-- x̂_s in 1/16 °C, once the model gives one. -/
  pred : Option Int
  /-- Reading that the last update used (R154). -/
  used : Nat
  deriving DecidableEq, Repr

/-- The estimator's part of core memory. -/
structure EstMem where
  theta : Tab Int
  /-- θ written in this sample, for the samples that follow (R146). -/
  thetaNext : Option (Tab Int)
  phi : Tab Int
  /-- D_f of this sample and the three before it, 1/65,536 mW (R140). -/
  d : List (Tab Int)
  corr : Tab Int
  /-- F in 1/65,536 mW once a complete sample has come (R144). -/
  f : Option Int
  hist : List SampRec
  staged : List StageRec
  /-- Consecutive incomplete samples (R148). -/
  incRun : Nat
  /-- This sample's telemetry test: 0 none, 1 agrees, 2 disagrees, 3 incomplete, 4 partial. -/
  judged : Nat
  /-- Thermal model: state, the state being written, tiles done in this update, inputs latched (R151 to R153). -/
  nodes : Tab Int
  next : Tab Int
  done : List Nat
  /-- An update has been latched and has not ended. -/
  updating : Bool
  inited : Bool
  zHist : List (Tab Int)
  /-- κ_z × Λ_z of the latest estimate, 1/65,536 mW (R162). -/
  leakX : Tab Int
  zIn : Tab Int
  cool : Int
  /-- New readings of the update: number, reading, and whether the site is broken (R154). -/
  reads : Tab (Nat × Int × Bool)
  plaus : Tab SitePlaus
  /-- Runs of majority updates, direction of the last update's majority and its mean hot residual (R159). -/
  coldRun : Nat
  noColdRun : Nat
  hotRun : Nat
  hotMean : Int
  deriving DecidableEq, Repr

/-- What the estimator writes into O_k. -/
structure EstOut where
  pEst : Nat
  pF : Nat
  pCtl : Nat
  zoneP : Tab Nat
  zoneLeak : Tab Nat
  zoneT : Tab Int
  zoneV : Tab Nat
  untrusted : Bool
  unverified : Bool
  frozen : Bool
  disCount : Nat
  agreeCount : Nat
  attrClamp : Nat
  phiReinit : Nat
  /-- Context energy counters and EST_E_ATTR in 1/65,536 µJ (R164, R165). -/
  ctxE : Tab Nat
  eAttr : Nat
  updates : Nat
  raises : Nat
  warmup : Bool
  coldMaj : Bool
  tModMax : Int
  sites : Tab SitePlaus
  deriving DecidableEq, Repr

/-! ### Control laws, Scenes, Cues and feed-forward (chapter 06) -/

/-- A loop descriptor (Table 6-2). -/
structure LoopCfg where
  kind : Nat
  inst : Nat
  group : Nat
  runLog2 : Nat
  esShift : Nat
  eScale : Nat
  duMax : Nat
  ssUp : Nat
  ssDown : Nat
  uMin : Nat
  uMax : Nat
  deriving DecidableEq, Repr, Inhabited

/-- A gain table (R169): 33 KP and 33 KI mantissas and their exponents. -/
structure GainTab where
  kp : List Nat
  ki : List Nat
  kpExp : Int
  kiExp : Int
  deriving DecidableEq, Repr, Inhabited

/-- A region table entry (Table 6-3). -/
structure RegionCfg where
  modes : Nat
  opLo : Nat
  opHi : Nat
  tset : Nat
  tLo : Int
  tHi : Int
  deriving DecidableEq, Repr, Inhabited

/-- One rail: interface (0 Fast Rail Interface, 1 AVSBus), core flag, maximum voltage, and its calibration (R315, R316). -/
structure RailCfg where
  iface : Nat
  core : Bool
  maxV : Nat
  /-- g_r in Q16, o_r in mW (R143). -/
  gain : Int
  off : Int
  /-- R_LL in µΩ, share in 1/65,536, slew in mV per µs, W1 limit in 1/16 A if the rail has one (R184, R191, R200). -/
  rll : Nat
  share : Nat
  slew : Nat
  w1 : Option Nat
  deriving DecidableEq, Repr, Inhabited

/-- What the gain tables, limits, step profile seed and rail items of the Playbill give the laws. -/
structure LawCfg where
  loops : Tab LoopCfg
  gains : Tab GainTab
  regions : Tab RegionCfg
  /-- Operating points: MHz and voltage in 0.25 mV (R180). -/
  ops : List (Nat × Nat)
  opCeil : Nat
  /-- Fixed frequency of a clock domain; unlisted domains follow the operating point (R180). -/
  fixed : Tab Nat
  rails : Tab RailCfg
  /-- SEED_L, the seed entries and the Transition Table words: key entry × 2 + word (R187, R189). -/
  seedL : Nat
  seed : Tab Nat
  tt : Tab Nat
  deriving DecidableEq, Repr, Inhabited

/-- One loop instance (R170, R171, R178): u, r, e_prev and y in Q16 of their units. -/
structure LoopSt where
  u : Int
  r : Int
  ePrev : Int
  y : Int
  target : Int
  /-- Engaged; has run since it was engaged; a soft start is in progress, and its first run is still to come. -/
  engaged : Bool
  ran : Bool
  soft : Bool
  pend : Bool
  /-- Has been engaged since start, so u is no longer U_MAX by R171. -/
  used : Bool
  uSat : Bool
  duClip : Bool
  tset : Nat
  deriving DecidableEq, Repr

/-- A stored Cue (R195, R196). -/
structure CueEntry where
  ctx : Nat
  tag : Nat
  anchor : Nat
  dur : Nat
  intensity : Nat
  hint : Nat
  unknown : Bool
  since : Nat
  /-- Sample in which it came into view. -/
  view : Option Nat
  deriving DecidableEq, Repr

/-- The laws' part of core memory. -/
structure LawMem where
  loops : Tab LoopSt
  region : Option Nat
  /-- A region has been chosen since start (R175). -/
  chosen : Bool
  /-- Step Profile Table: entries that differ from `fill`; what all others hold; length of last use; SPT_STEPS (R187). -/
  spt : Tab Nat
  fill : Nat
  sptL : Option Nat
  steps : Nat
  /-- V_pp by rail, 1/65,536 of 0.25 mV (R191). -/
  vpp : Tab Int
  /-- Adapted DV, clean counts and entries tripped in this step (R189). -/
  dv : Tab Nat
  clean : Tab Nat
  tripped : List Nat
  cues : List CueEntry
  deriving DecidableEq, Repr

/-- What the laws write into O_k. -/
structure LawOut where
  loops : Tab LoopSt
  region : Option Nat
  noMatch : Bool
  noRegion : Nat
  /-- Offsets of the core rails over V_op + V_guard, 0.25 mV (R191). -/
  extra : Tab Nat
  vppMax : Nat
  peak : Nat
  sptSkip : Nat
  /-- SPT_STEPS as published (R187). -/
  sptSteps : Nat
  /-- Step position φ for ORD_POSITION (R36). -/
  pos : Option Nat
  /-- Lowest SLEW_PCT in view (R192). -/
  slewPct : Option Nat
  ffActive : Bool
  sptReady : Bool
  ttActive : Bool
  cueActive : Bool
  ssAny : Bool
  cueClamp : Nat
  cueReplace : Nat
  cueDrop : Nat
  cueBad : Nat
  cueExpire : Nat
  hintIgnored : Nat
  cueCtxLimit : Nat
  /-- A run of this sample set U_SAT, DU_CLIP (R172). -/
  uSat : Bool
  duClip : Bool
  deriving DecidableEq, Repr

/-- A pending step of an operating point change (R184): operating point, edges left, and whether the frequency waits. -/
structure OpStep where
  op : Nat
  left : Nat
  freq : Bool
  deriving DecidableEq, Repr

/-- Scenes, Cue input and the actuators that follow the operating point, outside the Control Program. -/
structure LawSt where
  /-- Scene table words: key scene × 2 + word, and the writes that wait for the next sample (R181, R183). -/
  scene : Tab Nat
  sceneWr : List (Nat × Nat)
  sceneCmdSt : Bool
  sceneInvalid : Nat
  /-- Latched Scene that was found invalid, so that it is counted once (R182). -/
  invalidLatched : Option Nat
  sptWr : List (Nat × Nat)
  /-- The Cue input buffer: context and the 64 bits (R193). -/
  cueBuf : List (Nat × Nat)
  /-- Anchors of stored Cues whose time limit has passed, for the next sample that runs (R196). -/
  cueOld : List Nat
  /-- CTL_FLAGS. -/
  uSat : Bool
  duClip : Bool
  /-- Applied operating point: voltage and frequency index, the pending step, and the target last taken (R184). -/
  opV : Nat
  opF : Nat
  opTarget : Nat
  opStep : Option OpStep
  /-- Rail targets applied, 0.25 mV; those applied in the sample before (R139). -/
  railV : Tab Nat
  railPrev : Tab Nat
  /-- The current Scene, as the last edge latched it, and as the edge before did (R182). -/
  sceneLat : Nat
  scenePrev : Nat
  /-- Clock Target Port: MHz by domain. -/
  clock : Tab Nat
  deriving DecidableEq, Repr

/-! ### Caps, windows, modes and ramps (chapter 07) -/

/-- What the limits section gives (R199, R200, R206, R211, R219). -/
structure CapCfg where
  dieCeil : Nat
  /-- Design copies by window: W1 in 1/16 A, W2 to W6 in mW. -/
  die : Tab Nat
  pkg : Tab Nat
  domOrder : Nat
  floor : Tab Nat
  ceil : Tab Nat
  /-- BD_CEIL by Booth × 4 + domain. -/
  bdCeil : Tab Nat
  /-- Matched Table: CAP in W, OP, RATE; MATCH_KAPPA_MAX. -/
  matched : List (Nat × Nat × Nat)
  kappaMax : Nat
  pkgFloor : Nat
  pkgUnmanaged : Nat
  orphanDie : Nat
  orphanPkg : Nat
  auth : Nat
  modeAllow : Nat
  leakAction : Nat
  holdPct : Nat
  dieSlew : Nat
  pSel : Nat
  qSel : Nat
  deriving DecidableEq, Repr, Inhabited

/-- A facility ramp (R224, R225). -/
structure Ramp where
  id : Nat
  c0 : Nat
  c1 : Nat
  t0 : Nat
  d : Nat
  deriving DecidableEq, Repr

/-- The copies and requests that other parties set, outside the Control Program (R206 to R208, R224 to R227). -/
structure CapSt where
  /-- Management copies by window; an unlisted window has none. -/
  mDie : Tab Nat
  mPkg : Tab Nat
  mAllow : Option Nat
  mSlew : Option Nat
  mHold : Option Nat
  auth : Nat
  /-- Set Authority has been accepted since the last cold start (R208, R305). -/
  authSet : Bool
  hostRefused : Bool
  /-- The ramp in force, those that wait for their own t0 in the order of their commands, the value in force and the one before
  it. -/
  ramp : Option Ramp
  next : List Ramp
  val : Option Nat
  prev : Option Nat
  refused : Nat
  /-- A limit from management or a ramp step has changed since the last edge (R130). -/
  changed : Bool
  rampStep : Bool
  deriving DecidableEq, Repr

/-- The bins of one window (R201): open energy, its samples, closed bins newest first, in µJ. -/
structure Win where
  cur : Nat
  s : Nat
  closed : List Nat
  deriving DecidableEq, Repr

/-- The caps' part of core memory. -/
structure CapMem where
  die : Tab Win
  pkg : Tab Win
  lastE : Nat
  /-- Rail currents of the samples of the last tick interval, newest first, in 1/4,096 A (R203). -/
  cur : List (Tab Nat)
  fbRun : Nat
  retRun : Nat
  fallback : Bool
  /-- Samples since the last change of target (R216). -/
  dwell : Nat
  unattRun : Nat
  deriving DecidableEq, Repr

/-- What the caps and the allocation write into O_k. -/
structure CapOut where
  y : Tab Nat
  yPkg : Tab Nat
  w1 : Tab Nat
  a : Nat
  baseSum : Nat
  bindKind : Nat
  bindSrc : Nat
  mode : Nat
  pref : Nat
  ffHeld : Bool
  matchShort : Bool
  susp : Bool
  pacing : Bool
  unatt : Bool
  esc : Bool
  opTarget : Nat
  t : Tab Nat
  lkfx : Tab Nat
  quota : Tab Nat
  tag : Tab Nat
  /-- Pacing ceilings by Booth × 4 + domain in 1/65,536 ticket per ns, for the domains that pace. -/
  pace : Tab Nat
  cuEntries : Nat
  supplyEscs : Nat
  fbCount : Nat
  shorts : Nat
  bindChanges : Nat
  escUp : Nat
  deriving DecidableEq, Repr

/-! ### Droop reflexes and margin (chapter 08) -/

/-- One droop detector of the sensor map (R231): depths in 2 mV. -/
structure DetCfg where
  rail : Nat
  region : Nat
  d1 : Nat
  d2 : Nat
  d3 : Nat
  deriving DecidableEq, Repr, Inhabited

/-- One droop detector (R233, R237, R238). -/
structure DetSt where
  level : Nat
  /-- The local supply at the last crossing, 0.25 mV (R236). -/
  supply : Nat
  stuck : Bool
  trips : Nat
  deriving DecidableEq, Repr

/-- One stretch region (R233, R235, R237). -/
structure Region where
  /-- The detected level (R235): the highest level of the unmasked detectors, falling one level per STRETCH_HOLD; 0 from the
  instant at which HOLD_MAX masks those above level 0. -/
  u : Nat
  /-- The region's level but for FORCED: what the detected level has been, falling one level per STRETCH_HOLD. -/
  drive : Nat
  forced : Bool
  /-- The hold has been lifted, and no unmasked detector has risen from 0 since. -/
  lifted : Bool
  events : Nat
  /-- Detectors counted in the running event. -/
  hit : List Nat
  deriving DecidableEq, Repr

/-- One ageing monitor (R241). -/
structure AgeMon where
  minCode : Nat
  lastCode : Nat
  failed : Bool
  /-- EXCLUDE in force since the last trim instant. -/
  excluded : Bool
  /-- EXCLUDE as written, for the next trim instant. -/
  exclNext : Bool
  /-- Valid reads in this trim interval. -/
  reads : Nat
  deriving DecidableEq, Repr

/-- Detectors, regions, the guard band, the margin trim and its store. -/
structure MarginSt where
  dets : Tab DetSt
  regions : Tab Region
  /-- V_ref by rail, 1/1,000 of 0.25 mV, and the rails that have one (R232). -/
  vref : Tab Nat
  /-- Droop events since the last edge, in the running rate window, and in the window that waits for its end (R240). -/
  events : Nat
  window : Nat
  due : Option Nat
  /-- Windows without a sample that a count step has skipped, after the one that waits (R31). -/
  dueMore : Nat
  winEvents : Nat
  highRun : Nat
  lowRun : Nat
  /-- V_dr decided and V_dr applied, 0.25 mV; a raise that waits for its edge. -/
  vdr : Nat
  vdrApplied : Nat
  raisePend : Bool
  drRaises : Nat
  holdLifts : Nat
  /-- trim and trim as applied, in 1.25 mV steps; GUARD_BASE and applied V_guard in 0.25 mV. -/
  trim : Int
  base : Nat
  guard : Int
  lastDown : Nat
  mons : Tab AgeMon
  readDue : Bool
  /-- Trim instants that wait, and the highest sample number whose windows and instants have been met (R31, R242). -/
  trimDue : Nat
  met : Option Nat
  lastS : Nat
  skipped : Nat
  downSteps : Nat
  upSteps : Nat
  /-- A store runs: the captured words. -/
  storing : Option (List Nat)
  done : Bool
  status : Nat
  source : Nat
  stores : Nat
  deriving DecidableEq, Repr
/-! ### Temperature protection and the Curtain (chapter 09) -/

/-- One thermal site of the sensor map, with its trim from the calibration section (R248). -/
structure SiteCfg where
  region : Nat
  node : Nat
  neighbours : List Nat
  off : Int
  /-- Gain in 1/65,536. -/
  gain : Int
  deriving DecidableEq, Repr, Inhabited

/-- What the limits section and the sensor map give the thermal path (R251, R254, R263, R268); temperatures in 1/16 °C. -/
structure ThermCfg where
  sites : Tab SiteCfg
  subEn : Bool
  warn : Int
  warnRel : Int
  thr : Int
  thrRel : Int
  shut : Int
  restart : Int
  coolMs : Nat
  deriving DecidableEq, Repr, Inhabited

/-- One thermal site (R248, R249). -/
structure SiteSt where
  /-- Last accepted trimmed reading and its number. -/
  reading : Option Int
  readId : Nat
  /-- `up` at the last accepted reading, or at the start. -/
  since : Nat
  /-- CAUSE, Table 9-1. -/
  cause : Nat
  parity : Bool
  deriving DecidableEq, Repr

/-- The thresholds in force, 1/16 °C (R251, R263). -/
structure ThrEff where
  warn : Int
  warnRel : Int
  thr : Int
  thrRel : Int
  shut : Int
  deriving DecidableEq, Repr

/-- The Safety Curtain, on the always-on supply (R262 to R269). -/
structure CurtSt where
  /-- Cycles of the Curtain oscillator at the last read. -/
  cyc : Nat
  /-- Last reading of each sensor, reads without conversion, failed sensors. -/
  reading : Tab Int
  noConv : Tab Nat
  failed : List Nat
  /-- Reads on which a pair's sensors differ, and DISAGREE. -/
  disRun : Tab Nat
  disagree : Tab Nat
  /-- Pairs at or above the threshold at the last read, by channel, and those whose channels disagreed. -/
  primary : List Nat
  checker : List Nat
  split : List Nat
  tripped : Bool
  lockout : Bool
  lockCause : Nat
  tripPair : Nat
  trips : Nat
  /-- Times of the last four trips, newest first. -/
  times : List Nat
  /-- Cycle since which every pair value has been below the restart temperature (R268). -/
  coolFrom : Option Nat
  selftestOk : Bool
  deriving DecidableEq, Repr

/-- Sites, thresholds, throttle handshake, enforcement and coolant. -/
structure ThermSt where
  sites : Tab SiteSt
  /-- Management copies: 0 Warning entry, 1 Warning release, 2 Throttle entry, 3 Throttle release, 4 Shutdown. -/
  mgmt : Tab Int
  mgmtSet : List Nat
  mgmtLvl : Nat
  /-- THR_LVL as driven, ACK_LVL, sample in which the grace timer expires, and whether THR_LVL exceeds ACK_LVL. -/
  level : Nat
  ackLvl : Nat
  grace : Option Nat
  /-- The timer expires at the coming edge (R259). -/
  enfDue : Bool
  exceeds : Bool
  enforcing : Bool
  enfHost : Bool
  /-- P_ref and C_enf in mW. -/
  pRef : Nat
  cEnf : Nat
  parityDiscard : Nat
  enfEntries : Nat
  forceEnf : Nat
  /-- COOL_FAULT, HB_OK, the watchdog, the instants in ns of the last accepted edge and of the first of the valid run (R270, R271). -/
  coolFault : Bool
  hbOk : Bool
  wdRun : Bool
  lastHb : Option Nat
  /-- The tick by `up` in which the heartbeat watchdog has last been started (R82, R270). -/
  hbUp : Option Nat
  hbRun : Option Nat
  hbLosses : Nat
  leakP : Bool
  leakN : Bool
  /-- A leak state runs its filter; LEAK_FAULT; the throttle hold of LEAK_ACTION 1 (R272). -/
  leakRun : Bool
  leakFault : Bool
  leakHold : Bool
  leakEvents : Nat
  deriving DecidableEq, Repr

/-- The thermal routine's part of core memory (R256). -/
structure ThermMem where
  lvl : Nat
  dwell : Nat
  deriving DecidableEq, Repr

/-- What the thermal routine writes into O_k. -/
structure ThermOut where
  state : Nat
  tTh : Int
  tSite : Nat
  /-- Hottest die temperature (Table 5-5). -/
  hot : Int
  lth : Nat
  level : Nat
  host : Bool
  forced : Bool
  brokenHold : Bool
  used : Tab Int
  /-- Sites whose substitute is in use (R254). -/
  subst : List Nat
  deriving DecidableEq, Repr
/-! ### Package, fleet and management (chapter 10) -/

/-- What the identity and limits sections give the package path (R278): build by die ID. -/
structure PkgCfg where
  dieId : Nat
  map : Tab Nat
  compute : List Nat
  /-- Sync-wait taps (R292). -/
  syncTaps : List Nat
  deriving DecidableEq, Repr, Inhabited

/-- What a block knows of one die of its package (R276, R279, R285). -/
structure DieRec where
  /-- `up` at the last JOIN or REPORT latched, and at the last REPORT. -/
  seen : Option Nat
  rptUp : Option Nat
  /-- Sample number of the last REPORT by its SEQ, and its fields in mW. -/
  rptK : Option Nat
  power : Nat
  demand : Nat
  applied : Nat
  cu : Bool
  build : Nat
  floor : Nat
  ceil : Nat
  minor : Nat
  slack : Nat
  left : Bool
  departed : Bool
  deriving DecidableEq, Repr

/-- The ledger of the Stage Manager, and of the Understudy that follows it (R284 to R290), in mW. -/
structure Ledger where
  /-- a_j, t_j, H_j, and the allocations sent by die: sample number and amount. -/
  a : Tab Nat
  t : Tab Nat
  h : Tab Nat
  sent : Tab (List (Nat × Nat))
  wait : List Nat
  /-- Last H of a die before its silence (R288). -/
  held : Tab Nat
  /-- `up` since which a raise has waited for its donors (R290), and dies whose target stays at a_j in the next sample. -/
  since : Tab Nat
  stay : List Nat
  cap : Nat
  esc : Bool
  escUp : Nat
  deriving DecidableEq, Repr

/-- The Die Budget Port side of the block. -/
structure PkgSt where
  role : Nat
  term : Nat
  smId : Nat
  usId : Nat
  /-- Another die carries this die's ID (R278). -/
  dup : Bool
  /-- The 200 ticks of JOIN have ended; `up` at LIVE. -/
  joined : Bool
  liveUp : Nat
  /-- An ALLOC or ROLES has been latched, and the highest TERM seen (R279). -/
  heard : Bool
  dies : Tab DieRec
  /-- Allocation in force, WAIT, and the copies that the next edge latches, by role: mW, WAIT, LAST_RPT (R286). -/
  alloc : Option Nat
  wait : Bool
  smCopy : Option (Nat × Bool × Nat)
  usCopy : Option (Nat × Bool × Nat)
  /-- Silence: state, allocation held, `up` of its start, of the last copy, of the last advance of LAST_RPT, and that LAST_RPT. -/
  silence : Nat
  heldAlloc : Nat
  silentUp : Nat
  copyUp : Nat
  rptUp : Nat
  lastRpt : Nat
  /-- A takeover edge after which a REPORT of every alive die is awaited (R280). -/
  barred : Option Nat
  smSeen : Nat
  led : Ledger
  /-- 0 none, 1 lowering, 2 LEAVE sent (R298). -/
  leaving : Nat
  rolesDue : Bool
  takeovers : Nat
  donorTimeouts : Nat
  dupDiscard : Nat
  late : Nat
  bad : Nat
  /-- Wait ticks of the sync-wait taps and ticks counted towards the next SLACK (R292). -/
  syncWait : Nat
  slack : Nat
  deriving DecidableEq, Repr

/-- One child of a parent package (R294 to R299), in W. -/
structure Child where
  id : Nat
  term : Nat
  admitted : Bool
  floor : Nat
  ceil : Nat
  demand : Nat
  applied : Nat
  power : Nat
  slack : Nat
  pkgs : Nat
  laggards : Nat
  h : Nat
  a : Nat
  delta : Int
  /-- Sequence of the last REPORT, `up` of its latching, allocations sent since: sequence and amount. -/
  seq : Nat
  rptUp : Nat
  sent : List (Nat × Nat)
  silent : Bool
  /-- H at the start of the silence. -/
  held : Nat
  left : Bool
  laggard : Bool
  /-- Intervals at the ceiling with a positive direction, and since a positive direction (R297). -/
  lagRun : Nat
  clearRun : Nat
  dir : Int
  wait : Bool
  deriving DecidableEq, Repr

/-- The Zilter side. -/
structure ZiltSt where
  placed : Bool
  id : Nat
  level : Nat
  parent : Nat
  /-- FLEET_BUDGET in W (R291). -/
  budget : Option Nat
  /-- F in W, WAIT and LAG_HOLD of the last ALLOC. -/
  f : Option Nat
  fWait : Bool
  lagHold : Bool
  /-- Silence of the parent (R296). -/
  silence : Nat
  heldF : Nat
  silentUp : Nat
  allocUp : Nat
  rptUp : Nat
  lastRpt : Nat
  lastAlloc : Nat
  parentTerm : Option Nat
  children : List Child
  b : Nat
  lagCount : Nat
  laggardOpens : Nat
  bad : Nat
  departures : Nat
  /-- 0 none, 1 lowering, 2 LEAVE sent, 3 acknowledged (R298). -/
  leaving : Nat
  /-- Energy of the interval in µJ, for POWER_W. -/
  energy : Nat
  /-- The interval, by its SEQ, that has been computed (R295). -/
  interval : Option Nat
  txDrop : Nat
  deriving DecidableEq, Repr

/-- A management command that waits for its SEQ (R301): what arrived, and `up` when it did. -/
structure HeldCmd where
  seq : Nat
  since : Nat
  code : Nat
  args : List Int
  deriving DecidableEq, Repr

/-- The management command path (R301, R302). -/
structure MgmtSt where
  state : Nat
  /-- `up` at the last accepted command or heartbeat. -/
  lastUp : Nat
  next : Option Nat
  held : List HeldCmd
  gapFirst : Nat
  gapLen : Nat
  gaps : Nat
  dupCmds : Nat
  /-- Effects that wait for the next sample edge (R415). -/
  todo : List (Nat × List Int)
  /-- The SEQ of an Orderly Shutdown that has not been answered. -/
  shutdown : Option Nat
  alertSeq : Nat
  deriving DecidableEq, Repr
/-! ### Observation (chapter 14) -/

/-- The controls of one trace buffer (Table 14-6). -/
structure TraceCtl where
  freezeOn : Bool
  link : Nat
  post : Nat
  trig : Word
  trig2 : Word
  thresh : Word
  srcs : Tab Word
  deriving DecidableEq, Repr

/-- One trace buffer (R371 to R375): its entries by index, and its controls as armed. -/
structure TraceBuf where
  state : Nat
  /-- An ARM waits for the next sample edge, with the controls held when it was written (R12). -/
  armReq : Bool
  asked : TraceCtl
  /-- FREEZE_ON, LINK, POST, the trigger words and the sources, as written and as armed. -/
  freezeOn : Bool
  link : Nat
  post : Nat
  trig : Word
  trig2 : Word
  thresh : Word
  srcs : Tab Word
  aFreezeOn : Bool
  aLink : Nat
  aPost : Nat
  aTrig : Word
  aTrig2 : Word
  aThresh : Word
  aSrcs : Tab Word
  /-- Entries of 64 bits by index. -/
  mem : Tab Nat
  wrPtr : Nat
  trigIdx : Nat
  left : Nat
  lost : Nat
  /-- Entries lost since the last entry. -/
  lostRun : Nat
  trigExtra : Nat
  /-- k / 256 of the last time entry; last value captured by source. -/
  timeK : Option Nat
  last : Tab Word
  deriving DecidableEq, Repr

/-- The snapshot unit (R377 to R383). -/
structure SnapSt where
  /-- 0 idle, 1 scheduled, 2 draining, 3 ready; the schedule's tick and FREEZE. -/
  state : Nat
  tick : Nat
  freeze : Bool
  /-- An edge at or after the tick has come, and the cut is to be taken. -/
  due : Bool
  timed : Bool
  status : Nat
  snaps : Nat
  /-- `up` and BCLK cycles by which TKT_SEL latches extend the drain. -/
  extend : Nat
  /-- Words of the records: key area × 2^17 + (booth × 64 + agent) × 32 + word. -/
  store : Tab Nat
  deriving DecidableEq, Repr

/-- Context and operation counters, trace and snapshots. -/
structure ObsSt where
  ops : Tab Nat
  busy : Tab Nat
  stall : Tab Nat
  /-- Operation counters of the array's lease Agent, the ordinal they belong to, and the reset of this host cycle:
  the final values and their ordinal (R369, R370). -/
  opCyc : Nat
  opStall : Nat
  opTkt : Nat
  opOrd : Nat
  lastCyc : Nat
  lastStall : Nat
  lastTkt : Nat
  lastOrd : Nat
  /-- A reset falls in the current host cycle. -/
  opReset : Bool
  /-- Captured values. -/
  latched : Bool
  final : Bool
  capOrd : Nat
  capCyc : Nat
  capStall : Nat
  capTkt : Nat
  bufs : Tab TraceBuf
  snap : SnapSt
  deriving DecidableEq, Repr
/-! ### Ports (chapter 15) -/

/-- The Fast Rail Interface, AVSBus and host command slot; clocks; I3C and MCTP; the test port. -/
structure PortSt where
  /-- Fast Rail Interface: targets queued by rail, FSEQ, rails that have replied to PING, rails that are off, counts. -/
  friQ : Tab Nat
  fseq : Nat
  replied : List Nat
  off : List Nat
  /-- Last target of each rail that a SET_V has carried. -/
  friSent : Tab Nat
  friMiss : Nat
  friCrc : Nat
  friCoalesce : Nat
  /-- Bus time in ns that the frames of the running sample may use (R406). -/
  friNs : Int
  /-- AVSBus: targets by RailSel in mV, unconfirmed rails, retries of the frame in progress. -/
  avsQ : Tab Nat
  avsUnconf : List Nat
  avsTry : Tab Nat
  avsErr : Nat
  hbBad : Nat
  /-- AOCLK counts out of range and in range in a row (R390), cycles of the last tick. -/
  aoBadRun : Nat
  aoGoodRun : Nat
  aoPerTick : Nat
  bclkPerTick : Nat
  /-- Host command slot (R401). -/
  args : Tab Nat
  posted : Option (Nat × Nat)
  /-- A STORE_ALL runs: its SEQ, and whether the margin store has ended. -/
  storeAll : Option Nat
  echoSeq : Nat
  echoCode : Nat
  overrun : Bool
  result : Nat
  res : Tab Nat
  /-- I3C: dynamic address, event enables, maximum lengths (R411). -/
  da : Option Nat
  events : Nat
  mwl : Nat
  mrl : Nat
  eid : Nat
  /-- MCTP messages dropped (R412). -/
  mctpDrop : Nat
  /-- The test port: instruction register and last MBIST result (R445). -/
  ir : Nat
  mbistBusy : Bool
  mbistDone : Bool
  mbistResult : Word
  /-- CUE_READY and the Stretch Port's hold. -/
  cueReady : Bool
  /-- SNAP_OUT, high until this tick by `up`. -/
  snapOutUp : Nat
  deriving DecidableEq, Repr
/-! ### The control core (chapter 04) -/

/-- A slot descriptor (Table 4-3). -/
structure SlotDesc where
  thread : Nat
  start : Nat
  budget : Nat
  perLog2 : Nat
  phase : Nat
  predA : Option Nat
  predB : Option Nat
  entry : Nat
  deriving DecidableEq, Repr, Inhabited

/-- One thread (R105): program counter, 32 registers, the slot that runs on it; it idles where there is none. -/
structure Thread where
  pc : Nat
  regs : Tab Nat
  slot : Option Nat
  deriving DecidableEq, Repr

/-- What is left to run of a routine: an instruction with its place in program memory; none for the return to a loop's start. -/
structure Todo where
  pc : Option Nat
  insn : CoreInsn
  deriving DecidableEq, Repr

/-- The selectors of R111 as latched into I_k. -/
structure Sel where
  untrusted : Bool
  unverified : Bool
  mode : Nat
  region : Option Nat
  thermal : Nat
  scene : Nat
  authority : Nat
  mgmt : Nat
  ramp : Bool
  holdover : Bool
  frozen : Bool
  rehearsal : Bool
  deriving DecidableEq, Repr

/-- A thermal site as latched (R109): its reading, the number of it, and whether it is broken. -/
structure SiteIn where
  reading : Option Int
  readId : Nat
  broken : Bool
  /-- Edges since the reading arrived. -/
  age : Nat
  deriving DecidableEq, Repr

/-- The input image I_k (R109). -/
structure Image where
  k : Nat
  up : Nat
  /-- The edge in quarter ticks by `up`. -/
  q : Nat
  count : Nat
  pNs : Nat
  qSel : Nat
  sel : Sel
  /-- Register words in force (R12, R13). -/
  cfg : Tab Nat
  act : Tab Nat
  recs : List ActRec
  failed : List Nat
  demand : Tab Nat
  bypDom : Tab Nat
  bypBd : Tab Nat
  /-- Ages in edges of the inputs that come less often, by source: 0 telemetry, 1 coolant, 2 allocation, 3 fleet allocation, 4
  management; sites from 0x1000, dies from 0x2000, child packages from 0x10000. -/
  ages : Tab Nat
  /-- Telemetry that ended since the last sample that ran; T_tel in ticks; past edges in quarter ticks and whether the program
  ran. -/
  tel : Option TelSample
  telTicks : Nat
  edges : List (Nat × Bool)
  /-- Rail targets of the activity's span, and those applied in this sample. -/
  railV : Tab Nat
  railNow : Tab Nat
  sites : Tab SiteIn
  coolant : Option (Int × Nat)
  coolNew : Bool
  ord : OrdSt
  adv : List Nat
  /-- Length and position of the step at the edge before, while it was locked there (R188). -/
  prevPos : Option (Nat × Nat)
  trip : Bool
  cues : List (Nat × Nat)
  /-- Anchors of the stored Cues whose time limit has passed since the last sample that ran (R196). -/
  cueOld : List Nat
  scene : Tab Nat
  sceneNew : Bool
  opF : Nat
  opV : Nat
  cap : CapSt
  rampStep : Bool
  holdover : Bool
  holdPct : Nat
  holdChanged : Bool
  orphan : Bool
  alloc : Option Nat
  donorWait : Bool
  isSM : Bool
  /-- V_guard applied in this sample, 0.25 mV (R247). -/
  guard : Int
  /-- Dies of the package as known, F in mW, the ledger as sent so far, dies whose raise is held back (R280). -/
  dies : Tab DieRec
  fleet : Option Nat
  ledger : Ledger
  barred : Bool
  thr : ThrEff
  thmTarget : Int
  coolHold : Bool
  coolWarn : Bool
  hostLvl : Nat
  mgmtLvl : Nat
  enf : Option Nat
  enfHost : Bool
  /-- OVERRUN_LAST and its slot, FROZE_LAST as frozen samples, and the first sample after a stop (R119, R130, R177). -/
  overrunLast : Bool
  overrunSlot : Nat
  froze : Nat
  resumed : Bool
  deriving DecidableEq, Repr

/-- A message or a pulse that the block gives to the outside in one step. -/
inductive Emit where
  /-- TK_GNT: agent, holder, status. -/
  | gnt (agent holder status : Nat)
  /-- TK_DESCHED: agent, holder. -/
  | desched (agent holder : Nat)
  /-- A Fast Rail Interface master frame: TYPE, ADDR, VALUE, TICK_LO, FSEQ, CRC. -/
  | frame (type addr value tickLo fseq crc : Nat)
  /-- An AVSBus target: RailSel, mV. -/
  | avs (rail mv : Nat)
  /-- CT_LOAD: clock domain, MHz. -/
  | load (dom mhz : Nat)
  /-- A Die Budget Port message: TYPE, SRC, DST, ROLE, payload. -/
  | dbp (type src dst role payload : Nat)
  /-- A Zilter message: TYPE, DST, SEQ, TERM, payload bytes 16 to 59. -/
  | zlt (type dst seq term : Nat) (body : List Nat)
  /-- A vendor alert: CODE, sequence number, data bytes. -/
  | alert (code seq : Nat) (data : List Nat)
  /-- A vendor response: CODE, SEQ, STATUS, data bytes. -/
  | resp (code seq status : Nat) (data : List Nat)
  /-- An MCTP control response: command, completion, data. -/
  | mctp (cmd cc : Nat) (data : List Nat)
  /-- A PLDM response: type, command, completion code, data. -/
  | pldm (type cmd cc : Nat) (data : List Nat)
  /-- Bytes that the I3C target returns to a CCC. -/
  | ccc (code : Nat) (data : List Nat)
  /-- An activity record: Booth, slot, context, k mod 4, refill index, tap counts (Table 5-2). -/
  | act (booth slot ctx sample window : Nat) (taps : List (Nat × Nat))
  /-- A Register Port response: RP_RESP and RP_RDATA. -/
  | reg (resp : Nat) (data : Word)
  /-- A test data register: instruction and contents. -/
  | tap (ir : Nat) (data : List Nat)
  /-- HALT_REQ and CURT_TRIP_N change. -/
  | curtain (halt tripN : Bool)
  deriving DecidableEq, Repr

/-- The part of core memory that the routines of one sample carry to the next, and the memories as words (R106). -/
structure CoreMem where
  est : EstMem
  law : LawMem
  cap : CapMem
  therm : ThermMem
  ledger : Ledger
  threads : Tab Thread
  sdata : Tab Nat
  vmem : Tab Nat
  tmem : Tab Nat
  wmem : Tab Nat
  /-- The stochastic rounding register (R126). -/
  lfsr : Nat
  /-- Free values drawn so far. -/
  free : Nat
  deriving DecidableEq, Repr

/-- The output image O_k (R110). -/
structure CoreOut where
  est : EstOut
  law : LawOut
  cap : CapOut
  therm : ThermOut
  ledger : Ledger
  /-- CORE_FLAGS, CORE_SAT_STAGES. -/
  flags : Nat
  satStages : Nat
  /-- Flags of the routines of this sample, by slot. -/
  slotFl : Tab Nat
  /-- What the routines of the sample told: attention causes, faults, Prompt Book events, messages (R435). -/
  causes : List (Nat × Nat)
  reports : List (Nat × Int)
  events : List (Nat × Int)
  emits : List Emit
  deriving DecidableEq, Repr

/-- What a routine tells of besides the fields that it writes: flags, stages that set one, faults, events and causes. -/
structure Told where
  flags : Nat
  stages : Nat
  reports : List (Nat × Int)
  events : List (Nat × Int)
  causes : List (Nat × Nat)
  /-- C_z of a correction network that the routine has run (R140). -/
  corr : Option (Tab Int)
  deriving DecidableEq, Repr

/-- A routine in progress on a thread (R107, R118): its slot, the instructions that are left, O_k as it found it and with its own
writes alone, and what it tells of when it completes. -/
structure Task where
  slot : Nat
  rest : List Todo
  base : CoreOut
  own : CoreOut
  told : Told
  deriving DecidableEq, Repr

/-- The control core outside its routines. -/
structure CoreSt where
  mem : CoreMem
  /-- The image of the sample in progress, O_k as written so far, and O as applied. -/
  im : Image
  out : CoreOut
  app : CoreOut
  /-- Routines in progress by thread. -/
  tasks : Tab Task
  /-- Slots run and stopped in this sample. -/
  ran : List Nat
  overran : List Nat
  running : Bool
  overrunLast : Bool
  overrunSlot : Nat
  overrunRun : Nat
  overruns : Nat
  eccCorr : Nat
  /-- CORE_SR_STATE, as of the last sample edge. -/
  srState : Nat
  bclkRange : Bool
  /-- EST_CMD: the GO that waits for its sample, as OP and site; DONE and STATUS (R150, R160). -/
  estGo : Option (Nat × Nat)
  estDone : Bool
  estStatus : Nat
  slotFlags : Tab Nat
  slotOverruns : Tab Nat
  /-- CORE_FREEZE.REQ, frozen, frozen samples. -/
  freezeReq : Bool
  frozen : Bool
  frozenN : Nat
  resumed : Bool
  /-- Past edges in quarter ticks by `up`, newest first, and whether the program ran in the sample. -/
  edges : List (Nat × Bool)
  /-- Ordinals advanced in each of the last 16 samples, newest first (R37). -/
  adv : List Nat
  holdoverLast : Bool
  /-- A fault of class D or above since the last edge (R130). -/
  faultSince : Bool
  deriving DecidableEq, Repr

/-! ### The Playbill -/

/-- The content of an accepted image and calibration section, as the loader has read it. -/
structure Playbill where
  /-- An image is in force. -/
  valid : Bool
  version : Nat
  minor : Nat
  partId : Nat
  cap : CapCfg
  law : LawCfg
  model : ModelCfg
  therm : ThermCfg
  pkg : PkgCfg
  agents : Tab AgentCfg
  cost : Tab Nat
  scenes : Tab Nat
  dets : Tab DetCfg
  /-- Ageing monitors and their regions. -/
  mons : Tab Nat
  /-- The Booths of the agent map (R43, R231). -/
  booths : List Nat
  codes : List CodeRow
  slots : Tab SlotDesc
  code : Tab (List CoreInsn)
  /-- SR_EN and the seed of the stochastic register (R125, R126). -/
  srEn : Bool
  seed : Nat
  progLen : Nat
  /-- Register initial values: offset and word (R320). -/
  regs : List (Nat × Nat)
  trimDefault : Int
  guardBase : Nat
  calOffset : Nat
  marginOffset : Nat
  bookOffset : Nat
  deriving DecidableEq, Repr, Inhabited
/-! ### Unlisted entries and reset values -/

def agentCfg0 : AgentCfg := ⟨0, false, 0, 0, false, 0, 0, 0, 0⟩
def tapCfg0 : TapCfg := ⟨0, 0, 0, 0⟩
def featCfg0 : FeatCfg := ⟨0, 0, 65536, 0, 0⟩
def zoneCfg0 : ZoneCfg := ⟨0, 0, [], [], 4096, 0, false, []⟩
def siteCfg0 : SiteCfg := ⟨0, 0, [], 0, 65536⟩
def railCfg0 : RailCfg := ⟨0, false, 0, 65536, 0, 0, 0, 0, none⟩
def loopCfg0 : LoopCfg := ⟨0, 0, 0, 0, 0, 0, 0, 0, 0, 0, 0⟩
def gainTab0 : GainTab := ⟨[], [], 0, 0⟩
def loopSt0 : LoopSt := ⟨0, 0, 0, 0, 0, false, false, false, false, false, false, false, 0⟩
def detCfg0 : DetCfg := ⟨0, 0, 15, 23, 31⟩
def detSt0 : DetSt := ⟨0, 0, false, 0⟩
def region0 : Region := ⟨0, 0, false, false, 0, []⟩
def ageMon0 : AgeMon := ⟨15, 0, false, false, false, 0⟩
def sitePlaus0 : SitePlaus := ⟨0, 0, false, false, 0, none, 0⟩
def siteSt0 : SiteSt := ⟨none, 0, 0, 0, false⟩
def siteIn0 : SiteIn := ⟨none, 0, false, 0⟩
def holder0 : Holder := ⟨false, false, false, false, 0, 0, 0, 0, 0, 0, false, false⟩
def engCount0 : EngCount := ⟨0, 0, 0, []⟩
def agent0 : Agent :=
  { recv := 0, spent := 0, ret := 0, rcLeft := 0, credit := 0, grantedNow := 0, poolTag := 1, rateTag := 2,
    winRefill := 0, winSample := 0, winLump := 0, winAll := 0, closed := [],
    pulse := none, tkReason := 0, tlReason := 0, rateQ := 0, target := 0, reqRate := 0, reqAt := [], leaseCeil := 0,
    poolBound := false, took := 0, acc := 0, accRest := 0, igniting := false, handHold := false, engRst := false, byp := false, bypCause := 0,
    bypEntries := 0, causesSeen := 0, bucket := 0, bypGranted := 0, badHolders := [], resyncWait := false,
    wdRun := false, wdCyc := 0, handGrants := [], epoch := 0, epGrant := 0, epGrantOld := 0, epRet := 0, epRetOld := 0, retSample := 0,
    eng := engCount0, holders := [] }
def officeAgent0 : OfficeAgent := ⟨0, 0, 0, 0, 0, 0, 0, false⟩
def boothDom0 : BoothDom := ⟨0, 0, 0, 0, 0, 0, 0, [], [], none, false, 0, 0⟩
def chan0 : Chan := ⟨0, 0, 0, 0⟩
def actSlot0 : ActSlot := ⟨0, []⟩
def booth0 : Booth := ⟨false, 0, [], [], [], [], false, [], []⟩
def agentRep0 : AgentRep := ⟨0, 0, 0, 0, [], 0, 0, 0, 0, 0⟩
def win0 : Win := ⟨0, 0, []⟩
def dieRec0 : DieRec := ⟨none, none, none, 0, 0, 0, false, 7, 0, 0, 0, 65535, false, false⟩
def bookSlot0 : BookSlot := ⟨0, none, none, none, false⟩
def slotDesc0 : SlotDesc := ⟨0, 0, 0, 0, 0, none, none, 0⟩
def thread0 : Thread := ⟨0, [], none⟩
def traceBuf0 : TraceBuf :=
  ⟨0, false, ⟨false, 0, 0x2000, 0, 0xFFFF0000, 0, []⟩, false, 0, 0x2000, 0, 0xFFFF0000, 0, [], false, 0, 0, 0, 0, 0, [], [], 0, 0, 0, 0, 0, 0, none, []⟩

def capCfg0 : CapCfg :=
  { dieCeil := 0, die := [], pkg := [], domOrder := 0x9C, floor := [], ceil := [], bdCeil := [], matched := [],
    kappaMax := 120, pkgFloor := 0, pkgUnmanaged := 0, orphanDie := allOnes, orphanPkg := allOnes, auth := 0,
    modeAllow := 7, leakAction := 0, holdPct := 90, dieSlew := 24, pSel := 2, qSel := 2 }
def lawCfg0 : LawCfg :=
  { loops := [], gains := [], regions := [], ops := [], opCeil := 0, fixed := [], rails := [], seedL := 0, seed := [],
    tt := [] }
def modelCfg0 : ModelCfg :=
  { taps := [], feats := [], zones := [], t0 := 400, dT := 112, v0 := 2000, dV := 120, netOn := false, delta := 0,
    phiMax := 0, tiles := [], gain := 0, coolant := 0, warmup := 0, measured := [] }
/-- Temperatures in 1/16 °C: the defaults of Table 9-2 and R268. -/
def thermCfg0 : ThermCfg :=
  { sites := [], subEn := false, warn := 1520, warnRel := 1472, thr := 1680, thrRel := 1616, shut := 1840,
    restart := 1360, coolMs := 2000 }
def pkgCfg0 : PkgCfg := ⟨0, [], [], []⟩
/-- No image: nothing of it is in force (R307). -/
def playbill0 : Playbill :=
  { valid := false, version := 0, minor := 0, partId := 0, cap := capCfg0, law := lawCfg0, model := modelCfg0,
    therm := thermCfg0, pkg := pkgCfg0, agents := [], cost := [], scenes := [], dets := [], mons := [], booths := [], codes := [],
    slots := [], code := [], srEn := false, seed := 0, progLen := 0, regs := [], trimDefault := 8, guardBase := 40, calOffset := 0,
    marginOffset := 0, bookOffset := 0 }

def estMem0 : EstMem :=
  { theta := [], thetaNext := none, phi := [], d := [], corr := [], f := none, hist := [], staged := [], incRun := 0, judged := 0,
    nodes := [], next := [], done := [], updating := false, inited := false, zHist := [], leakX := [], zIn := [], cool := 0, reads := [], plaus := [],
    coldRun := 0, noColdRun := 0, hotRun := 0, hotMean := 0 }
def lawMem0 : LawMem :=
  { loops := [], region := none, chosen := false, spt := [], fill := 0, sptL := none, steps := 0,
    vpp := [], dv := [], clean := [], tripped := [], cues := [] }
def capMem0 : CapMem :=
  { die := [], pkg := [], lastE := 0, cur := [], fbRun := 0, retRun := 0, fallback := false, dwell := 0,
    unattRun := 0 }
def ledger0 : Ledger := ⟨[], [], [], [], [], [], [], [], 0, false, 0⟩
def coreMem0 : CoreMem :=
  { est := estMem0, law := lawMem0, cap := capMem0, therm := ⟨0, 0⟩, ledger := ledger0, threads := [], sdata := [],
    vmem := [], tmem := [], wmem := [], lfsr := 1, free := 0 }
def estOut0 : EstOut :=
  { pEst := 0, pF := 0, pCtl := 0, zoneP := [], zoneLeak := [], zoneT := [], zoneV := [], untrusted := false,
    unverified := false, frozen := false, disCount := 0, agreeCount := 0, attrClamp := 0, phiReinit := 0, ctxE := [],
    eAttr := 0, updates := 0, raises := 0, warmup := true, coldMaj := false, tModMax := 0, sites := [] }
def lawOut0 : LawOut :=
  { loops := [], region := none, noMatch := true, noRegion := 0, extra := [], vppMax := 0, peak := 0, sptSkip := 0, sptSteps := 0,
    pos := none, slewPct := none, ffActive := false, sptReady := false, ttActive := false, cueActive := false,
    ssAny := false, cueClamp := 0, cueReplace := 0, cueDrop := 0, cueBad := 0, cueExpire := 0, hintIgnored := 0,
    cueCtxLimit := 0, uSat := false, duClip := false }
def capOut0 : CapOut :=
  { y := [], yPkg := [], w1 := [], a := 0, baseSum := 0, bindKind := 15, bindSrc := 0, mode := 0, pref := 0,
    ffHeld := false, matchShort := false, susp := false, pacing := false, unatt := false, esc := false, opTarget := 0,
    t := [], lkfx := [], quota := [], tag := [], pace := [], cuEntries := 0, supplyEscs := 0, fbCount := 0,
    shorts := 0, bindChanges := 0, escUp := 0 }
def thermOut0 : ThermOut := ⟨0, 0, 0, 0, 0, 0, false, false, false, [], []⟩
def coreOut0 : CoreOut :=
  { est := estOut0, law := lawOut0, cap := capOut0, therm := thermOut0, ledger := ledger0, flags := 0, satStages := 0, slotFl := [],
    causes := [], reports := [], events := [], emits := [] }
def ordSt0 : OrdSt :=
  { seen := false, last := 0, scene := 0, ctx := 0, start := none, prevLen := none, lockLen := none, timeout := false,
    adv := 0, beat := false, active := 0, activeLast := none, expired := false, lastEdge := 0, marks := [],
    stalled := true, ffOff := false }
def capSt0 : CapSt :=
  { mDie := [], mPkg := [], mAllow := none, mSlew := none, mHold := none, auth := 0, authSet := false, hostRefused := false, ramp := none,
    next := [], val := none, prev := none, refused := 0, changed := false, rampStep := false }
def sel0 : Sel :=
  { untrusted := false, unverified := false, mode := 0, region := none, thermal := 0, scene := 0, authority := 0,
    mgmt := 0, ramp := false, holdover := false, frozen := false, rehearsal := false }
def image0 : Image :=
  { k := 0, up := 0, q := 0, count := 0, pNs := 1000, qSel := 2, sel := sel0, cfg := [], act := [], recs := [], failed := [],
    demand := [], bypDom := [], bypBd := [], ages := [], tel := none, telTicks := 0, edges := [], railV := [], railNow := [],
    sites := [], coolant := none, coolNew := false, ord := ordSt0, adv := [], prevPos := none, trip := false, cues := [], cueOld := [], scene := [], sceneNew := false,
    opF := 0, opV := 0, cap := capSt0, rampStep := false, holdover := false, holdPct := 100, holdChanged := false,
    orphan := false, alloc := none, donorWait := false, isSM := false, guard := 0, dies := [], fleet := none, ledger := ledger0,
    barred := false, thr := ⟨1520, 1472, 1680, 1616, 1840⟩, thmTarget := 1600, coolHold := false, coolWarn := false,
    hostLvl := 0, mgmtLvl := 0, enf := none, enfHost := false, overrunLast := false, overrunSlot := 0,
    froze := 0, resumed := false }
def coreSt0 : CoreSt :=
  { mem := coreMem0, im := image0, out := coreOut0, app := coreOut0, tasks := [], ran := [], overran := [], running := false,
    overrunLast := false, overrunSlot := 0, overrunRun := 0, overruns := 0, eccCorr := 0, srState := 1, bclkRange := false, estGo := none, estDone := true, estStatus := 0,
    slotFlags := [], slotOverruns := [], freezeReq := false, frozen := false, frozenN := 0,
    resumed := false, edges := [], adv := [], holdoverLast := false, faultSince := false }
def timeSt0 : TimeSt :=
  { up := 0, count := 0, countSet := false, anyTick := false, locked := false, holdover := false, lockRun := 0,
    synthRun := 0, lastRef := none, lastAcc := none, lastTick := none, missed := 0, epochMis := 0, ordReject := 0, epochRes := none,
    pendCount := none, holdSince := 0, bclkBad := false, pSel := 2, k := 0, subIdx := 0, edgeUp := 0, begun := false, edgeQ := 0, edgeN := 0, came := [], opTicks := 0,
    hiLatch := [] }
/-- The fault record at reset: nothing open, counters 0; the error pair shows fault (R338). -/
def faultSt0 : FaultSt :=
  { isOpen := false, cls := 0, injected := false, errMismatch := false, seen := 0, merges := 0, code := 0, cause := 0,
    lastCode := 0, firstTick := 0, firstOpmin := 0, sCodes := [], prevCode := 0, prevStatus := 0, prevTick := 0, nN := 0,
    nC := 0, nD := 0, nS := 0, nInj := 0, nL := 0, ctrlSt := 0, recoverReq := false, safe := false, safeEarly := false,
    errFault := true, reh := false, armReq := false, curtArm := false, armUp := 0, hostIdle := false,
    curtInjSeen := false, redirect := 0, underTest := none, curtDone := false, inj := none, injStatus := 0, held := [] }
def bookSt0 : BookSt :=
  { slots := [], lost := [], evict := [], opmin := 0, pcc := 0, codes := [], clearReq := false, storing := none,
    storeWait := false, done := true, status := 0, stores := 0, stored := 0, ready := true, fetched := none }
def regSt0 : RegSt :=
  { wr := [], act := [], cause := [], privDenied := 0, badAddr := 0, lockWrites := 0, resp := 0, rdata := 0 }
def startSt0 : StartSt :=
  { aoUp := true, blkUp := true, porstLow := true, hrstLow := false, state := 0, causeCode := 0, warm := false,
    curtPend := false, coldDue := true, fromHost := false, streaming := false, pbMinor := 0, starts := 0, reason := 0, sect := 0,
    detail := 0, offset := 0, imageVer := 0, density := 0, mode := 0, addr4 := false, sfdpRev := 0, flashOk := false,
    keyDigest := List.replicate 12 0, keyMinVer := 0, keyLocked := false, keyWaitLong := false, live := false,
    settleUp := 0, ldOp := 0, ldLen := 0, ldGot := [], ldUp := none, ldBusy := false, ldDone := true, ldStatus := 0,
    restartWait := false, bclkAbsent := false, bclkWas := false, aoclkBad := false, testMode := false, undef := false, partId := 0,
    partIdLatched := false }
def tkLatch0 : TkLatch := ⟨0, 0, 0, 0, 0, 0, 0, 0, engCount0⟩
def ticketSt0 : TicketSt :=
  { agents := [], office := [], bds := [], booths := [], cost := [], shadow := [], swap := false, i := 0, j := 0, win := none,
    rc := 0, g := [], slopeSV := 0, toBooth := [], toAgent := [], toBoothUp := [], toOffice := [], chans := [],
    cmd := none, cmdDone := true, cmdStatus := 0, latchReq := false, latched := false, lat := tkLatch0, lateRefill := 0,
    retClip := 0, retConflict := 0, reqReplace := 0, ignitions := 0, forcedExpiry := 0, oversize := 0, ceilRefused := 0,
    reclaims := 0, bypassEntries := 0, handAdded := 0, handDiscard := 0, ctxOverflow := 0, settle := [] }
def telSt0 : TelSt :=
  { phase := none, answered := [], lastP := [], sample := none, missing := 0, eMeas := 0, act := [], recs := [],
    lateAct := 0, coolant := none, coolNew := false }
def lawSt0 : LawSt :=
  { scene := [], sceneWr := [], sceneCmdSt := false, sceneInvalid := 0, invalidLatched := none, sptWr := [],
    cueBuf := [], cueOld := [], uSat := false, duClip := false, opV := 0, opF := 0, opTarget := 0, opStep := none, railV := [],
    railPrev := [], sceneLat := 0, scenePrev := 0, clock := [] }
def marginSt0 : MarginSt :=
  { dets := [], regions := [], vref := [], events := 0, window := 0, due := none, dueMore := 0, winEvents := 0, highRun := 0,
    lowRun := 0, vdr := 0, vdrApplied := 0, raisePend := false, drRaises := 0, holdLifts := 0, trim := 0, base := 40,
    guard := 0, lastDown := 0, mons := [], readDue := false, trimDue := 0, met := none, lastS := 0xFF, skipped := 0,
    downSteps := 0, upSteps := 0, storing := none, done := true, status := 0, source := 0, stores := 0 }
def curtSt0 : CurtSt :=
  { cyc := 0, reading := [], noConv := [], failed := [], disRun := [], disagree := [], primary := [], checker := [],
    split := [], tripped := false, lockout := false, lockCause := 0, tripPair := 0, trips := 0, times := [],
    coolFrom := none, selftestOk := false }
def thermSt0 : ThermSt :=
  { sites := [], mgmt := [], mgmtSet := [], mgmtLvl := 0, level := 0, ackLvl := 0, grace := none, enfDue := false, exceeds := false,
    enforcing := false, enfHost := false, pRef := 0, cEnf := 0, parityDiscard := 0, enfEntries := 0, forceEnf := 0,
    coolFault := false, hbOk := false, wdRun := false, lastHb := none, hbUp := none, hbRun := none, hbLosses := 0, leakP := false,
    leakN := false, leakRun := false, leakFault := false, leakHold := false, leakEvents := 0 }
def pkgSt0 : PkgSt :=
  { role := 0, term := 0, smId := 31, usId := 31, dup := false, joined := false, liveUp := 0, heard := false, dies := [],
    alloc := none, wait := false, smCopy := none, usCopy := none, silence := 0, heldAlloc := 0,
    silentUp := 0, copyUp := 0, rptUp := 0, lastRpt := 0, barred := none, smSeen := 0, led := ledger0, leaving := 0,
    rolesDue := false, takeovers := 0, donorTimeouts := 0, dupDiscard := 0, late := 0, bad := 0, syncWait := 0,
    slack := 65535 }
def child0 : Child :=
  { id := 0, term := 0, admitted := false, floor := 0, ceil := 0, demand := 0, applied := 0, power := 0, slack := 0,
    pkgs := 0, laggards := 0, h := 0, a := 0, delta := 0, seq := 0, rptUp := 0, sent := [], silent := false, held := 0,
    left := false, laggard := false, lagRun := 0, clearRun := 0, dir := 0, wait := false }
def ziltSt0 : ZiltSt :=
  { placed := false, id := 0, level := 0, parent := 0, budget := none, f := none, fWait := false, lagHold := false,
    silence := 0, heldF := 0, silentUp := 0, allocUp := 0, rptUp := 0, lastRpt := 0, lastAlloc := 0, parentTerm := none,
    children := [], b := 0, lagCount := 0, laggardOpens := 0, bad := 0, departures := 0, leaving := 0, energy := 0,
    interval := none, txDrop := 0 }
def mgmtSt0 : MgmtSt :=
  { state := 0, lastUp := 0, next := none, held := [], gapFirst := 0, gapLen := 0, gaps := 0, dupCmds := 0, todo := [],
    shutdown := none, alertSeq := 0 }
def snapSt0 : SnapSt := ⟨0, 0, false, false, false, 0, 0, 0, []⟩
def obsSt0 : ObsSt :=
  { ops := [], busy := [], stall := [], opCyc := 0, opStall := 0, opTkt := 0, opOrd := 0, lastCyc := 0, lastStall := 0,
    lastTkt := 0, lastOrd := 0, opReset := false, latched := false, final := false, capOrd := 0, capCyc := 0,
    capStall := 0, capTkt := 0, bufs := [], snap := snapSt0 }
def portSt0 : PortSt :=
  { friQ := [], fseq := 0, replied := [], off := [], friSent := [], friMiss := 0, friCrc := 0, friCoalesce := 0, friNs := 0,
    avsQ := [], avsUnconf := [], avsTry := [], avsErr := 0, hbBad := 0, aoBadRun := 0, aoGoodRun := 0,
    aoPerTick := 0, bclkPerTick := 0, args := [], posted := none, storeAll := none, echoSeq := 0, echoCode := 0,
    overrun := false, result := 0, res := [], da := none, events := 0, mwl := 69, mrl := 69, 
    eid := 0, mctpDrop := 0, ir := 1, mbistBusy := false, mbistDone := false, mbistResult := 0,
    cueReady := false, snapOutUp := 0 }
/-- The build parameters of Table 17-4: the defaults it gives; where it gives none, the value of a log entry.
Log 6 PRESUMED. -/
def params0 : Params :=
  { build := 0, patch := 0, keySource := 0, keyDigest := List.replicate 12 0, secRelease := 0, curtWired := 1840,
    safeFreq := 400, safeVolt := 2200, safeRails := 1, i3cStatic := 0, i3cPidInst := 0, dbpVendor := 0, ianaPen := 1,
    idcodeMfr := 0 }

/-! ### The state -/

/-- Why a command stops the model with a fault: no command does. -/
inductive Fault where
  /-- Raised by nobody: every behaviour that the manual gives the block, faults of Table 12-2 among them, is a next state.
  Safe. -/
  | unreached
  deriving DecidableEq, Repr

/-- Why a command is refused by the model. -/
inductive Refusal where
  /-- Raised by an arm of `exec` whose command has no meaning yet. Safe. -/
  | notModelled (mnemonic : String)
  deriving DecidableEq, Repr

/-- The block. -/
structure State where
  par : Params
  time : TimeSt
  ord : OrdSt
  core : CoreSt
  tk : TicketSt
  tel : TelSt
  law : LawSt
  cap : CapSt
  margin : MarginSt
  therm : ThermSt
  curt : CurtSt
  pkg : PkgSt
  zilt : ZiltSt
  mgmt : MgmtSt
  start : StartSt
  fault : FaultSt
  book : BookSt
  obs : ObsSt
  port : PortSt
  regs : RegSt
  /-- The image in force. -/
  pb : Playbill
  /-- The attached flash by byte offset: an unlisted byte reads 0xFF, as an erased flash returns (R319). -/
  flash : Tab Nat
  /-- What the block gives to the outside in the step just taken. -/
  out : List Emit
  /-- Free values drawn so far: the model's own counter, not the manual's. -/
  free : Nat
  /-- The commands that wait, first in first out. -/
  pending : List Instr
  deriving DecidableEq, Repr

/-- The block right after reset: PORST_N low, every register at its reset value.
Log 3 DESIGN CHOICE, log 5 DESIGN CHOICE. -/
def State.reset : State :=
  { par := params0, time := timeSt0, ord := ordSt0, core := coreSt0, tk := ticketSt0, tel := telSt0, law := lawSt0,
    cap := capSt0, margin := marginSt0, therm := thermSt0, curt := curtSt0, pkg := pkgSt0, zilt := ziltSt0,
    mgmt := mgmtSt0, start := startSt0, fault := faultSt0, book := bookSt0, obs := obsSt0, port := portSt0,
    regs := regSt0, pb := playbill0, flash := [], out := [], free := 0, pending := [] }

end Sys2Proof.Machine
end

