-- ==== Sys2Proof/Config.lean ====
section
/-! DEFINITION. What an implementation fixes, and the free values: constants without a body, so that no proof can know a
value of them. Each is named in a row of notes/assumptions. -/

namespace Sys2Proof

open Sys2Proof.Machine

/-- The effect of block floating point mantissas on one result, in its last places: the manual bounds the error of a
routine and gives no order of stages (R170). Log 13 DESIGN CHOICE. -/
opaque Config.mantissa : Nat → Int

/-- The correction network (R140): weight memory, zone, inputs of the last four samples; 1/65,536 mW. Its layer weights
have no layout in the manual. Log 14 DESIGN CHOICE. -/
opaque Config.corrNet : Tab Nat → Nat → List Int → Int

/-- The share of a domain's leakage that stands against one Booth's ceiling, in 1/65,536 (R212): Booth, domain.
Log 15 DESIGN CHOICE. -/
opaque Config.boothLeakShare : Nat → Nat → Nat

/-- What an image and a calibration section give where the manual gives an item's content and no layout of its words
(R315, R316): words of the image, words of the calibration section. Log 10 DESIGN CHOICE. -/
opaque Config.playbill : List Nat → List Nat → Playbill

/-- What one word of program memory is as an instruction (R116): the manual gives the classes and no encoding.
Log 11 DESIGN CHOICE. -/
opaque Config.instruction : Nat → CoreInsn

/-- SHA-384 of a list of bytes, as 48 bytes (R317). Log 12 DESIGN CHOICE. -/
opaque Config.sha384 : List Nat → List Nat

/-- Whether an ECDSA signature over P-384 verifies (R317): digest, key bytes, r, s. Log 12 DESIGN CHOICE. -/
opaque Config.ecdsa : List Nat → List Nat → List Nat → List Nat → Bool

/-- A word that the manual leaves undefined, by a number of the model's own counter (R446). Log 9 DESIGN CHOICE. -/
opaque Config.freeWord : Nat → BitVec 32

/-- The bytes of an answer whose content another standard fixes and the manual does not give: a code and an index (R411 to
R413). Log 17 DESIGN CHOICE. -/
opaque Config.standardBytes : Nat → Nat → List Nat

/-- The initial content of core memory (R315): words of the image, memory 1 to 4, word address. Log 16 DESIGN CHOICE. -/
opaque Config.memoryWord : List Nat → Nat → Nat → Nat

end Sys2Proof
end

