-- ==== Sys2Proof/Machine/Flags.lean ====
section
/-! DEFINITION. Fault codes and their classes (R328, R329), event codes and severities (R346), the attention causes and
their registers (R436), and the plain read-write registers with their fields, ranges and reset words (R15, R431). -/

namespace Sys2Proof.Machine

/-! ### Classes and severities -/

/-- The fault codes of Table 12-2 by class: N, C, D, S, L are 1 to 5. -/
def classTable : List (Nat × List Nat) :=
  [(1, [0x1003, 0x1004, 0x1005, 0x2001, 0x2002, 0x2003, 0x2004, 0x3005, 0x4003, 0x4004, 0x4005, 0x4008, 0x4009, 0x5001,
        0x6003, 0x6004, 0xA002, 0xA004, 0xB001, 0xB002, 0xB003, 0xC002]),
   (2, [0x2008, 0x3001, 0x7002]),
   (3, [0x1001, 0x1002, 0x2005, 0x2006, 0x3003, 0x4001, 0x4002, 0x4006, 0x4007, 0x5002, 0x6001, 0x6002, 0x7001, 0x8002,
        0x8003, 0x9001, 0x9003, 0xA001, 0xA003, 0xB004, 0xD001]),
   (4, [0x2007, 0x3002, 0x3004, 0x8001, 0x9002, 0xC001]),
   (5, [0x8004, 0x8005, 0x8006])]

/-- The class of a code, 0 for a code that Table 12-2 does not list. -/
def faultClass (code : Nat) : Nat := ((classTable.find? (fun r => r.2.contains code)).map Prod.fst).getD 0

/-- Table 13-1: the default severity of an event code; none for a code that the table does not list. -/
def eventSev (code : Nat) : Option Nat :=
  if 0xE001 ≤ code ∧ code ≤ 0xE00B then some (at' 0 [1, 2, 1, 0, 0, 1, 2, 2, 1, 0, 1] (code - 0xE001)) else none

/-- R346: the severity of a fault from its class. -/
def classSev (cls : Nat) : Nat := at' 0 [0, 0, 1, 2, 3, 3] cls

/-- The codes of Tables 12-2 and 13-1. -/
def knownCode (code : Nat) : Bool := decide (faultClass code ≠ 0) || (eventSev code).isSome

/-- The group bit of a code in CAUSE (R331). -/
def groupBit (code : Nat) : Nat := 2 ^ (code / 4096 % 16)

/-- The class bit of SEEN (Table 12-8): D, S, L are bits 0 to 2. -/
def seenBit (cls : Nat) : Nat := if 3 ≤ cls then 2 ^ (cls - 3) else 0

/-- How Table 12-3 lets a class S code be left: 0 resumable under a condition, 3 a start is required, 5 the Curtain. -/
def recoverEntry (code : Nat) : Nat := if code = 0x3004 then 0 else if code = 0x8001 then 5 else 3

/-! ### The attention tree -/

/-- How many causes each group defines (Table 16-21). -/
def causeWidth (g : Nat) : Nat := at' 0 [2, 3, 3, 2, 4, 6, 3, 5, 3, 5, 2, 2, 2, 3, 2] g

/-! ### Plain read-write registers -/

/-- A register whose RW fields are stored as written: its reset word and its RW fields as (hi, lo, least, most). -/
structure RegRow where
  reset : Nat
  fields : List (Nat × Nat × Nat × Nat)
  deriving DecidableEq, Repr

/-- A whole field without a range of its own. -/
def fieldAll (hi lo : Nat) : Nat × Nat × Nat × Nat := (hi, lo, 0, 2 ^ (hi + 1 - lo) - 1)

def regsTime : List (Nat × RegRow) :=
  [(0x0044, ⟨0x7FFF, [fieldAll 14 0]⟩),
   (0x1004, ⟨0x5A6403E8, [(23, 16, 50, 100), (15, 0, 1, 60000)]⟩)]
def regsTicket : List (Nat × RegRow) :=
  [(0x2004, ⟨0x00051860, [(20, 16, 1, 25), (6, 0, 4, 96)]⟩),
   (0x2008, ⟨8, [(3, 0, 1, 15)]⟩),
   (0x200C, ⟨0, [fieldAll 19 0]⟩),
   (0x202C, ⟨0, [fieldAll 8 0]⟩),
   (0x2080, ⟨0x10, [(9, 0, 0, 1000)]⟩),
   (0x2094, ⟨0, [fieldAll 3 0]⟩),
   (0x2098, ⟨0, [fieldAll 23 0]⟩)]
def regsCore : List (Nat × RegRow) :=
  [(0x300C, ⟨0, [fieldAll 5 0]⟩),
   (0x301C, ⟨0x3E8, [(15, 0, 1, 65535)]⟩)]
def regsEst : List (Nat × RegRow) :=
  [(0x4004, ⟨0x30A08040, [(31, 26, 4, 50), (25, 18, 1, 200), (17, 12, 0, 50), (10, 0, 8, 1024)]⟩),
   (0x4008, ⟨0x04001E20, [(31, 16, 64, 65535), (15, 8, 0, 200), (7, 4, 0, 6)]⟩),
   (0x400C, ⟨0x00068E80, [(31, 8, 0, 167772), fieldAll 7 7]⟩),
   (0x4010, ⟨0x0FFF, [fieldAll 13 12, fieldAll 11 0]⟩),
   (0x4014, ⟨0, [fieldAll 3 0]⟩),
   (0x4024, ⟨0, [fieldAll 3 0]⟩),
   (0x4044, ⟨0, [fieldAll 11 0]⟩),
   (0x4084, ⟨0x18301004, [(31, 24, 8, 80), (23, 16, 16, 160), (15, 8, 1, 255), (5, 0, 1, 63)]⟩),
   (0x4088, ⟨0, [fieldAll 8 0]⟩)]
def regsCtl : List (Nat × RegRow) :=
  [(0x5008, ⟨0x20, [fieldAll 7 0]⟩),
   (0x500C, ⟨0, [fieldAll 9 0]⟩),
   (0x5040, ⟨0x9A280BB8, [fieldAll 31 31, (30, 27, 1, 8), (26, 23, 1, 15), (22, 16, 0, 100), (13, 0, 500, 10000)]⟩),
   (0x5044, ⟨0x19044040, [fieldAll 31 24, (23, 16, 1, 255), (15, 8, 1, 255), (7, 0, 0, 128)]⟩),
   (0x5080, ⟨0, [fieldAll 15 0]⟩),
   (0x5088, ⟨0, [fieldAll 7 0]⟩),
   (0x5094, ⟨0, [fieldAll 5 0]⟩),
   (0x50C0, ⟨0, [fieldAll 8 0]⟩),
   (0x5100, ⟨0x400083E8, [(31, 16, 256, 65534), fieldAll 15 15, (9, 0, 10, 1023)]⟩)]
def regsCap : List (Nat × RegRow) :=
  [(0x6004, ⟨0x50, [fieldAll 8 8, fieldAll 6 4, fieldAll 2 0]⟩),
   (0x6010, ⟨0xFFFFFFFF, [fieldAll 31 0]⟩),
   (0x6014, ⟨0x20000000, [fieldAll 31 31, (30, 29, 0, 2), fieldAll 27 22]⟩),
   (0x6018, ⟨0x04020A03, [(31, 20, 1, 4095), (19, 16, 0, 10), (15, 8, 0, 100), (7, 0, 0, 20)]⟩),
   (0x601C, ⟨0x03E82710, [(31, 16, 1, 65535), (15, 0, 1, 65535)]⟩),
   (0x6024, ⟨0, [fieldAll 1 0]⟩)]
def regsDroop : List (Nat × RegRow) :=
  [(0x7000, ⟨0x05140000, [(31, 24, 1, 255), (23, 16, 1, 100)]⟩),
   (0x7004, ⟨0x00400440, [(31, 16, 1, 65535), (15, 8, 1, 255), (7, 0, 1, 255)]⟩),
   (0x7008, ⟨0x50280000, [(31, 24, 0, 160)]⟩),
   (0x7010, ⟨0, [fieldAll 10 0]⟩),
   (0x701C, ⟨0, [fieldAll 5 0]⟩),
   (0x7040, ⟨0xA0000000, [fieldAll 31 31, (30, 27, 1, 12)]⟩),
   (0x7048, ⟨0, [fieldAll 7 0]⟩)]
def regsTherm : List (Nat × RegRow) :=
  [(0x8010, ⟨0x640, [(15, 0, 800, 65535)]⟩),
   (0x8014, ⟨0xCA1800FA, [(31, 28, 1, 15), (27, 24, 1, 15), (23, 16, 4, 80), (13, 0, 0, 10000)]⟩),
   (0x8018, ⟨0x00404800, [(31, 16, 1, 65535), (15, 12, 1, 15), (11, 8, 1, 15)]⟩),
   (0x801C, ⟨0, [fieldAll 3 0]⟩),
   (0x8020, ⟨0x20, [(7, 0, 0, 120)]⟩),
   (0x8040, ⟨0x06428000, [(31, 22, 15, 1000), (21, 14, 1, 255)]⟩),
   (0x808C, ⟨0, [fieldAll 2 0]⟩)]
def regsPkg : List (Nat × RegRow) :=
  [(0x9010, ⟨0, [fieldAll 4 0]⟩),
   (0x901C, ⟨0x00140000, [(31, 16, 5, 1000)]⟩),
   (0x904C, ⟨0x780C8000, [(31, 27, 0, 30), (26, 13, 1, 10000)]⟩),
   (0x9050, ⟨0x28F, [fieldAll 15 0]⟩),
   (0x9054, ⟨0, [fieldAll 6 0]⟩),
   (0x9090, ⟨0x3E8, [(15, 0, 10, 60000)]⟩)]
def regsStart : List (Nat × RegRow) :=
  [(0xA014, ⟨0, [fieldAll 3 0]⟩),
   (0xA018, ⟨0, [fieldAll 31 0]⟩),
   (0xB044, ⟨0x101, [fieldAll 31 16, (15, 8, 1, 255), fieldAll 7 0]⟩),
   (0xC00C, ⟨0, [fieldAll 31 31, fieldAll 11 0]⟩),
   (0xC010, ⟨0, [fieldAll 31 16]⟩)]
def regsObs : List (Nat × RegRow) :=
  [(0xD018, ⟨0, [fieldAll 3 0]⟩),
   (0xD040, ⟨0, [fieldAll 11 0]⟩),
   (0xD100, ⟨0, [fieldAll 1 0]⟩),
   (0xD108, ⟨0, [fieldAll 3 0]⟩),
   (0xD124, ⟨0, [fieldAll 13 0]⟩),
   (0xD180, ⟨0, [fieldAll 31 0]⟩),
   (0xD184, ⟨0, [fieldAll 31 0]⟩),
   (0xD188, ⟨0, [fieldAll 27 27]⟩),
   (0xD18C, ⟨0, [fieldAll 31 30, fieldAll 29 24, fieldAll 23 18, fieldAll 4 0]⟩)]

/-- Every plain read-write register by offset; the masks of the attention tree and the arguments of the host command slot
follow their own patterns. -/
def regTable : List (Nat × RegRow) :=
  regsTime ++ regsTicket ++ regsCore ++ regsEst ++ regsCtl ++ regsCap ++ regsDroop ++ regsTherm ++ regsPkg ++ regsStart ++
    regsObs ++ (List.range 15).map (fun g => (0x0084 + 8 * g, ⟨2 ^ causeWidth g - 1, [fieldAll (causeWidth g - 1) 0]⟩))

/-- The row of a plain register. -/
def regRow (off : Nat) : Option RegRow := (regTable.find? (fun r => r.1 = off)).map Prod.snd

/-- The reset word of a plain register; 0 for any other offset. Log 5 DESIGN CHOICE. -/
def regReset (off : Nat) : Nat := ((regRow off).map RegRow.reset).getD 0

/-- R11, R15: the word stored when `w` is written over `old`: every RW field at the nearest limit of its range. -/
def regStore (r : RegRow) (old w : Nat) : Nat :=
  r.fields.foldl (fun x f =>
    x - bits x f.1 f.2.1 <<< f.2.1 + (clampN f.2.2.1 f.2.2.2 (bits w f.1 f.2.1)) <<< f.2.1) old

/-- The word that a write of `w` leaves in a plain register. TKT_LIMITS.DRAIN_US takes 0 and 4 to 1,000 (Table 3-7): a
value between is replaced by 4. -/
def regWord (off old w : Nat) : Nat :=
  match regRow off with
  | none => old
  | some r => regStore r old (if off = 0x2080 ∧ 1 ≤ bits w 9 0 ∧ bits w 9 0 ≤ 3 then w - bits w 9 0 + 4 else w)

/-- A register word of a table of written words. -/
def regIn (cfg : Tab Nat) (off : Nat) : Nat := tget (regReset off) off cfg

/-! ### The map and its privileges (R425, R431) -/

/-- Offsets of the map as (first, last, class): 0 Any, 1 Ctx, 2 Sys, 3 Dbg, 4 Sec-W. Every multiple of 4 between the two is
in the map. -/
def regMap : List (Nat × Nat × Nat) :=
  [(0x0000, 0x0010, 0), (0x0020, 0x002C, 0), (0x0040, 0x0048, 2), (0x0080, 0x00F4, 2)] ++
  [(0x1000, 0x1000, 0), (0x1004, 0x1004, 2), (0x1008, 0x1010, 0), (0x1014, 0x1020, 2)] ++
  [(0x2000, 0x203C, 2), (0x2080, 0x20A0, 2)] ++
  [(0x3000, 0x3000, 2), (0x3004, 0x3004, 0), (0x3008, 0x3018, 2), (0x301C, 0x301C, 3), (0x3020, 0x3028, 2)] ++
  [(0x4000, 0x4044, 2), (0x4048, 0x404C, 1), (0x4050, 0x4054, 2), (0x4080, 0x4090, 2)] ++
  [(0x5000, 0x5000, 0), (0x5004, 0x501C, 2), (0x5040, 0x5050, 2), (0x5080, 0x5098, 2), (0x50C0, 0x50C8, 2),
   (0x5100, 0x5108, 2)] ++
  [(0x6000, 0x6000, 0), (0x6004, 0x6034, 2), (0x6040, 0x605C, 2)] ++
  [(0x7000, 0x7024, 2), (0x7040, 0x704C, 2), (0x7060, 0x7064, 2)] ++
  [(0x8000, 0x8000, 0), (0x8004, 0x802C, 2), (0x8040, 0x8044, 2), (0x8080, 0x8080, 0), (0x8084, 0x8094, 2)] ++
  [(0x9000, 0x9000, 0), (0x9004, 0x9024, 2), (0x9040, 0x9064, 2), (0x9080, 0x9080, 0), (0x9084, 0x9094, 2)] ++
  [(0xA000, 0xA000, 0), (0xA004, 0xA008, 2), (0xA00C, 0xA010, 0), (0xA014, 0xA01C, 2), (0xA040, 0xA074, 4)] ++
  [(0xB000, 0xB000, 0), (0xB004, 0xB034, 2), (0xB040, 0xB048, 3)] ++
  [(0xC000, 0xC014, 2), (0xC018, 0xC01C, 0), (0xC080, 0xC0FC, 2)] ++
  [(0xD000, 0xD020, 2), (0xD040, 0xD040, 2), (0xD044, 0xD058, 1), (0xD060, 0xD080, 2), (0xD100, 0xD12C, 2),
   (0xD180, 0xD194, 2)] ++
  [(0xE000, 0xE024, 2), (0xE040, 0xE05C, 2), (0xE080, 0xE080, 0), (0xE084, 0xE090, 2)]

/-- The class of an offset; none for one that the map does not list. -/
def regClass (off : Nat) : Option Nat :=
  if off % 4 ≠ 0 then none
  else (regMap.find? (fun r => decide (r.1 ≤ off ∧ off ≤ r.2.1))).map (fun r => r.2.2)

/-- Table 16-1: whether a level admits a read of a class. -/
def mayRead (priv cls : Nat) : Bool :=
  if cls = 0 ∨ cls = 1 ∨ cls = 4 then true else if cls = 2 then decide (1 ≤ priv) else priv == 2

/-- Table 16-1: whether a level admits a write of a class. -/
def mayWrite (priv cls : Nat) : Bool :=
  if priv = 0 then false else if cls = 4 then priv == 3 else if cls = 3 then priv == 2 else true

/-- R400, R426: RP_RESP of an access: the address, then Lockout for a write, then the privilege. -/
def rpResp (lock write : Bool) (priv off : Nat) : Nat :=
  match regClass off with
  | none => 2
  | some c => if write && lock then 3 else if (if write then mayWrite priv c else mayRead priv c) then 0 else 1

end Sys2Proof.Machine
end

