-- ==== Sys2Proof/Machine/Ops.lean ====
section
/-! DEFINITION. The operations that every family shares: register words, what the block gives to the outside, attention
causes, the trace buffers, the Prompt Book, the fault collector, the safe state and the hold outputs. -/

namespace Sys2Proof.Machine

open Sys2Proof

/-- A meaning's only outcome: every behaviour that the manual gives the block is a next state. -/
def done (s : State) : Host.Outcome State Fault Refusal := .next s

/-- What every command starts from: nothing given to the outside yet. Log 8 DESIGN CHOICE. -/
def fresh (s : State) : State := { s with out := [] }

/-- A register word as written, and as in force since the last sample edge (R12). -/
def wreg (s : State) (off : Nat) : Nat := regIn s.regs.wr off
def areg (s : State) (off : Nat) : Nat := regIn s.regs.act off

/-- The effect of block floating point on a result of a routine whose stages the manual does not list: a free number of last
places, at most 2^-12 of the largest value of its block and one. Log 13 DESIGN CHOICE. -/
def bfpErr (fr : Nat) (top : Int) : Int :=
  let b : Int := (top.natAbs / 4096 + 1 : Nat)
  clampI (-b) b (Config.mantissa fr)

/-- A message or pulse to the outside. Log 8 DESIGN CHOICE. -/
def emit (e : Emit) (s : State) : State := { s with out := s.out ++ [e] }
def emitAll (l : List Emit) (s : State) : State := { s with out := s.out ++ l }

/-- R435: a cause bit is set; it stays set until host software writes 1 to it. -/
def causeSet (g b : Nat) (t : Tab Nat) : Tab Nat := tset 0 g (tget 0 g t ||| 2 ^ b) t
def raise (g b : Nat) (s : State) : State := { s with regs := { s.regs with cause := causeSet g b s.regs.cause } }
/-- A cause that is raised where a condition holds. -/
def raiseIf (c : Bool) (g b : Nat) (s : State) : State := if c then raise g b s else s

/-! ### Where the block stands -/

/-- START_STATUS.STATE is LIVE. -/
def isLive (s : State) : Bool := s.start.state == 9
/-- Lockout (R337). -/
def lockout (s : State) : Bool := s.start.state == 15
/-- A private test instruction is selected, so the hold outputs are driven (R422). -/
def holdOut (s : State) : Bool := !isLive s || s.fault.safe || s.start.testMode
/-- The block runs: live, not in the safe state, with its supply and its clock. -/
def running (s : State) : Bool := !holdOut s && s.start.blkUp && !s.start.bclkAbsent
/-- R335, R337, R165: what is latched and timed while the block runs or settles goes on in the safe state, under a Lockout that a
running block met too. -/
def images (s : State) : Bool := s.start.state == 8 || isLive s || (lockout s && s.start.live)
/-- BCLK-domain units work. -/
def clocked (s : State) : Bool := s.start.blkUp && !s.start.bclkAbsent

/-- Build of the parameters: Full, Standard, Lite (R8). -/
def byBuild (s : State) (full standard lite : Nat) : Nat :=
  if s.par.build = 0 then full else if s.par.build = 1 then standard else lite

/-! ### Ages (R109) -/

/-- The sources of inputs that come less often than once a sample. -/
def srcTel : Nat := 0
def srcCool : Nat := 1
def srcAlloc : Nat := 2
def srcFleet : Nat := 3
def srcMgmt : Nat := 4
def srcSite (i : Nat) : Nat := 0x1000 + i
def srcDie (i : Nat) : Nat := 0x2000 + i
def srcChild (i : Nat) : Nat := 0x10000 + i

/-- An input has arrived from a source. -/
def arrived (src : Nat) (s : State) : State := { s with time := { s.time with came := tset 0 src s.time.edgeN s.time.came } }

/-- The age of a source's input at the edge in progress: 0 where it arrived in the sample that the edge ends. -/
def ageEdges (s : State) (src : Nat) : Nat := min 65535 (s.time.edgeN - tget 0 src s.time.came)

/-! ### Trace buffers (R371 to R375) -/

def trcSize : Nat := 16384
/-- Buffers of the build (R371). -/
def trcBufs (s : State) : Nat := byBuild s 4 2 1

/-- One entry written: the ring advances; after a trigger the entries left run out and the buffer becomes done (R374). -/
def trcPut (e : Nat) (b : TraceBuf) : TraceBuf :=
  if b.state = 1 then { b with mem := tset 0 b.wrPtr e b.mem, wrPtr := (b.wrPtr + 1) % trcSize }
  else if b.state = 2 then
    { b with mem := tset 0 b.wrPtr e b.mem, wrPtr := (b.wrPtr + 1) % trcSize, left := b.left - 1,
             state := if b.left ≤ 1 then 3 else 2 }
  else b

/-- Table 14-3: an entry of TYPE 0, 1 or 2, and one of TYPE 3. -/
def trcEntry (type cycle k src value : Nat) : Nat :=
  numOf [(63, 62, type), (61, 48, cycle), (47, 40, k), (39, 36, src), (31, 0, value)]
def trcTime (k : Nat) : Nat := numOf [(63, 62, 3), (61, 0, k)]

/-- R372: the time entry before the first entry of a sample whose k / 256 differs. -/
def trcStamp (k : Nat) (b : TraceBuf) : TraceBuf :=
  if b.timeK = some (k / 256) then b else { trcPut (trcTime k) b with timeK := some (k / 256) }

/-- The trigger of an armed buffer: the mark, POST further entries. A later condition is counted (R374). -/
def trcMark (type code cycle k : Nat) (b : TraceBuf) : TraceBuf :=
  if b.state = 1 then
    let c := trcStamp k b
    { trcPut (trcEntry 1 cycle k type code) c with
        trigIdx := c.wrPtr, left := b.aPost, state := if b.aPost = 0 then 3 else 2 }
  else if b.state = 2 then { b with trigExtra := wrapAdd 8 b.trigExtra 1 }
  else b

/-- The buffers that trigger with those of a list, through LINK; a buffer's own bit is ignored. -/
def trcLinked (bufs : Tab TraceBuf) (n : Nat) (l : List Nat) : List Nat :=
  (List.range n).filter (fun b => l.contains b ||
    l.any (fun c => c != b && (tget traceBuf0 b bufs).aLink.testBit c && decide ((tget traceBuf0 c bufs).state = 1)))

/-- R374, R376: buffers whose condition of a type is met trigger, and those linked to them; attention and FREEZE_ON follow. -/
def trcFire (type code cycle : Nat) (l : List Nat) (s : State) : State :=
  if l = [] then s else
    let n := trcBufs s
    let all := (List.range n).foldl (fun x _ => trcLinked s.obs.bufs n x) l
    let was := fun b => (tget traceBuf0 b s.obs.bufs).state
    let bufs := tmodAll traceBuf0 all (fun _ => trcMark type code cycle s.time.k) s.obs.bufs
    let trig := all.filter (fun b => was b == 1)
    let fin := all.any (fun b => was b != 3 && (tget traceBuf0 b bufs).state == 3)
    let s1 : State := { s with
      obs := { s.obs with bufs := bufs },
      core := { s.core with freezeReq := s.core.freezeReq || trig.any (fun b => (tget traceBuf0 b s.obs.bufs).aFreezeOn) } }
    raiseIf fin 13 1 (raiseIf (decide (trig ≠ [])) 13 0 s1)

/-- The buffers that run and whose armed trigger has a type and meets a test. -/
def trcArmed (s : State) (type : Nat) (ok : TraceBuf → Bool) : List Nat :=
  (List.range (trcBufs s)).filter (fun i =>
    let b := tget traceBuf0 i s.obs.bufs
    (b.state == 1 || b.state == 2) && fieldOf b.aTrig 31 29 == type && ok b)

/-- Trigger TYPE 1: a delivery whose code matches under MASK. The cycle of a mark is a free value: the model has no cycles.
Log 100 DEDUCED. -/
def trcDelivery (code : Nat) (s : State) : State :=
  let l := trcArmed s 1 (fun b => code &&& fieldOf b.aTrig2 31 16 == fieldOf b.aTrig 15 0 &&& fieldOf b.aTrig2 31 16)
  if l = [] then s
  else trcFire 1 code ((Config.freeWord s.free).toNat % 16384) l { s with free := s.free + 1 }

/-! ### The Prompt Book (R346 to R353) -/

/-- Entries of the build (R348). -/
def bookCap (s : State) : Nat := byBuild s 4096 2048 512

/-- The code table's row of a code, or the defaults of R356. -/
def codeRow (codes : List CodeRow) (code : Nat) : CodeRow :=
  (codes.find? (fun r => r.code = code)).getD
    { code := code, sev := (eventSev code).getD 0, binMode := 1, binShift := 0, binLo := 0, rate := 1000, name0 := 0,
      name1 := 0 }

/-- R350: the bin of a value. -/
def binOf (r : CodeRow) (v : Int) : Nat :=
  if r.binMode = 2 then 0
  else if v < r.binLo then 0
  else
    let x := (v - r.binLo).toNat
    min 31 (if r.binMode = 0 then 1 + x >>> r.binShift else 1 + log2 (x + 1))

/-- R349: the working copy after one delivery. -/
def entryAdd (opmin pcc tick bin : Nat) (v : Int) (e : Entry) : Entry :=
  { e with count := e.count + 1, min := min e.min v, max := max e.max v, lastOpmin := opmin, lastPcc := pcc,
           lastValue := v, lastTick := tick, bins := tset 0 bin (min 65535 (tget 0 bin e.bins + 1)) e.bins,
           binSat := e.binSat || decide (65535 ≤ tget 0 bin e.bins) }

/-- The first delivery of a code. -/
def entryNew (code sev opmin pcc tick bin : Nat) (v : Int) : Entry :=
  { code := code, sev := sev, binSat := false, count := 1, min := v, max := v, firstOpmin := opmin, firstPcc := pcc,
    lastOpmin := opmin, lastPcc := pcc, lastValue := v, firstTick := tick, lastTick := tick, bins := [(bin, 1)] }

/-- The index of a code's entry. -/
def bookFind (b : BookSt) (code : Nat) : Option Nat :=
  (b.slots.find? (fun p => match p.2.work with | some e => e.code == code | none => false)).map Prod.fst

/-- R353: the lowest free index. -/
def bookFree (b : BookSt) (cap : Nat) : Option Nat :=
  (List.range cap).find? (fun i => (tget bookSlot0 i b.slots).work.isNone)

/-- R353: the victim for a delivery of a severity: lowest SEV, then earliest LAST_TICK, then lowest index. -/
def bookVictim (b : BookSt) (sev : Nat) : Option (Nat × Entry) :=
  b.slots.foldl (fun x p => match p.2.work with
    | none => x
    | some e => if sev < e.sev then x else match x with
      | none => some (p.1, e)
      | some y => if e.sev < y.2.sev || (e.sev == y.2.sev && decide (e.lastTick < y.2.lastTick)) then some (p.1, e)
        else x) none

/-- R351, R352: publication: SEQ passes through an odd value to the next even one. -/
def slotPublish (up : Nat) (x : BookSlot) : BookSlot :=
  { x with seq := wrapAdd 32 x.seq 2, pub := x.work, lastPub := some up, dirty := false }

/-- R351: an entry is published with a delivery when it is the first or when RATE_US ticks have passed. -/
def slotDue (up rate : Nat) (x : BookSlot) : Bool :=
  match x.lastPub with
  | none => true
  | some t => decide (t + rate ≤ up)

/-- One delivery, and whether it was lost (R349 to R353). -/
def bookDeliver (b : BookSt) (cap up tick code sev : Nat) (v : Int) : BookSt × Bool :=
  let r := codeRow b.codes code
  let bin := binOf r v
  let new := entryNew code sev b.opmin b.pcc tick bin v
  let place := fun i => slotPublish up { tget bookSlot0 i b.slots with work := some new }
  match bookFind b code with
  | some i =>
    let x := tget bookSlot0 i b.slots
    let y := { x with work := x.work.map (entryAdd b.opmin b.pcc tick bin v), dirty := true }
    ({ b with slots := tset bookSlot0 i (if slotDue up r.rate x then slotPublish up y else y) b.slots }, false)
  | none =>
    match bookFree b cap with
    | some i => ({ b with slots := tset bookSlot0 i (place i) b.slots }, false)
    | none =>
      match bookVictim b sev with
      | some (i, e) => ({ b with slots := tset bookSlot0 i (place i) b.slots,
                                 evict := tmod 0 e.sev (fun c => wrapAdd 8 c 1) b.evict }, false)
      | none => ({ b with lost := tmod 0 sev (fun c => wrapAdd 8 c 1) b.lost }, true)

/-- R346: a delivery of a code to the Prompt Book, which the trace buffers see. The value is a signed 32-bit one; beyond that it is
the nearest limit (R11). -/
def deliver (code sev : Nat) (v : Int) (s : State) : State :=
  let r := bookDeliver s.book (bookCap s) s.time.up s.time.count code sev (clampI (-(2 ^ 31)) (2 ^ 31 - 1) v)
  trcDelivery code (raiseIf r.2 12 1 { s with book := r.1 })

/-- An event of Table 13-1; its severity is the code table's where the table names it. -/
def event (code : Nat) (v : Int) (s : State) : State := deliver code (codeRow s.book.codes code).sev v s

/-! ### Hold outputs and the safe state (R309, R335) -/

/-- R402, R403: the CRC of a master frame, over every bit above it. -/
def frameCrc (type addr value tick fseq : Nat) : Nat :=
  crc8 7 [0xB0 + type % 16, addr % 64 * 4, value / 256 % 256, value % 256, tick / 256 % 256, tick % 256, fseq % 256]

/-- One master frame on the Fast Rail Interface (R403). -/
def friSend (type addr value : Nat) (s : State) : State :=
  let t := s.time.count % 65536
  { s with out := s.out ++ [.frame type addr value t s.port.fseq (frameCrc type addr value t s.port.fseq)],
           port := { s.port with fseq := wrapAdd 8 s.port.fseq 1 } }

/-- The rails of SAFE_RAILS. -/
def safeRailList (s : State) : List Nat := (List.range 32).filter (fun r => s.par.safeRails.testBit r)

/-- Clock target of a domain: SAFE_FREQ where nothing else has been applied. Log 58 DESIGN CHOICE. -/
def clockOf (s : State) (d : Nat) : Nat := tget s.par.safeFreq d s.law.clock

/-- R309: the hold outputs as they are taken up: SAFE_FREQ to every domain, SAFE_VOLT to the rails in SAFE_RAILS, every
lease at 0. The Stretch Port, the throttle lines, the grants and the ports follow from `holdOut`. Log 97 DEDUCED. -/
def holdDrive (s : State) : State :=
  let doms := (List.range 16).filter (fun d => clockOf s d != s.par.safeFreq)
  let rails := safeRailList s
  let s1 := rails.foldl (fun x r => friSend 1 r s.par.safeVolt x) s
  { s1 with
    out := s1.out ++ doms.map (fun d => .load d s.par.safeFreq),
    law := { s1.law with clock := [], railV := rails.foldl (fun t r => tset 0 r s.par.safeVolt t) s1.law.railV },
    port := { s1.port with friQ := s1.port.friQ.filter (fun p => !rails.contains p.1) },
    tk := { s1.tk with agents := s1.tk.agents.map (fun a =>
      (a.1, { a.2 with rateQ := 0, target := 0, igniting := false, took := 0 })) } }

/-- R335, R130, R344: transfer to the safe state. A freeze ends, and FREEZE_END is raised. Log 97 DEDUCED. -/
def enterSafe (s : State) : State :=
  if s.fault.safe then { s with fault := { s.fault with errFault := true }, core := { s.core with running := false } }
  else
    let s1 := holdDrive s
    raiseIf s.core.frozen 3 1 { s1 with
      fault := { s1.fault with safe := true, safeEarly := !s.start.live, errFault := true },
      core := { s1.core with frozen := false, running := false } }

/-! ### The collector (R330 to R333) -/

/-- R331, R332: the record after a fault of class D or above. -/
def recordFault (cls code tick opmin : Nat) (inj : Bool) (f : FaultSt) : FaultSt :=
  let sc := if cls = 4 then f.sCodes ++ [code] else f.sCodes
  if f.isOpen then
    { f with cause := f.cause ||| groupBit code, seen := f.seen ||| seenBit cls, merges := min 65535 (f.merges + 1),
             lastCode := code, cls := max f.cls cls, injected := f.injected || inj, sCodes := sc }
  else
    { f with isOpen := true, code := code, cls := cls, cause := groupBit code, seen := seenBit cls, merges := 0,
             lastCode := code, firstTick := tick, firstOpmin := opmin, injected := inj, sCodes := sc }

/-- R330: the counter of a fault's class, and of injected faults. -/
def countFault (cls : Nat) (inj : Bool) (f : FaultSt) : FaultSt :=
  { f with nN := wrapInc 16 (cls == 1) f.nN, nC := wrapInc 16 (cls == 2) f.nC, nD := wrapInc 16 (cls == 3) f.nD,
           nS := wrapInc 8 (cls == 4) f.nS, nL := wrapInc 8 (cls == 5) f.nL, nInj := wrapInc 8 inj f.nInj }

/-- R330: one fault that the collector takes. -/
def collect (code : Nat) (v : Int) (inj : Bool) (s : State) : State :=
  let cls := faultClass code
  let s1 := deliver code (classSev cls) v { s with fault := countFault cls inj s.fault }
  if cls < 3 then s1
  else
    let s2 := raise 0 0 { s1 with
      fault := recordFault cls code s.time.count s.book.opmin inj s1.fault,
      core := { s1.core with faultSince := true } }
    if cls < 4 then s2
    else if cls = 4 then enterSafe s2
    else
      let s3 := enterSafe s2
      { s3 with start := { s3.start with state := 15 } }

/-- R329, R330: a unit reports a fault. A code that Table 12-2 does not list is never reported. While the block supply or
BCLK is down, faults of the Curtain wait and others are not detected (Table 12-7). -/
def reportInj (inj : Bool) (code : Nat) (v : Int) (s : State) : State :=
  if faultClass code = 0 then s
  else if clocked s then collect code v inj s
  else if code / 4096 = 8 then { s with fault := { s.fault with held := s.fault.held ++ [(code, v)] } }
  else s

def report (code : Nat) (v : Int) (s : State) : State := reportInj false code v s
def reportIf (c : Bool) (code : Nat) (v : Int) (s : State) : State := if c then report code v s else s

/-- R333, R349: the order of faults of one cycle: higher class first, then lower code, then lower value. -/
def faultLe (a b : Nat × Int) : Bool :=
  decide (faultClass b.1 < faultClass a.1) ||
    (decide (faultClass a.1 = faultClass b.1) && (decide (a.1 < b.1) || (decide (a.1 = b.1) && decide (a.2 ≤ b.2))))

/-- R333: two detections of one code of class D or above in one cycle count as one. Log 96 DEDUCED. -/
def faultOnce : List (Nat × Int) → List (Nat × Int)
  | [] => []
  | x :: r => x :: (faultOnce r).filter (fun y => !(y.1 == x.1 && decide (3 ≤ faultClass x.1)))

/-- Faults detected in one cycle. Log 118 DEDUCED. -/
def reportAll (l : List (Nat × Int)) (s : State) : State :=
  (faultOnce (sortBy faultLe l)).foldl (fun x f => report f.1 f.2 x) s

/-- R334: the record is copied into FAULT_PREV and closed. `status` is FAULT_STATUS as it reads. Log 96 DEDUCED. -/
def closeRecord (f : FaultSt) (status : Word) : FaultSt :=
  if f.isOpen then
    { f with prevCode := wordOf [(31, 16, f.code), (15, 0, f.cause)], prevStatus := status, prevTick := f.firstTick,
             isOpen := false, cls := 0, cause := 0, seen := 0, merges := 0, sCodes := [] }
  else f

/-- FAULT_STATUS (Table 12-8). -/
def faultStatus (f : FaultSt) : Word :=
  wordOf [bit 31 f.isOpen, (30, 28, f.cls), bit 27 f.injected, bit 26 f.errFault, bit 25 f.errMismatch, (24, 22, f.seen),
    (15, 0, f.merges)]

/-! ### Injections (R341) -/

/-- What a SECDED check makes of inverted check bits: 0 nothing, 1 a corrected, 2 an uncorrectable error. Three or more
give whatever the decoder makes of them: a free value. Log 9 DESIGN CHOICE, log 116 DEDUCED. -/
def secded (mask free : Nat) : Nat :=
  let n := popcount 7 mask
  if n ≤ 2 then n else free % 3

/-- One check of a checker: what an injection pending at it makes of the check, the injection with one check less.
Log 116 DEDUCED. -/
def injCheck (checker : Nat) (s : State) : Nat × State :=
  match s.fault.inj with
  | none => (0, s)
  | some j =>
    if j.checker ≠ checker then (0, s)
    else (secded j.mask (Config.freeWord s.free).toNat,
      { s with free := s.free + 1,
               fault := { s.fault with inj := if j.left ≤ 1 then none else some { j with left := j.left - 1 } } })

/-- One parity check: whether an injection inverts its one check bit (Table 12-5). -/
def injParity (checker : Nat) (s : State) : Bool × State :=
  (match s.fault.inj with
   | some j => j.checker == checker && j.mask.testBit 0
   | none => false, (injCheck checker s).2)

/-! ### The Register Port (R398 to R400) -/

/-- R304, R389: the port answers once the block has left RESET and while BCLK runs. Log 103 DESIGN CHOICE. -/
def rpAlive (s : State) : Bool := clocked s && s.start.state != 0

/-- R400: the response of an access, counted when it is not 0b00. A write's response carries no data.
Log 103 DESIGN CHOICE. -/
def rpAnswer (resp : Nat) (data : Word) (s : State) : State :=
  { s with
    out := s.out ++ [.reg resp data],
    regs := { s.regs with
      resp := resp, rdata := data,
      privDenied := wrapInc 16 (resp == 1) s.regs.privDenied,
      badAddr := wrapInc 8 (resp == 2) s.regs.badAddr,
      lockWrites := wrapInc 8 (resp == 3) s.regs.lockWrites } }

/-- A write access: what it does happens only when the checks of R400 let it. Log 103 DESIGN CHOICE. -/
def rpWrite (priv off : Nat) (f : State → State) (s : State) : State :=
  if !rpAlive s then s
  else
    let r := rpResp (lockout s) true priv off
    rpAnswer r 0 (if r = 0 then f s else s)

/-- A register word written under R15. -/
def putReg (off w : Nat) (s : State) : State :=
  { s with regs := { s.regs with wr := tset (regReset off) off (regWord off (wreg s off) w) s.regs.wr } }

/-! ### Management messages -/

/-- R417: an alert carries the block's own sequence number. Log 113 DEDUCED. -/
def alert (code : Nat) (data : List Nat) (s : State) : State :=
  { s with out := s.out ++ [.alert code s.mgmt.alertSeq data],
           mgmt := { s.mgmt with alertSeq := wrapAdd 32 s.mgmt.alertSeq 1 } }

/-- A number as `n` bytes, low byte first. -/
def leBytes : Nat → Nat → List Nat
  | 0, _ => []
  | n + 1, x => x % 256 :: leBytes n (x / 256)

/-- The number that bytes spell, low byte first. -/
def fromLe : List Nat → Nat
  | [] => 0
  | b :: r => b % 256 + 256 * fromLe r

end Sys2Proof.Machine
end

