-- ==== Sys2Proof/Machine/Book.lean ====
section
/-! DEFINITION. The Prompt Book's rows and its store: deferred publication (R351), PB_FIND (R357), CLEAR (R358), the stored
book (R359 to R361), and words of the flash. -/

namespace Sys2Proof.Machine

open Sys2Proof

/-! ### The flash (R319, R359) -/

/-- A word of the flash at a byte offset, low byte first; an unlisted byte is erased. Log 4 DESIGN CHOICE. -/
def flashWord (t : Tab Nat) (off : Nat) : Nat := fromLe ((List.range 4).map (fun i => tget 255 (off + i) t))

/-- Words of the flash from an offset on. -/
def flashWords (t : Tab Nat) (off n : Nat) : List Nat := (List.range n).map (fun i => flashWord t (off + 4 * i))

/-- An erase of `span` bytes from an offset on. Log 4 DESIGN CHOICE. -/
def flashErase (off span : Nat) (t : Tab Nat) : Tab Nat := t.filter (fun p => p.1 < off || off + span ≤ p.1)

/-- Words programmed from an offset on. Log 4 DESIGN CHOICE. -/
def flashProgram (off : Nat) (ws : List Nat) (t : Tab Nat) : Tab Nat :=
  (bytesOfWords ws).zipIdx.foldl (fun u b => tset 255 (off + b.2) b.1 u) t

/-- An erase of `span` bytes, and the words programmed into them. -/
def flashWrite (off span : Nat) (ws : List Nat) (t : Tab Nat) : Tab Nat := flashProgram off ws (flashErase off span t)

/-- Every byte of a span is erased. -/
def flashBlank (off span : Nat) (t : Tab Nat) : Bool := t.all (fun p => p.1 < off || off + span ≤ p.1)

/-! ### Words of an entry (R348) -/

/-- Table 13-3: words 1 to 31 of an allocated entry. -/
def entryWords (e : Entry) : List Nat :=
  [numOf [(31, 16, e.code), (15, 14, e.sev), (13, 13, 1), bit 12 e.binSat], e.count % 2 ^ 32, e.count / 2 ^ 32 % 2 ^ 32,
    twos 32 e.min, twos 32 e.max, e.firstOpmin, e.firstPcc, e.lastOpmin, e.lastPcc, twos 32 e.lastValue, 0,
    e.firstTick % 2 ^ 32, e.firstTick / 2 ^ 32 % 2 ^ 32, e.lastTick % 2 ^ 32, e.lastTick / 2 ^ 32 % 2 ^ 32] ++
  (List.range 16).map (fun i => tget 0 (2 * i) e.bins + 65536 * tget 0 (2 * i + 1) e.bins)

/-- R348, R357: the 32 words of an entry as published; without a published copy words 1 to 31 are 0. -/
def slotWords (x : BookSlot) : List Nat :=
  x.seq :: (match x.pub with
    | some e => entryWords e
    | none => List.replicate 31 0)

/-- A word of four counters by severity, severity 3 in the high byte. -/
def sevWord (t : Tab Nat) : Nat := numOf ((List.range 4).map (fun i => (8 * i + 7, 8 * i, tget 0 i t)))

/-! ### Rows of the live book -/

/-- PB_PUBLISH (R351): RATE_US ticks have passed since the last publication of an entry that holds unpublished deliveries. -/
def execPbPublish (code : Nat) (s0 : State) : Host.Outcome State Fault Refusal :=
  let s := fresh s0
  match bookFind s.book code with
  | none => done s
  | some i =>
    let x := tget bookSlot0 i s.book.slots
    if x.dirty && slotDue s.time.up (codeRow s.book.codes code).rate x then
      done { s with book := { s.book with slots := tset bookSlot0 i (slotPublish s.time.up x) s.book.slots } }
    else done s

/-- PB_FIND as it reads (Table 13-7). -/
def pbFindWord (s : State) : Nat :=
  let c := bits (wreg s 0xC010) 31 16
  numOf ((31, 16, c) :: (match bookFind s.book c with
    | some i => [(15, 15, 1), (11, 0, i)]
    | none => []))

/-- PB_FIND (R357): a code is written and the answer read. Log 99 DESIGN CHOICE. -/
def execPbFind (priv code : Nat) (s0 : State) : Host.Outcome State Fault Refusal :=
  let s := rpWrite priv 0xC010 (putReg 0xC010 (code % 65536 * 65536)) (fresh s0)
  if rpAlive s && s.regs.resp == 0 then done (rpAnswer 0 (BitVec.ofNat 32 (pbFindWord s)) s) else done s

/-- R358: the book at the edge that carries out a CLEAR. Log 98 DEDUCED. -/
def bookClear (s : State) : State :=
  if !s.book.clearReq then s
  else { s with book := { s.book with
    clearReq := false, lost := [], evict := [],
    slots := tmodAll bookSlot0 (List.range (bookCap s)) (fun _ x => { bookSlot0 with seq := wrapAdd 32 x.seq 2 })
      s.book.slots } }

/-! ### The stored book -/

/-- R359: how many entries the store holds: those that are allocated, which have the lowest indices (R353).
Log 98 DEDUCED. -/
def bookUsed (b : BookSt) : Nat := (b.slots.filter (fun p => p.2.work.isSome)).length

/-- Words of the header, of the entries and of the commit sector. Log 98 DEDUCED. -/
def bookHeader (s : State) : List Nat :=
  let w := [0x4B50424B, 0x10000 + bookUsed s.book, s.pb.partId % 2 ^ 32, s.pb.partId / 2 ^ 32 % 2 ^ 32, s.book.opmin,
    s.book.pcc, (s.book.stores + 1) % 2 ^ 32, sevWord s.book.lost, sevWord s.book.evict, s.time.count % 2 ^ 32,
    s.time.count / 2 ^ 32 % 2 ^ 32]
  w ++ [crc32c (bytesOfWords w)]

/-- Table 13-5: the commit sector for a header and entries. Log 98 DEDUCED. -/
def bookCommit (stores : Nat) (body : List Nat) : List Nat :=
  let w := [0x4B504443, stores, crc32c (bytesOfWords body)]
  w ++ [crc32c (bytesOfWords w)]

/-- Every word that a store programs, in the order of Table 13-5. -/
def bookImage (s : State) : List Nat :=
  let body := bookHeader s ++ (List.range (bookUsed s.book)).flatMap (fun i => slotWords (tget bookSlot0 i s.book.slots))
  body ++ bookCommit ((s.book.stores + 1) % 2 ^ 32) body

/-- The offset of the commit sector in the region. -/
def bookCommitOff : Nat := 0xFF000

/-- The region after a store of these words: header, entries, commit sector; the rest of the region's spans erased.
Log 93 DESIGN CHOICE. -/
def bookPlace (s : State) (ws : List Nat) : Tab Nat :=
  let n := ws.length
  let o := s.pb.bookOffset
  let t := flashErase (o + bookCommitOff) 4096 (flashErase o (4096 + 128 * bookCap s) s.flash)
  flashProgram (o + bookCommitOff) (ws.drop (n - 4))
    (flashProgram (o + 4096) ((ws.drop 12).take (n - 16)) (flashProgram o (ws.take 12) t))

/-- R360: a store starts with the entries as published; while one runs, STORE completes with status 1. READY falls while the
stored bank is selected (R361). Without an image in force no region is named, and the store ends as one whose flash fails.
Log 93 DESIGN CHOICE. -/
def bookStore (s : State) : State :=
  if s.book.storing.isSome || s.book.storeWait then { s with book := { s.book with status := 1 } }
  else if !s.pb.valid then { s with book := { s.book with status := 3 } }
  else { s with book := { s.book with storing := some (bookImage s), done := false,
                                      ready := s.book.ready && !(wreg s 0xC00C).testBit 31 } }

/-- R362: the book store that follows a margin store begins. -/
def bookBegin (s : State) : State :=
  if s.book.storeWait then bookStore { s with book := { s.book with storeWait := false } } else s

/-- A write of PB_CTRL (Table 13-7). CLEAR while a store runs completes with status 1. -/
def writePbCtrl (w : Nat) (s : State) : State :=
  let s1 := if w.testBit 31 then bookStore s else s
  if w.testBit 30 then
    if s.book.storing.isSome || s.book.storeWait then { s1 with book := { s1.book with status := 1 } }
    else { s1 with book := { s1.book with clearReq := true } }
  else s1

/-- CLEAR (R358). -/
def execClear (priv : Nat) (s : State) : Host.Outcome State Fault Refusal :=
  done (rpWrite priv 0xC014 (writePbCtrl (2 ^ 30)) (fresh s))

/-- PB_STORE (R360). -/
def execPbStore (priv : Nat) (s : State) : Host.Outcome State Fault Refusal :=
  done (rpWrite priv 0xC014 (writePbCtrl (2 ^ 31)) (fresh s))

/-- R360: the read-back of a store, compared with what it programmed; DONE, STATUS and the cause. -/
def bookEnd (error : Bool) (back img : List Nat) (s : State) : State :=
  let st := if error then 3 else if back = img then 0 else 2
  raise 12 0 { s with
    flash := bookPlace s back,
    book := { s.book with storing := none, done := true, status := st,
                          ready := s.book.ready || (wreg s 0xC00C).testBit 31 && s.book.fetched.isSome,
                          stores := if st = 0 then (s.book.stores + 1) % 2 ^ 32 else s.book.stores } }

/-- R361: a torn store leaves an erased commit sector. Log 64 DEDUCED. -/
def bookTorn (s : State) : State :=
  match s.book.storing with
  | none => { s with book := { s.book with storeWait := false } }
  | some _ => { s with flash := flashErase (s.pb.bookOffset + bookCommitOff) 4096 s.flash,
                       book := { s.book with storing := none, storeWait := false, done := true } }

/-- R361: what the region holds: 0 valid, 1 erased, 2 torn or failed, 3 of another part. -/
def bookStored (t : Tab Nat) (off part : Nat) : Nat :=
  let h := flashWords t off 12
  let c := flashWords t (off + bookCommitOff) 4
  let n := at' 0 h 1 % 65536
  let body := h ++ flashWords t (off + 4096) (32 * n)
  if flashBlank off (2 ^ 20) t then 1
  else if at' 0 h 0 = 0x4B50424B ∧ at' 0 h 1 / 65536 = 1 ∧ at' 0 h 11 = crc32c (bytesOfWords (h.take 11)) ∧
      n ≤ 4096 ∧ c = bookCommit (at' 0 h 6) body then
    if at' 0 h 2 + 2 ^ 32 * at' 0 h 3 = part then 0 else 3
  else 2

/-- A write of PB_CURSOR: the live bank is ready at once, the stored one when its entry has been fetched (R361). -/
def writePbCursor (w : Nat) (s : State) : State :=
  let s1 := putReg 0xC00C w s
  { s1 with book := { s1.book with ready := !w.testBit 31, fetched := none } }

/-- PB_STORED_FETCH (R361): the stored bank is selected for the INDEX of PB_CURSOR, and its entry has been fetched. READY
needs a stored book that is valid, and no store that runs. Log 99 DESIGN CHOICE. -/
def execPbStoredFetch (priv : Nat) (s0 : State) : Host.Outcome State Fault Refusal :=
  done (rpWrite priv 0xC00C (fun s =>
    let i := bits (wreg s 0xC00C) 11 0
    let s1 := writePbCursor (2 ^ 31 + i) s
    let ok := s1.book.stored == 0 && s1.book.storing.isNone && !s1.book.storeWait
    { s1 with book := { s1.book with ready := ok, fetched := if ok then some i else none } }) (fresh s0))

/-- The window's words (R357, R361): the live entry, or the stored entry once it has been fetched. -/
def bookWindow (s : State) : List Nat :=
  let w := wreg s 0xC00C
  let i := bits w 11 0
  if !w.testBit 31 then slotWords (tget bookSlot0 i s.book.slots)
  else if s.book.ready && decide (i < flashWord s.flash (s.pb.bookOffset + 4) % 65536) then
    flashWords s.flash (s.pb.bookOffset + 4096 + 128 * i) 32
  else List.replicate 32 0

end Sys2Proof.Machine
end

