-- ==== Sys2Proof/Machine/Estimate.lean ====
section
/-! DEFINITION. What the Control Program's estimation routines compute (chapter 05): features and leakage, the estimate,
the filtered measured power, adaptation, trust, the thermal model, plausibility and energy attribution. Powers are held in
1/65,536 mW, energies in 1/65,536 µJ, gains in Q16. A result of block floating point is the exact value plus the mantissa
effect that the manual bounds and does not give (`Config.mantissa`). -/

namespace Sys2Proof.Machine

/-- A zone's measured flag (R133). -/
def zoneMeasured (m : ModelCfg) (z : Nat) : Bool := m.measured.contains (tget zoneCfg0 z m.zones).rail

/-- The keys of the zones, of the features. -/
def zoneKeys (m : ModelCfg) : List Nat := m.zones.map Prod.fst
def featKeys (m : ModelCfg) : List Nat := m.feats.map Prod.fst

/-- D_f(k) of R138 in 1/65,536 mW: 2^s × Σ w × a fJ over the sample of `pNs` ns. -/
def featPower (m : ModelCfg) (act : Tab Nat) (pNs f : Nat) : Int :=
  let c := tget featCfg0 f m.feats
  let sum := sumN ((m.taps.filter (fun t => t.2.feature = f)).map (fun t => t.2.weight * tget 0 t.1 act))
  ((65536 * 2 ^ c.shift * sum : Nat) : Int) / ((1000 * pNs : Nat) : Int)

/-- R138: the features of this sample, one block of block floating point, the three before it kept for R140.
Log 13 DESIGN CHOICE. -/
def estFeatures (m : ModelCfg) (im : Image) (fr : Nat) (e : EstMem) : EstMem :=
  let x := featPower m im.act im.pNs
  let top := (featKeys m).foldl (fun t f => max t (x f)) 0
  let now := tbuild 0 (featKeys m) (fun f => x f + bfpErr (fr + f) top)
  { e with d := (now :: e.d).take 4 }

/-- R138: dynamic power of a zone from the features in force. -/
def zoneDyn (m : ModelCfg) (e : EstMem) (z : Nat) : Int :=
  sumI ((m.feats.filter (fun f => f.2.zone = z)).map
    (fun f => tget f.2.seed f.1 e.theta * tget 0 f.1 (e.d.headD []) / 65536))

/-- The index and the fraction of a leakage breakpoint axis, clamped to the table's edge (R139): whether it was clamped,
the lower breakpoint, and the distance from it in the axis' units. -/
def leakAxis (x lo step : Int) : Bool × Nat × Int :=
  let d := x - lo
  let c := clampI 0 (15 * step) d
  let i := min 14 (c / step).toNat
  (decide (c ≠ d), i, c - (i : Int) * step)

/-- R139: κ_z × Λ_z(T, V) in 1/65,536 mW, interpolated bilinearly. Log 51 DESIGN CHOICE. -/
def leakPower (m : ModelCfg) (z : Nat) (t v : Int) : Int :=
  let c := tget zoneCfg0 z m.zones
  let a := leakAxis t m.t0 m.dT
  let b := leakAxis v m.v0 m.dV
  let l := fun i j => ((tget 0 (i * 16 + j) c.leak : Nat) : Int)
  let i := a.2.1
  let j := b.2.1
  let num := (m.dT - a.2.2) * (m.dV - b.2.2) * l i j + a.2.2 * (m.dV - b.2.2) * l (i + 1) j
    + (m.dT - a.2.2) * b.2.2 * l i (j + 1) + a.2.2 * b.2.2 * l (i + 1) (j + 1)
  64 * (clampN 1024 16384 c.kappa : Int) * num / (m.dT * m.dV)

/-- R139: a point outside the leakage table sets IDX_CLAMP. -/
def leakClamped (m : ModelCfg) (t v : Int) : Bool := (leakAxis t m.t0 m.dT).1 || (leakAxis v m.v0 m.dV).1

/-- R139, R161: the zone temperature for leakage, in 1/16 °C. `used` gives the used temperature of a site, `tth` the
hottest of them. -/
def zoneTemp (m : ModelCfg) (e : EstMem) (o : EstOut) (used : Tab Int) (tth : Int) (z : Nat) : Int :=
  let c := tget zoneCfg0 z m.zones
  let hot := match c.sites.map (fun s => tget tth s used) with
    | [] => tth
    | x :: r => r.foldl max x
  let mean := if c.nodes = [] then hot else
    roundEven (sumI (c.nodes.map (fun n => tget 0 n e.nodes))) (c.nodes.length * 65536)
  if !e.inited then hot else if o.warmup || o.coldMaj then max mean hot else mean

/-- R137: the bypass power of a failed Booth's Agents of one domain, in 1/65,536 mW. Log 35 DEDUCED. -/
def bypassPower (agents : Tab AgentCfg) (failed : List Nat) (qSel d : Nat) : Int :=
  ((65536 * 1000 * 2 ^ qSel * sumN ((agents.filter (fun a => failed.contains (a.1 / 64) && a.2.dom = d)).map
    (fun a => a.2.bypRate)) / 1024 : Nat) : Int)

/-- R137: the zone that a domain's bypass power is charged to: the first zone of the domain. Log 35 DEDUCED. -/
def bypZone (m : ModelCfg) (d : Nat) : Option Nat := (zoneKeys m).find? (fun z => (tget zoneCfg0 z m.zones).dom == d)

/-- R137, R145: a domain's bypass power is charged to a measured zone. Log 35 DEDUCED. -/
def bypMeasured (m : ModelCfg) (d : Nat) : Bool :=
  match bypZone m d with
  | some z => zoneMeasured m z
  | none => false

/-- R137: the bypass power of some domains. -/
def bypOf (agents : Tab AgentCfg) (im : Image) (ds : List Nat) : Int := sumI (ds.map (bypassPower agents im.failed im.qSel))

/-- The bypass power that is charged to a zone. Log 35 DEDUCED. -/
def zoneByp (m : ModelCfg) (agents : Tab AgentCfg) (im : Image) (z : Nat) : Int :=
  bypOf agents im ((List.range 4).filter (fun d => bypZone m d == some z))

/-- R132, R140: the correction network runs: a Lite build has none. -/
def netRuns (build : Nat) (m : ModelCfg) : Bool := m.netOn && build != 2

/-- R140: the correction network. Its layer weights have no layout in the manual, so its output is an uninterpreted
function of the features of the last four samples; each output is limited to ±CORR_LIM_z. Log 14 DESIGN CHOICE. -/
def estCorrect (build : Nat) (m : ModelCfg) (wmem : Tab Nat) (e : EstMem) : Tab Int :=
  let ins := e.d.flatMap (fun t => (List.range 64).map (fun f => tget 0 f t))
  if netRuns build m then tbuild 0 (zoneKeys m) (fun z =>
    clampI (-(65536 * (tget zoneCfg0 z m.zones).corrLim : Int)) (65536 * (tget zoneCfg0 z m.zones).corrLim : Int)
      (Config.corrNet wmem z ins)) else []

/-- R140: an output of the network at its limit sets OUT_SAT. -/
def corrSat (build : Nat) (m : ModelCfg) (corr : Tab Int) : Bool :=
  netRuns build m && (zoneKeys m).any (fun z => decide (65536 * (tget zoneCfg0 z m.zones).corrLim ≤ (tget 0 z corr).natAbs))

/-- V_z of R139 in 0.25 mV: the target of the zone's rail; before a rail has one it is a free value.
Log 51 DESIGN CHOICE. -/
def zoneVolt (m : ModelCfg) (im : Image) (fr z : Nat) : Nat :=
  (tlook (tget zoneCfg0 z m.zones).rail im.railV).getD ((Config.freeWord (fr + z)).toNat % 65536)

/-- R141: P_est,z in mW: each term is rounded under R11. -/
def zoneMw (m : ModelCfg) (e : EstMem) (leak : Int) (z : Nat) : Int :=
  roundEven (zoneDyn m e z) 65536 + roundEven leak 65536 + roundEven (tget 0 z e.corr) 65536

/-- R141: the estimate. -/
def estPower (m : ModelCfg) (im : Image) (agents : Tab AgentCfg) (used : Tab Int) (tth : Int) (fr : Nat) (e : EstMem)
    (o : EstOut) : EstMem × EstOut :=
  let temp := fun z => zoneTemp m e o used tth z
  let volt := zoneVolt m im fr
  let leak := fun z => leakPower m z (temp z) (volt z : Int)
  let zp := fun z => zoneDyn m e z + leak z + tget 0 z e.corr
  let byp := bypOf agents im (List.range 4)
  let mw := fun z => toUnsigned 32 (zoneMw m e (leak z) z)
  let ks := zoneKeys m
  let meas := ks.filter (zoneMeasured m)
  let other := sumI (meas.map (fun z => leak z + tget 0 z e.corr)) + bypOf agents im ((List.range 4).filter (bypMeasured m))
  let smp : SampRec := { q := im.q, est := sumI (meas.map zp), other := other, d := e.d.headD [] }
  ({ e with hist := (smp :: e.hist).take 128, leakX := tbuild 0 ks leak,
            zHist := (tbuild 0 ks (fun z => zp z + zoneByp m agents im z) :: e.zHist).take 8 },
   { o with zoneP := tbuild 0 ks mw, zoneLeak := tbuild 0 ks (fun z => toUnsigned 32 (roundEven (leak z) 65536)),
            zoneT := tbuild 0 ks temp, zoneV := tbuild 0 ks volt,
            pEst := min allOnes (sumN (ks.map mw) + toUnsigned 32 (roundEven byp 65536)) })

/-- R11, R127: a result that its 32-bit field cannot hold. -/
def outside32 (x : Int) : Bool := decide (x < 0 ∨ (allOnes : Int) < x)

/-- R141, R11: a conversion of the estimate met a limit of its field; `e` and `o` are what the estimate has left. -/
def estSat (m : ModelCfg) (im : Image) (agents : Tab AgentCfg) (e : EstMem) (o : EstOut) : Bool :=
  let ks := zoneKeys m
  ks.any (fun z => outside32 (zoneMw m e (tget 0 z e.leakX) z)) ||
    outside32 ((sumN (ks.map (fun z => tget 0 z o.zoneP)) : Nat) + roundEven (bypOf agents im (List.range 4)) 65536)

/-- margin(X) of R147, X in mW. -/
def estMargin (cfg : Tab Nat) (x : Nat) : Nat :=
  max (roundEven ((bits (regIn cfg 0x4004) 17 12 * x : Nat) : Int) 100).toNat (1000 * bits (regIn cfg 0x4008) 15 8)

/-- Whether an edge, in quarter ticks, falls in the telemetry interval that ends at the request (R144). Log 47 DEDUCED. -/
def telHolds (im : Image) (t : TelSample) (q : Nat) : Bool := decide (q ≤ 4 * t.up ∧ 4 * t.up < q + 4 * im.telTicks)

/-- The sample records whose edges fall in the telemetry interval (R144). -/
def telHist (im : Image) (t : TelSample) (h : List SampRec) : List SampRec := h.filter (fun r => telHolds im t r.q)

/-- R144: a telemetry sample is partial when its interval contains an edge at which the Control Program did not run.
Log 47 DEDUCED. -/
def telPartial (im : Image) (t : TelSample) : Bool := im.edges.any (fun r => telHolds im t r.1 && !r.2)

/-- R144: F after one complete measured power. -/
def filterStep (shift : Nat) (f : Option Int) (p : Int) : Option Int :=
  match f with
  | none => some p
  | some x => some (x + roundEven (p - x) (2 ^ shift))

/-- R144: the filtered measured power. A partial sample updates F in the first sample in which the program runs. -/
def estFilter (im : Image) (e : EstMem) (o : EstOut) : EstMem × EstOut :=
  let sh := min 6 (bits (regIn im.cfg 0x4008) 7 4)
  let f := match im.tel with
    | some t => if t.complete then filterStep sh e.f t.pMeas else e.f
    | none => e.f
  ({ e with f := f }, { o with pF := toUnsigned 32 (roundEven (f.getD 0) 65536) })

/-- R11: F is converted to its field. -/
def filterSat (e : EstMem) : Bool := outside32 (roundEven (e.f.getD 0) 65536)

/-- R147: whether a complete sample disagrees, from Ē_est and P_meas in 1/65,536 mW. -/
def disagrees (cfg : Tab Nat) (est meas : Int) : Bool :=
  let lim := max (((bits (regIn cfg 0x4004) 31 26 : Nat) : Int) * meas)
    (6553600000 * ((bits (regIn cfg 0x4004) 25 18 : Nat) : Int))
  decide (lim < 100 * (est - meas).natAbs)

/-- Ē_est(n) of R144. -/
def meanEst (im : Image) (t : TelSample) (e : EstMem) : Int :=
  let h := telHist im t e.hist
  if h = [] then 0 else sumI (h.map (fun r => r.est)) / (h.length : Int)

/-- R147, R148: the trust test of a telemetry sample, its counts, and the unverified flag's clearing. The transitions that
the counts lead to are the steps TRUST_LOST, TRUST_REGAINED and UNVERIFIED. -/
def estJudge (m : ModelCfg) (im : Image) (e : EstMem) (o : EstOut) : EstMem × EstOut :=
  match im.tel with
  | none => ({ e with judged := 0 }, o)
  | some t =>
    if m.measured = [] then ({ e with judged := 0 }, o)
    else if !t.complete then ({ e with judged := 3, incRun := e.incRun + 1 }, o)
    else
      let part := telPartial im t
      let dis := disagrees im.cfg (meanEst im t e) t.pMeas
      ({ e with judged := if part then 4 else if dis then 2 else 1, incRun := 0 },
       { o with
          unverified := false,
          disCount := if part || im.sel.untrusted then o.disCount else if dis then min 2047 (o.disCount + 1) else 0,
          agreeCount := if part || !im.sel.untrusted then o.agreeCount
            else if dis then 0 else min 65535 (o.agreeCount + 1) })

/-- R146: whether adaptation runs on this telemetry sample. -/
def adaptRuns (m : ModelCfg) (im : Image) (e : EstMem) (o : EstOut) : Bool :=
  decide (m.measured ≠ []) && (e.judged == 1 || e.judged == 2) && !im.sel.untrusted && !im.sel.unverified &&
    (regIn im.cfg 0x400C).testBit 7 && decide (o.disCount < bits (regIn im.cfg 0x4004) 10 0)

/-- R145: one step of recursive least squares over the features of the measured zones, in W: x and e in 1/65,536 mW, Φ, g and
their products in 2^-48. The new θ serves from the next sample on (R146). Log 13 DESIGN CHOICE. -/
def rlsStep (m : ModelCfg) (forget : Nat) (x : Tab Int) (y : Int) (fr : Nat) (e : EstMem) : EstMem × Bool × Bool :=
  let ks := (featKeys m).filter (fun f => zoneMeasured m (tget featCfg0 f m.feats).zone)
  let lam : Int := 16777216 - (min 167772 forget : Int)
  let phi := fun i j => tget (if i = j then m.delta else 0) (i * 64 + j) e.phi
  let th := fun f => tget (tget featCfg0 f m.feats).seed f e.theta
  let watt : Int := 65536000
  let err := y - sumI (ks.map (fun f => th f * tget 0 f x / 65536))
  let phx0 := fun i => sumI (ks.map (fun j => phi i j * tget 0 j x)) / watt
  let top := ks.foldl (fun t i => max t ((phx0 i).natAbs : Int)) 0
  let phx := fun i => phx0 i + bfpErr (fr + i) top
  let den := lam * 2 ^ 24 + sumI (ks.map (fun i => tget 0 i x * phx i)) / watt
  let g := fun i => if den = 0 then Config.mantissa (fr + 64 + i) else phx i * 2 ^ 48 / den
  let raw := fun f => th f + g f * err / (watt * 2 ^ 32)
  let lo := fun f => (tget featCfg0 f m.feats).lo
  let hi := fun f => (tget featCfg0 f m.feats).hi
  let theta' := ks.foldl (fun t f => tset (tget featCfg0 f m.feats).seed f (clampI (lo f) (hi f) (raw f)) t) e.theta
  let sat := ks.any (fun f => decide (raw f < lo f ∨ hi f < raw f))
  let phi1 := fun i j => if i ≤ j then phi i j - g i * phx j / 2 ^ 48 else phi j i - g j * phx i / 2 ^ 48
  let tr := sumI (ks.map (fun i => phi1 i i))
  let phi2 := fun i j => if tr * 16777216 / lam ≤ m.phiMax then phi1 i j * 16777216 / lam else phi1 i j
  let bad := ks.any (fun i => decide (phi2 i i ≤ 0))
  let pairs := ks.flatMap (fun i => ks.map (fun j => (i, j)))
  let phi' := if bad then [] else
    pairs.foldl (fun t p => tset (if p.1 = p.2 then m.delta else 0) (p.1 * 64 + p.2) (phi2 p.1 p.2) t) e.phi
  ({ e with thetaNext := some theta', phi := phi' }, sat, bad)

/-- R146: θ written in a sample is used from the next one on. -/
def thetaCommit (e : EstMem) : EstMem := { e with theta := e.thetaNext.getD e.theta, thetaNext := none }

/-- R145, R146: on-line adaptation from a complete telemetry sample: the new memory, OUT_SAT, PHI_REINIT. -/
def estAdapt (m : ModelCfg) (im : Image) (fr : Nat) (e : EstMem) (o : EstOut) : EstMem × Bool × Bool :=
  match im.tel with
  | none => (e, false, false)
  | some t =>
    if adaptRuns m im e o then
      let h := telHist im t e.hist
      let n : Int := max 1 (h.length : Int)
      let x := tbuild 0 (featKeys m) (fun f => sumI (h.map (fun r => tget 0 f r.d)) / n)
      rlsStep m (bits (regIn im.cfg 0x400C) 31 8) x (t.pMeas - sumI (h.map (fun r => r.other)) / n) fr e
    else (e, false, false)

/-- P_ctl of Table 5-4 and R149, in mW. -/
def pCtlOf (cfg : Tab Nat) (untrusted unverified : Bool) (pEst pF : Nat) : Nat :=
  let x := if untrusted && unverified then max pEst pF else if untrusted then pF else pEst
  if untrusted || unverified then min allOnes (x + estMargin cfg x) else x

/-- R11: P_ctl meets the limit of its field. -/
def pctlSat (cfg : Tab Nat) (untrusted unverified : Bool) (pEst pF : Nat) : Bool :=
  let x := if untrusted && unverified then max pEst pF else if untrusted then pF else pEst
  (untrusted || unverified) && decide (allOnes < x + estMargin cfg x)

/-- R149, R150: the power that the power loop regulates; without a measured rail adaptation is off. -/
def estPctl (m : ModelCfg) (im : Image) (o : EstOut) : EstOut :=
  { o with pCtl := pCtlOf im.cfg im.sel.untrusted im.sel.unverified o.pEst o.pF,
           frozen := m.measured == [] || im.sel.untrusted || im.sel.unverified || !(regIn im.cfg 0x400C).testBit 7 }

/-! ### The thermal model -/

/-- R153: the coolant inlet temperature of an update. -/
def coolantIn (m : ModelCfg) (im : Image) : Int :=
  match im.coolant with
  | some (v, age) => if age ≤ 1000000 && im.coolNew then v else max v m.coolant
  | none => m.coolant

/-- R153: a zone's mean power over the last 8 samples, with the bypass power charged to it (R137), scaled while the block is in
doubt. The sum is that of the measured zones. Log 52 DEDUCED. -/
def zoneIn (m : ModelCfg) (im : Image) (e : EstMem) (o : EstOut) (z : Nat) : Int :=
  let n : Int := max 1 (e.zHist.length : Int)
  let mean := sumI (e.zHist.map (tget 0 z)) / n
  let tot := sumI (((zoneKeys m).filter (zoneMeasured m)).map (fun w => sumI (e.zHist.map (tget 0 w)) / n))
  let f := ((o.pF + estMargin im.cfg o.pF : Nat) : Int) * 65536
  let a := if im.sel.untrusted && zoneMeasured m z then
    (if 0 < tot ∧ tot < f then mean * f / tot else mean) else mean
  if im.sel.unverified && zoneMeasured m z then
    a * (100 + (bits (regIn im.cfg 0x4004) 17 12 : Nat)) / 100 else a

/-- R152: the part at phase 0 latches the input set of the update; each reading is used once (R154). -/
def thmLatch (m : ModelCfg) (im : Image) (e : EstMem) (o : EstOut) : EstMem :=
  let new := im.sites.filterMap (fun s => match s.2.reading with
    | some y => if s.2.readId ≠ (tget sitePlaus0 s.1 e.plaus).used then some (s.1, (s.2.readId, y, s.2.broken)) else none
    | none => none)
  { e with zIn := tbuild 0 (zoneKeys m) (zoneIn m im e o), cool := coolantIn m im, done := [], updating := true, reads := new,
           plaus := new.foldl (fun t r => tmod sitePlaus0 r.1 (fun p => { p with used := r.2.1 }) t) e.plaus }

/-- R155: the temperature that the first update gives a tile's nodes: the hottest reading of its sites that are not broken.
Log 52 DEDUCED. -/
def tileInit (sites : Tab SiteCfg) (reads : Tab (Nat × Int × Bool)) (t : TileCfg) : Int :=
  let good := reads.filter (fun r => !r.2.2.2)
  let mine := good.filter (fun r => decide (t.base ≤ (tget siteCfg0 r.1 sites).node ∧
    (tget siteCfg0 r.1 sites).node < t.base + 64))
  let pick := fun (l : Tab (Nat × Int × Bool)) => match l.map (fun r => r.2.2.1) with
    | [] => (0 : Int)
    | y :: r => r.foldl max y
  65536 * (if mine = [] then pick good else pick mine)

/-- R151: one row of M_t × u_t, in 1/65,536 of 1/16 °C. -/
def tileRow (t : TileCfg) (e : EstMem) (r : Nat) : Int :=
  let u := fun c => if c < 64 then tget 0 (t.base + c) e.nodes
    else if c < 80 then tget 0 (t.coupling.getD (c - 64) 0) e.nodes
    else if c < 94 then
      (let p := t.power.getD (c - 80) (0, 0); tget 0 p.1 e.zIn * (p.2 : Int) / 4096)
    else if c = 94 then 65536 * e.cool else 65536
  let s := sumI ((List.range 96).map (fun c => tget 0 (r * 96 + c) t.m * u c))
  if 0 ≤ t.exp then s * ((2 ^ t.exp.toNat : Nat) : Int) / 32768 else s / ((2 ^ (-t.exp).toNat * 32768 : Nat) : Int)

/-- R152: the tiles of a part, by their places in the list. -/
def tilesOf (m : ModelCfg) (part : Nat) : List Nat := (m.tiles.zipIdx.filter (fun t => t.1.part = part)).map Prod.snd

/-- R151, R152: one tile of an update, from x(n) into x(n+1): one block of block floating point. Log 13 DESIGN CHOICE,
log 52 DEDUCED. Log 13 DESIGN CHOICE, log 52 DEDUCED. -/
def thmTile (m : ModelCfg) (sites : Tab SiteCfg) (fr tile : Nat) (e : EstMem) : EstMem :=
  match m.tiles[tile]? with
  | none => e
  | some t =>
    let top := (List.range 64).foldl (fun a r => max a ((tileRow t e r).natAbs : Int)) 0
    let x := fun r => if e.inited then tileRow t e r + bfpErr (fr + r) top else tileInit sites e.reads t
    { e with next := (List.range 64).foldl (fun y r => tset 0 (t.base + r) (x r) y) e.next, done := e.done ++ [t.base] }

/-- The residual direction of a site: 0 within the bands, 1 cold, 2 hot (R156). -/
def residualDir (cfg : Tab Nat) (r : Int) : Nat :=
  if r < -(4 * (bits (regIn cfg 0x4084) 31 24 : Nat)) then 1
  else if (4 * (bits (regIn cfg 0x4084) 23 16 : Nat) : Int) < r then 2 else 0

/-- One site's plausibility after an update that checked it (R154 to R158). Log 52 DEDUCED. -/
def plausStep (cfg : Tab Nat) (coldMaj : Bool) (y x : Int) (p : SitePlaus) : SitePlaus :=
  let r := y - x
  let dir := residualDir cfg r
  { p with residual := r, cold := if coldMaj then p.cold else if dir = 1 then min 63 (p.cold + 1) else if dir = 2 then p.cold else 0,
           hot := if dir = 2 then min 255 (p.hot + 1) else if dir = 1 then p.hot else 0 }

/-- R158: a site is suspect while either of its counts is not 0. -/
def suspect (p : SitePlaus) : Bool := decide (p.cold ≠ 0) || decide (p.hot ≠ 0)

/-- R152, R154, R155, R159: the end of an update: carry-forward of tiles that did not complete, the prediction of every site,
corrections from the uncorrected state, plausibility counts of the sites that the update checks, majority runs and publication.
Log 52 DEDUCED. -/
def thmFinish (m : ModelCfg) (sites : Tab SiteCfg) (im : Image) (e : EstMem) (o : EstOut) : EstMem × EstOut :=
  let tiles := m.tiles.filter (fun t => e.done.contains t.base)
  let inTile := fun n => tiles.any (fun t => decide (t.base ≤ n ∧ n < t.base + 64))
  let x := m.tiles.foldl (fun y t => if e.done.contains t.base then y else
    (List.range 64).foldl (fun z r => tset 0 (t.base + r) (tget 0 (t.base + r) e.nodes) z) y) e.next
  let chk := if !e.inited then [] else e.reads.filter (fun r => inTile (tget siteCfg0 r.1 sites).node && !r.2.2.2)
  let pred := fun s => roundEven (tget 0 (tget siteCfg0 s sites).node x) 65536
  let pl := chk.foldl (fun t r => tmod sitePlaus0 r.1 (plausStep im.cfg o.coldMaj r.2.2.1 (pred r.1)) t)
    (sites.foldl (fun t q => tmod sitePlaus0 q.1 (fun p => { p with pred := some (pred q.1) }) t) e.plaus)
  let x' := chk.foldl (fun y r =>
      let n := (tget siteCfg0 r.1 sites).node
      let d := 65536 * r.2.2.1 - tget 0 n x
      if suspect (tget sitePlaus0 r.1 pl) || (tget sitePlaus0 r.1 pl).broken || (o.coldMaj && decide (d ≤ 0)) then y
      else tset 0 n (tget 0 n y + m.gain * d / 65536) y) x
  let dir := fun (r : Nat × Nat × Int × Bool) => residualDir im.cfg (r.2.2.1 - pred r.1)
  let cold := (chk.filter (fun r => dir r = 1)).length
  let hots := chk.filter (fun r => dir r = 2)
  let big := decide (8 ≤ chk.length)
  let coldM := big && decide (chk.length < 2 * cold)
  let hotM := big && decide (chk.length < 2 * hots.length)
  let n' := min 65535 (o.updates + 1)
  ({ e with nodes := x', inited := true, plaus := pl, done := [], updating := false,
            coldRun := if coldM then e.coldRun + 1 else 0,
            noColdRun := if coldM then 0 else e.noColdRun + 1,
            hotRun := if hotM then e.hotRun + 1 else 0,
            hotMean := if hotM then roundEven (sumI (hots.map (fun r => r.2.2.1 - pred r.1))) hots.length else e.hotMean },
   { o with updates := n', warmup := decide (n' < m.warmup), sites := pl,
            tModMax := (match x'.map (fun p => p.2) with
              | [] => o.tModMax
              | y :: r => roundEven (r.foldl max y) 65536) })

/-- R152: the part at phase 0 begins an update. One that has not ended, because its last part overran, ends first.
Log 52 DEDUCED. -/
def thmOpen (m : ModelCfg) (sites : Tab SiteCfg) (im : Image) (e : EstMem) (o : EstOut) : EstMem × EstOut :=
  let x := if e.updating then thmFinish m sites im e o else (e, o)
  (thmLatch m im x.1 x.2, x.2)

/-! ### Attribution -/

/-- R162: the activity energy of one record in one zone, in 1/65,536 of 2^0 fJ. -/
def recEnergy (m : ModelCfg) (e : EstMem) (z : Nat) (r : ActRec) : Int :=
  sumI ((m.taps.filter (fun t => t.2.booth = r.booth && (tget featCfg0 t.2.feature m.feats).zone = z)).map (fun t =>
    let f := tget featCfg0 t.2.feature m.feats
    tget f.seed t.2.feature e.theta * ((t.2.weight * 2 ^ f.shift * tget 0 t.2.loc r.taps : Nat) : Int)))

/-- The distinct contexts of a sample's records. -/
def recCtxs (rs : List ActRec) : List Nat := (rs.map (fun r => r.ctx)).eraseDups

/-- R163: a record has activity in a zone. -/
def recActive (m : ModelCfg) (z : Nat) (r : ActRec) : Bool :=
  m.taps.any (fun t => t.2.booth == r.booth && (tget featCfg0 t.2.feature m.feats).zone == z && tget 0 t.2.loc r.taps != 0)

/-- An energy among contexts by weight; what the division leaves goes to context 4,095, and all of it where nothing has weight.
Log 49 DEDUCED. -/
def shareOut (x : Int) (ws : List (Nat × Int)) : List (Nat × Int) :=
  let tot := sumI (ws.map Prod.snd)
  if tot ≤ 0 then [(4095, x)]
  else
    let parts := ws.map (fun w => (w.1, x * w.2 / tot))
    parts ++ [(4095, x - sumI (parts.map Prod.snd))]

/-- R162, R163, R165: what one zone's energy gives each context in one sample, 1/65,536 µJ. After a freeze the leakage and the
correction are those of all its samples. Log 49 DEDUCED. -/
def zoneStage (m : ModelCfg) (im : Image) (policy owner : Nat) (e : EstMem) (z : Nat) : List (Nat × Int) :=
  let cs := recCtxs im.recs
  let en := cs.map (fun c => (c, sumI ((im.recs.filter (fun r => r.ctx = c)).map (recEnergy m e z))))
  let n : Int := (im.froze + 1 : Nat)
  let dyn := max 0 (zoneDyn m e z + n * tget 0 z e.corr) * (im.pNs : Int) / 1000000
  let leak := n * tget 0 z e.leakX * (im.pNs : Int) / 1000000
  let act := cs.filter (fun c => im.recs.any (fun r => r.ctx == c && recActive m z r))
  shareOut dyn en ++
    (if policy = 2 then [(4095, leak)] else if policy = 3 then [(owner, leak)]
     else shareOut leak (if policy = 1 then act.map (fun c => (c, 1)) else en))

/-- Adding a list of energies to a table by context. -/
def addEnergy (l : List (Nat × Int)) (t : Tab Int) : Tab Int :=
  l.foldl (fun u p => tset 0 p.1 (tget 0 p.1 u + p.2) u) t

/-- R162: staging one sample. Energy of P_byp goes to context 4,095; it counts with the zones that it is charged to (R137). -/
def estStage (m : ModelCfg) (im : Image) (agents : Tab AgentCfg) (e : EstMem) : EstMem :=
  let pol := bits (regIn im.cfg 0x4010) 13 12
  let own := bits (regIn im.cfg 0x4010) 11 0
  let zs := zoneKeys m
  let byp := fun (b : Bool) => ((im.froze + 1 : Nat) : Int) *
    bypOf agents im ((List.range 4).filter (fun d => bypMeasured m d == b)) * (im.pNs : Int) / 1000000
  let of := fun (b : Bool) => (zs.filter (fun z => zoneMeasured m z == b)).foldl
    (fun t z => addEnergy (zoneStage m im pol own e z) t) (addEnergy [(4095, byp b)] [])
  { e with staged := ({ q := im.q, m := of true, u := of false } : StageRec) :: e.staged }

/-- R164: ρ as a fraction, clamped to 0.5 to 2, and whether it was clamped. Log 48 DEDUCED, log 49 DEDUCED. -/
def rho (eMeas eEst : Int) : Int × Int × Bool :=
  if 2 * eMeas < eEst then (1, 2, true) else if 2 * eEst < eMeas then (2, 1, true) else (eMeas, eEst, false)

/-- R164: what one commit adds to each context, and whether ρ was clamped. The truncation remainder goes to 4,095.
Log 49 DEDUCED. -/
def commitAmounts (eMeas : Int) (useRho : Bool) (l : List StageRec) : Tab Int × Bool :=
  let mm := l.foldl (fun t r => addEnergy r.m t) []
  let uu := l.foldl (fun t r => addEnergy r.u t) []
  let est := sumI (mm.map (fun p => p.2))
  if useRho && decide (est ≤ 0) then (addEnergy [(4095, eMeas)] uu, false)
  else
    let r := if useRho then rho eMeas est else (1, 1, false)
    let scaled := mm.map (fun p => (p.1, p.2 * r.1 / r.2.1))
    let rest := est * r.1 / r.2.1 - sumI (scaled.map (fun p => p.2))
    (addEnergy [(4095, rest)] (addEnergy scaled uu), r.2.2)

/-- R164: committing the staged energy of the interval of a telemetry sample. Log 48 DEDUCED. -/
def estCommit (m : ModelCfg) (im : Image) (e : EstMem) (o : EstOut) : EstMem × EstOut × Bool :=
  let due : Option (Int × Bool × (StageRec → Bool)) :=
    if m.measured = [] then some (0, false, fun _ => true)
    else match im.tel with
      | none => none
      | some t => some (t.eMeas, t.complete && !telPartial im t, fun r => decide (r.q ≤ 4 * t.up))
  match due with
  | none => (e, o, false)
  | some (em, ur, sel) =>
    let a := commitAmounts em ur (e.staged.filter sel)
    let tot := sumI (a.1.map (fun p => p.2))
    ({ e with staged := e.staged.filter (fun r => !sel r) },
     { o with ctxE := a.1.foldl (fun t p => tset 0 p.1 ((tget 0 p.1 t + p.2.toNat) % 2 ^ 80) t) o.ctxE,
              eAttr := (o.eAttr + tot.toNat) % 2 ^ 80,
              attrClamp := wrapInc 8 a.2 o.attrClamp }, a.2)

end Sys2Proof.Machine
end

