-- ==== Sys2Proof/Machine/Feed.lean ====
section
/-! DEFINITION. Step feed-forward and Cues (R36, R37, R186 to R197). -/

namespace Sys2Proof.Machine

/-- φ of R36: the position of an ordinal in the locked step. -/
def stepPos (ord start len : Nat) : Nat := ((ord + 2 ^ 48 - start) % 2 ^ 48) % len

/-- idx(φ) of R186. -/
def sptIdx (len pos : Nat) : Nat := if len ≤ 65536 then pos else pos * 65536 / len

/-- The entries in use for a step length (R186). -/
def sptSize (len : Nat) : Nat := min 65536 len

/-- Δo of R190 from the ordinals advanced over the last 16 samples (R37). -/
def lookAhead (adv16 pNs laNs : Nat) : Nat := adv16 * laNs / (16 * pNs)

/-- A cyclic run of table indices: from the first, so many of them, none beyond a whole round. -/
structure IdxRun where
  first : Nat
  len : Nat
  deriving DecidableEq, Repr

/-- The indices of a run in a table of `n` entries. -/
def runIdxs (n : Nat) (r : IdxRun) : List Nat := (List.range r.len).map (fun j => (r.first + j) % n)

/-- The entries from idx `a` through idx `b`; `wrap` says that the positions pass the end of the step (R190). -/
def idxRun (n a b : Nat) (wrap : Bool) : IdxRun := ⟨a, min n (if wrap then n - a + b + 1 else b + 1 - a)⟩

/-- Whether a cyclic span of `span` indices from `start` meets a run. -/
def spanMeets (n start span : Nat) (r : IdxRun) : Bool :=
  decide (0 < span) && decide (0 < n) && decide (0 < r.len) &&
    (decide ((start + n - r.first % n) % n < r.len) || decide ((r.first + n - start % n) % n < span))

/-- A power in mW as an entry of the Step Profile Table, in 32 mW (R11, R186). -/
def sptUnit (mW : Nat) : Nat := toUnsigned 16 (roundEven mW 32)

/-- R187: the table as the step locks at length `len`, with `pEst` the estimate of the locking sample. Log 54 DEDUCED. -/
def sptPrepare (c : LawCfg) (minSteps len pEst : Nat) (m : LawMem) : LawMem :=
  if m.sptL = some len then m
  else if len = c.seedL then { m with spt := c.seed, fill := 0, steps := minSteps, sptL := some len }
  else { m with spt := [], fill := sptUnit pEst, steps := 0, sptL := some len }

/-- One word of the Transition Table, with the adapted DV in place of its seed (R189). -/
def ttWord (c : LawCfg) (m : LawMem) (i w : Nat) : Nat :=
  let x := tget 0 (i * 2 + w) c.tt
  if w = 1 then numOf [(31, 24, tget (bits x 31 24) i m.dv), (23, 0, x)] else x

/-- R189: DV of one entry after a step. -/
def ttAdapt1 (c : LawCfg) (decay i : Nat) (m : LawMem) : LawMem :=
  let w1 := tget 0 (i * 2 + 1) c.tt
  let dv := tget (bits w1 31 24) i m.dv
  let cl := tget 0 i m.clean
  if m.tripped.contains i then
    { m with dv := tins i (max dv (min (bits w1 23 16) (dv + 5))) m.dv, clean := tset 0 i 0 m.clean }
  else if decay ≤ cl + 1 then
    { m with dv := tins i (min dv (max (bits w1 15 8) (dv - 5))) m.dv, clean := tset 0 i 0 m.clean }
  else { m with clean := tset 0 i (cl + 1) m.clean }

/-- R189: the adaptation of every used entry at a step start. Log 54 DEDUCED. -/
def ttAdapt (c : LawCfg) (decay : Nat) (m : LawMem) : LawMem :=
  let used := (List.range 256).filter (fun i => decide (0 < bits (tget 0 (i * 2) c.tt) 11 0))
  { used.foldl (fun x i => ttAdapt1 c decay i x) m with tripped := [] }

/-- R187: the table is ready. -/
def sptReady (cfg : Tab Nat) (m : LawMem) : Bool := decide (bits (regIn cfg 0x5040) 26 23 ≤ m.steps)

/-- The locked length, the position and its index in the sample's image. -/
def imgPos (im : Image) : Option (Nat × Nat) :=
  match im.ord.lockLen, im.ord.start with
  | some l, some st => if l = 0 then none else some (l, stepPos im.ord.last st l)
  | _, _ => none

/-- The table learns while the step is locked, the estimator is trusted and not unverified, and FF_EN is 1 (R187, R188). -/
def sptLearns (im : Image) : Bool := !im.sel.untrusted && !im.sel.unverified && (regIn im.cfg 0x5040).testBit 31

/-- What a sample's ordinals crossed since the edge before, while the step was locked at one length at both edges: the length, the
index at the edge before, the index now, and whether the end of the step was passed; the ordinals (R188, R189). -/
structure Crossed where
  len : Nat
  was : Nat
  pos : Nat
  wrap : Bool
  adv : Nat
  deriving DecidableEq, Repr

def crossed (im : Image) : Option Crossed :=
  match imgPos im, im.prevPos with
  | some (len, pos), some (l0, p0) =>
    if l0 = len then some ⟨len, p0, pos, decide (len ≤ p0 + im.ord.adv), im.ord.adv⟩ else none
  | _, _ => none

/-- R188: the entries crossed: after the index of the edge before, through the index now. Log 54 DEDUCED. -/
def crossedIdxs (x : Crossed) : IdxRun :=
  let n := sptSize x.len
  let a := sptIdx x.len x.was
  let b := sptIdx x.len x.pos
  ⟨(a + 1) % n, if x.len ≤ x.adv then n else if x.wrap then min n (n - a + b) else b - a⟩

/-- R189: the entries at whose positions a trip of the sample is placed: those of the step that ended within the sample, where one
did, and those of the step in progress. -/
def tripRuns (x : Crossed) : IdxRun × IdxRun :=
  let n := sptSize x.len
  let a := sptIdx x.len (x.was + 1)
  let b := sptIdx x.len x.pos
  if x.adv = 0 then (⟨0, 0⟩, ⟨0, 0⟩)
  else if x.len ≤ x.adv then (⟨0, n⟩, ⟨0, n⟩)
  else if x.wrap then (if x.was + 1 = x.len then ⟨0, 0⟩ else ⟨a, n - a⟩, ⟨0, b + 1⟩)
  else (⟨0, 0⟩, ⟨a, b + 1 - a⟩)

/-- R189: the Transition entries whose span holds a trip. -/
def tripMark (c : LawCfg) (n : Nat) (r : IdxRun) (m : LawMem) : LawMem :=
  { m with tripped := (m.tripped ++ (List.range 256).filter (fun e =>
      spanMeets n (bits (tget 0 (e * 2) c.tt) 31 16) (bits (tget 0 (e * 2) c.tt) 11 0) r)).eraseDups }

/-- A trip of the sample marked in one of the two runs, while L equals SEED_L. -/
def tripPart (c : LawCfg) (im : Image) (part : IdxRun × IdxRun → IdxRun) (m : LawMem) : LawMem :=
  match crossed im with
  | some x => if im.trip && x.len == c.seedL then tripMark c (sptSize x.len) (part (tripRuns x)) m else m
  | none => m

/-- R187, R189: one step start of the sample: DV adapts by the trips of the step that ended, a new lock prepares the table, and
SPT_STEPS advances where the table learns on. -/
def stepMark (c : LawCfg) (im : Image) (pEst : Nat) (m : LawMem) (k : StepMark) : LawMem :=
  let m1 := if k.was = some c.seedL then ttAdapt c (bits (regIn im.cfg 0x5044) 15 8) m else m
  let m2 := match k.new, k.lock with
    | true, some l => sptPrepare c (bits (regIn im.cfg 0x5040) 26 23) l pEst m1
    | _, _ => m1
  if k.was.isSome && k.was == k.lock && sptLearns im then { m2 with steps := min 65535 (m2.steps + 1) } else m2

/-- R188: one entry after learning: entry + (P_est − entry) × 2^−SPT_SHIFT, rounded once; `p` in mW. -/
def sptEntry (sh p x : Nat) : Nat :=
  let e : Int := (32 * x : Nat)
  toUnsigned 16 (roundEven (e * (2 ^ sh : Nat) + ((p : Int) - e)) (32 * 2 ^ sh))

/-- R188: learning the entries crossed since the previous edge. Log 54 DEDUCED. -/
def sptLearn (im : Image) (pEst : Nat) (m : LawMem) (o : LawOut) : LawMem × LawOut :=
  match crossed im with
  | none => (m, o)
  | some x =>
    let r := crossedIdxs x
    if !sptLearns im || r.len == 0 then (m, o)
    else if 1024 < r.len then (m, { o with sptSkip := (o.sptSkip + 1) % 2 ^ 32 })
    else
      let sh := bits (regIn im.cfg 0x5040) 30 27
      ({ m with spt := (runIdxs (sptSize x.len) r).foldl (fun t j => tset m.fill j (sptEntry sh pEst (tget m.fill j t)) t) m.spt }, o)

/-- R187 to R189: what the routine makes of the sample's steps, trips and positions. -/
def learnRun (c : LawCfg) (im : Image) (pEst : Nat) (m : LawMem) (o : LawOut) : LawMem × LawOut :=
  let m1 := im.ord.marks.foldl (stepMark c im pEst) (tripPart c im Prod.fst m)
  let x := sptLearn im pEst (tripPart c im Prod.snd m1) o
  (x.1, { x.2 with sptSteps := x.1.steps })

/-- R190: the look-ahead window. -/
def lookRun (len pos dO : Nat) : IdxRun :=
  let n := sptSize len
  if len ≤ dO then ⟨sptIdx len pos, n⟩
  else idxRun n (sptIdx len pos) (sptIdx len ((pos + dO) % len)) (decide (len ≤ pos + dO))

/-- The Transition entries whose span meets the look-ahead window, only while L equals SEED_L (R189, R190). -/
def ttInView (c : LawCfg) (im : Image) (dO : Nat) : List Nat :=
  match imgPos im with
  | none => []
  | some (len, pos) =>
    if len ≠ c.seedL then [] else
      (List.range 256).filter (fun e => spanMeets (sptSize len) (bits (tget 0 (e * 2) c.tt) 31 16)
        (bits (tget 0 (e * 2) c.tt) 11 0) (lookRun len pos dO))

/-- R190: the largest Step Profile entry in the look-ahead window, in mW. -/
def sptPeak (im : Image) (dO : Nat) (m : LawMem) : Nat :=
  match imgPos im with
  | none => 0
  | some (len, pos) =>
    32 * (runIdxs (sptSize len) (lookRun len pos dO)).foldl (fun x i => max x (tget m.fill i m.spt)) 0

/-- R197: a stored Cue is in view while its window meets o_L to o_L + Δo. -/
def cueInView (oL dO : Nat) (q : CueEntry) : Bool :=
  q.unknown || decide ((q.anchor + 2 ^ 48 - oL) % 2 ^ 48 ≤ dO) ||
    decide ((oL + 2 ^ 48 - q.anchor) % 2 ^ 48 < q.dur)

/-- How far an anchor lies ahead of o_L under the half-range rule of R33: 0 when it is behind. -/
def aheadBy (oL a : Nat) : Nat :=
  let d := (a + 2 ^ 48 - oL) % 2 ^ 48
  if d < 2 ^ 47 then d else 0

/-- R196: a stored Cue whose window end lies behind o_L. Log 55 DEDUCED. -/
def cueGone (oL : Nat) (q : CueEntry) : Bool :=
  let d := (q.anchor + q.dur - 1 + 2 ^ 48 - oL) % 2 ^ 48
  decide (2 ^ 47 ≤ d)

/-- R196: placing a HEAVY Cue. -/
def cuePlace (oL : Nat) (q : CueEntry) (m : LawMem) (o : LawOut) : LawMem × LawOut :=
  if m.cues.any (fun x => x.anchor = q.anchor) then
    ({ m with cues := m.cues.map (fun x => if x.anchor = q.anchor then q else x) },
     { o with cueReplace := wrapAdd 8 o.cueReplace 1 })
  else if 8 ≤ (m.cues.filter (fun x => x.ctx = q.ctx)).length then
    (m, { o with cueCtxLimit := wrapAdd 8 o.cueCtxLimit 1 })
  else if 64 ≤ m.cues.length then
    let far := m.cues.foldl (fun x y => max x (aheadBy oL y.anchor)) 0
    if far ≤ aheadBy oL q.anchor then (m, { o with cueDrop := wrapAdd 8 o.cueDrop 1 })
    else ({ m with cues := m.cues.eraseP (fun x => aheadBy oL x.anchor = far) ++ [q] },
          { o with cueDrop := wrapAdd 8 o.cueDrop 1 })
  else ({ m with cues := m.cues ++ [q] }, o)

/-- R194 to R196: processing one Cue of the image. -/
def cueOne (im : Image) (c : Nat × Nat) (m : LawMem) (o : LawOut) : LawMem × LawOut :=
  let ty := bits c.2 63 56
  let cfg := regIn im.cfg 0x5100
  if (ty ≠ 1 && ty ≠ 2) || c.1 = 0xFFF || !cfg.testBit 15 then (m, { o with cueBad := wrapAdd 8 o.cueBad 1 })
  else if ty = 2 then
    ({ m with cues := m.cues.filter (fun x => !(x.ctx = c.1 && x.tag = bits c.2 7 0)) }, o)
  else
    let lead := bits c.2 55 40
    let hor := bits cfg 31 16
    let unk := decide (lead = 0xFFFF)
    let clamp := !unk && decide (hor < lead)
    let l := if unk then 0 else min hor lead
    cuePlace im.ord.last
      { ctx := c.1, tag := bits c.2 7 0, anchor := (im.ord.last + l) % 2 ^ 48, dur := max 1 (bits c.2 39 24),
        intensity := bits c.2 23 16, hint := bits c.2 15 8, unknown := unk, since := im.up,
        view := if unk then some im.k else none }
      m { o with cueClamp := wrapInc 8 clamp o.cueClamp }

/-- Whether a Scene hint may be followed (R197). -/
def hintOk (scene : Tab Nat) (h : Nat) : Bool :=
  (tget 0 (2 * h) scene).testBit 31 && (tget 0 (2 * h) scene).testBit 30 && decide (bits (tget 0 (2 * h) scene) 29 28 ≠ 3)

/-- R196: CUE_CFG.MAX_US has passed since the Cue was accepted. -/
def cueTimedOut (im : Image) (q : CueEntry) : Bool := decide (q.since + bits (regIn im.cfg 0x5100) 9 0 ≤ im.up)

/-- R196, R197: the Cues of the sample: those whose time has passed removed, unless they come into view in it, arrivals placed, those behind removed, those that come into view marked. A hint
that is ignored is counted once, when its Cue comes into view. Log 55 DEDUCED. -/
def cueProcess (im : Image) (m : LawMem) (o : LawOut) : LawMem × LawOut :=
  let dO := lookAhead (sumN im.adv) im.pNs (bits (regIn im.cfg 0x5040) 13 0)
  let fresh := fun (q : CueEntry) => cueInView im.ord.last dO q && (q.view == none || q.view == some im.k)
  let old := fun (q : CueEntry) => im.cueOld.contains q.anchor && cueTimedOut im q && !fresh q
  let a := im.cues.foldl (fun x c => cueOne im c x.1 x.2)
    ({ m with cues := m.cues.filter (fun q => !old q) },
     { o with cueExpire := wrapAdd 8 o.cueExpire (m.cues.filter old).length })
  let live := a.1.cues.filter (fun q => !cueGone im.ord.last q)
  let ign := (live.filter (fun q => fresh q && !hintOk im.scene q.hint)).length
  ({ a.1 with cues := live.map (fun q => if fresh q then { q with view := some im.k } else q) },
   { a.2 with hintIgnored := wrapAdd 8 a.2.hintIgnored ign, cueActive := live.any (cueInView im.ord.last dO) })

/-- R197: the Cue power in mW (R11). -/
def cuePower (dieCeil i : Nat) : Nat := (roundEven (i * dieCeil : Nat) 256).toNat

/-- R190, R197: the predicted peak in mW. -/
def predictedPeak (im : Image) (dieCeil dO : Nat) (m : LawMem) : Nat :=
  let act := im.ord.lockLen ≠ none && sptReady im.cfg m && (regIn im.cfg 0x5040).testBit 31 && !im.ord.ffOff
  max (if act then sptPeak im dO m else 0)
    ((m.cues.filter (cueInView im.ord.last dO)).foldl (fun x q => max x (cuePower dieCeil q.intensity)) 0)

/-- R191: V_pp of one core rail, in 1/65,536 of 0.25 mV. `hint` is the least offset that Scene hints ask for. -/
def vppStep (cfg : Tab Nat) (c : RailCfg) (pNs : Nat) (dPmW : Int) (v : Nat) (hint old : Int) : Int :=
  let w2 := regIn cfg 0x5044
  let ppMax : Int := 65536 * 4 * (bits (regIn cfg 0x5040) 22 16 : Nat)
  let dp := dPmW * (c.share : Int) / 65536
  -- mW / (0.25 mV × 0.25) = 4 A per unit of mW over 0.25 mV; A × µΩ = µV = 1/250 of 0.25 mV
  let base := if ((4000 * bits w2 31 24 : Nat) : Int) < dp ∧ 0 < v then
    (bits w2 7 0 : Int) * dp * 4 * (c.rll : Int) * 65536 / (64 * (v : Int) * 250) else 0
  let want := min ppMax (max base hint)
  if old ≤ want then want
  else max want (old - 65536 * (bits w2 23 16 : Nat) * (pNs : Int) / 1000)

/-- R190 to R192, R197: the look-ahead window, V_pp and V_tt of every core rail, and the slew in view. `guard` is V_guard
in 0.25 mV, `vOp` the applied operating point voltage; V_guard joins the target as the target is applied. -/
def prePosition (c : LawCfg) (im : Image) (dieCeil pEst vOp : Nat) (guard : Int) (fr : Nat) (m : LawMem) (o : LawOut) :
    LawMem × LawOut × Bool :=
  let dO := lookAhead (sumN im.adv) im.pNs (bits (regIn im.cfg 0x5040) 13 0)
  let peak := predictedPeak im dieCeil dO m
  let view := ttInView c im dO
  let vtt := view.foldl (fun x e => max x (bits (ttWord c m e 1) 31 24)) 0
  let core := c.rails.filter (fun r => r.2.core)
  let hint : Int := (m.cues.filter (fun q => cueInView im.ord.last dO q && hintOk im.scene q.hint)).foldl
    (fun x q => max x (65536 * (((c.ops.getD (bits (tget 0 (2 * q.hint) im.scene) 27 22) (0, 0)).2 : Int) - (vOp : Int)))) 0
  let vpp := fun (r : Nat × RailCfg) =>
    let v := vppStep im.cfg r.2 im.pNs ((peak : Int) - (pEst : Int)) (tget 0 r.1 im.railNow) hint (tget 0 r.1 m.vpp)
    max 0 (v + bfpErr (fr + r.1) v)
  let ppMax := 4 * bits (regIn im.cfg 0x5040) 22 16
  let ex := fun r => min ppMax (toUnsigned 16 (roundEven (vpp r) 65536) + vtt)
  ({ m with vpp := tbuild 0 (core.map Prod.fst) (fun k => vpp (k, tget railCfg0 k c.rails)) },
   { o with
      extra := tbuild 0 (core.map Prod.fst) (fun k => ex (k, tget railCfg0 k c.rails)),
      vppMax := core.foldl (fun x r => max x (toUnsigned 16 (roundEven (vpp r) 65536))) 0,
      peak := peak, pos := (imgPos im).map Prod.snd,
      slewPct := if view = [] then none else
        some (clampN 25 100 (minN 100 (view.map (fun e => clampN 25 100 (bits (tget 0 (e * 2 + 1) c.tt) 6 0))))),
      ttActive := decide (view ≠ []), sptReady := sptReady im.cfg m,
      ffActive := im.ord.lockLen ≠ none && sptReady im.cfg m && (regIn im.cfg 0x5040).testBit 31 && !im.ord.ffOff },
   core.any (fun r => decide ((r.2.maxV : Int) < (vOp : Int) + guard + (ex r : Nat))))

end Sys2Proof.Machine
end

