-- ==== Sys2Proof/Machine/Loops.lean ====
section
/-! DEFINITION. The control law and its set-point (R170, R171, R178) and the choice of operating region (R175). Loop units
and powers are held in Q16. -/

namespace Sys2Proof.Machine

/-- A gain of a table at the interpolation point `i` with fraction `f` in Q16, in Q16 mW per loop-unit LSB (R169, R170).
A mantissa m with exponent E has the value m × 2^(E − 15), as R121 gives it. Log 43 PRESUMED. -/
def gainAt (l : List Nat) (exp : Int) (i : Nat) (f : Int) : Int :=
  let a : Int := (l.getD i 0 : Nat)
  let b : Int := (l.getD (i + 1) 0 : Nat)
  let v := 65536 * a + f * (b - a)
  if 15 ≤ exp then v * ((2 ^ (exp - 15).toNat : Nat) : Int) else v / ((2 ^ (15 - exp).toNat : Nat) : Int)

/-- The point of the gain table that an error meets: index 0 to 31 and fraction in Q16 (R170). -/
def gainPoint (c : LoopCfg) (e : Int) : Nat × Int :=
  let scale : Int := (max 1 (c.eScale * 2 ^ c.esShift) : Nat)
  let en := clampI (-65536) 65536 (e / scale)
  let x := (en + 65536) * 16
  let i := min 31 (x / 65536).toNat
  (i, x - 65536 * (i : Int))

/-- R178: the set-point moves towards the target by its slope, exactly to the target at the end. `soft` is in progress. -/
def softMove (c : LoopCfg) (pNs : Nat) (r target : Int) : Int :=
  let up : Int := (65536 * c.ssUp * pNs / 1000 : Nat)
  let dn : Int := (65536 * c.ssDown * pNs / 1000 : Nat)
  if r < target then (if c.ssUp = 0 then target else min target (r + up))
  else (if c.ssDown = 0 then target else max target (r - dn))

/-- R178: the set-point of one run: a trigger restarts it from y; otherwise it moves. A slope of 0 reaches the target at
once, in the run of the trigger too. -/
def softStart (c : LoopCfg) (pNs : Nat) (trigger : Bool) (r target y : Int) : Int :=
  if trigger then
    (if (if y < target then c.ssUp else c.ssDown) = 0 then target else y)
  else softMove c pNs r target

/-- One run of the law (R170), from y and the target in Q16 loop units. `fresh` marks the first run of an engagement, which
carries no proportional kick (R171); `fr` is the free value of block floating point. Log 13 DESIGN CHOICE. -/
def lawStep (c : LoopCfg) (g : GainTab) (pNs : Nat) (trigger fresh : Bool) (y target : Int) (fr : Nat) (s : LoopSt) : LoopSt :=
  let r := softStart c pNs trigger s.r target y
  let e := r - y
  let p := gainPoint c e
  let kp := gainAt g.kp g.kpExp p.1 p.2
  let ki := gainAt g.ki g.kiExp p.1 p.2
  let prev := if fresh then e else s.ePrev
  let a := kp * (e - prev) / 65536
  let b := ki * e / 65536
  let raw := a + b + bfpErr fr (max a.natAbs b.natAbs)
  let lim : Int := (65536 * 64 * c.duMax : Nat)
  let du := clampI (-lim) lim raw
  let u0 : Int := if s.used then s.u else (65536 * 1000 * c.uMax : Nat)
  let hi : Int := (65536 * 1000 * c.uMax : Nat)
  let lo : Int := (65536 * 1000 * c.uMin : Nat)
  let u := u0 + du
  { s with u := clampI lo hi u, r := r, ePrev := e, y := y, target := target, engaged := true, ran := true,
           used := true, soft := decide (r ≠ target), uSat := s.uSat || decide (u < lo ∨ hi < u),
           duClip := s.duClip || decide (du ≠ raw) }

/-- The allowance of an instance in mW (R173), U_MAX while it has not run (R170). -/
def loopU (c : LoopCfg) (s : LoopSt) : Nat :=
  if s.used then toUnsigned 32 (roundEven s.u 65536) else 1000 * c.uMax

/-- Whether a region entry covers a mode and an operating point (R175). -/
def regionCovers (e : RegionCfg) (mode op : Nat) : Bool :=
  e.modes.testBit mode && decide (e.opLo ≤ op) && decide (op ≤ e.opHi)

/-- R175: the region that the block selects; none where no entry matches. -/
def regionSelect (rs : Tab RegionCfg) (cur : Option Nat) (mode op : Nat) (td hyst : Int) : Option Nat :=
  let held := match cur with
    | none => false
    | some i => match tlook i rs with
      | none => false
      | some p => regionCovers p mode op && decide (p.tLo - hyst ≤ td) && decide (td < p.tHi + hyst)
  if held then cur
  else (rs.find? (fun (p : Nat × RegionCfg) =>
    regionCovers p.2 mode op && decide (p.2.tLo ≤ td) && decide (td < p.2.tHi))).map Prod.fst

/-- The table set that a run uses: the selected region's, or 0 (R175). -/
def tableSet (rs : Tab RegionCfg) (sel : Option Nat) : Nat :=
  match sel with
  | none => 0
  | some i => match tlook i rs with
    | none => 0
    | some p => p.tset

end Sys2Proof.Machine
end

