-- ==== Sys2Proof/Machine/Caps.lean ====
section
/-! DEFINITION. Limits, windows, the die allowance, its division, operating points and performance modes (R199 to R223). -/

namespace Sys2Proof.Machine

/-! ### Windows (R201 to R203) -/

/-- Length of window Wn in ns (Table 7-1). -/
def winNs (n : Nat) : Nat := if n = 1 then 1000 else 10 ^ (n + 4)

/-- b_n and B_n of R201. -/
def binLen (n pNs : Nat) : Nat := ceilDiv (winNs n) (100 * pNs)
def binCount (n pNs : Nat) : Nat := winNs n / (binLen n pNs * pNs)

/-- R201, R202: one sample's energy into a window; at start every bin is filled at the first sample's energy. -/
def winAdd (n pNs e : Nat) (w : Option Win) : Win :=
  match w with
  | none => { cur := e, s := 1, closed := List.replicate (binCount n pNs) (binLen n pNs * e) }
  | some w => if binLen n pNs ≤ w.s then { cur := e, s := 1, closed := (w.cur :: w.closed).take (binCount n pNs) }
    else { w with cur := w.cur + e, s := w.s + 1 }

/-- y_n(k) of R201 in mW, and in its field. -/
def winRaw (n pNs : Nat) (w : Win) : Int :=
  let b := binLen n pNs
  let c := binCount n pNs
  let sum := b * (w.cur + sumN (w.closed.take (c - 1))) + (b - w.s) * w.closed.getD (c - 1) 0
  roundEven ((1000000 * sum : Nat) : Int) (c * b * b * pNs)
def winMean (n pNs : Nat) (w : Win) : Nat := toUnsigned 32 (winRaw n pNs w)

/-- The energy of one sample at a power in mW, in µJ (R11, R202). -/
def sampleUJ (pNs p : Nat) : Nat := (roundEven ((p * pNs : Nat) : Int) 1000000).toNat

/-- A sample's energy into all windows W2 to W6. -/
def winsAdd (pNs e : Nat) (t : Tab Win) : Tab Win :=
  [2, 3, 4, 5, 6].foldl (fun u n => tins n (winAdd n pNs e (tlook n t)) u) t

/-- The means of all windows that exist. -/
def winsMean (pNs : Nat) (t : Tab Win) : Tab Nat := t.map (fun p => (p.1, winMean p.1 pNs p.2))

/-- R203: the current of a core rail in 1/4,096 A, from P_ctl in mW and the applied target in 0.25 mV. -/
def railCur (c : RailCfg) (pCtl v : Nat) : Nat := if v = 0 then 0 else 4096 * 4 * pCtl * c.share / (65536 * v)

/-- R203: I_r over W1 in 1/16 A: the mean over the samples of the last tick interval. -/
def railW1Raw (cur : List (Tab Nat)) (r : Nat) : Int :=
  if cur = [] then 0 else roundEven ((sumN (cur.map (tget 0 r)) : Nat) : Int) (256 * cur.length)
def railW1 (cur : List (Tab Nat)) (r : Nat) : Nat := toUnsigned 16 (railW1Raw cur r)

/-- R11: a mean or a current meets the limit of its field. -/
def capSat (c : LawCfg) (im : Image) (m : CapMem) : Bool :=
  let high := fun (t : Tab Win) => t.any (fun p => decide ((allOnes : Int) < winRaw p.1 im.pNs p.2))
  high m.die || high m.pkg || c.rails.any (fun r => r.2.core && decide ((65535 : Int) < railW1Raw m.cur r.1))

/-- R202, R203: the windows and currents of one sample. `pkgE` is the package energy that R281 adds at the Stage Manager. -/
def capWindows (c : LawCfg) (im : Image) (pCtl : Nat) (pkgP : Option Nat) (m : CapMem) (o : CapOut) : CapMem × CapOut :=
  let e := sampleUJ im.pNs pCtl
  let die := winsAdd im.pNs e m.die
  let pkg := match pkgP with
    | some p => winsAdd im.pNs (sampleUJ im.pNs p) m.pkg
    | none => m.pkg
  let core := c.rails.filter (fun r => r.2.core)
  let cur := (tbuild 0 (core.map Prod.fst) (fun k => railCur (tget railCfg0 k c.rails) pCtl (tget 0 k im.railNow)) ::
    m.cur).take (if im.pNs ≤ 1000 then 1000 / im.pNs else 1)
  ({ m with die := die, pkg := pkg, lastE := e, cur := cur },
   { o with y := winsMean im.pNs die, yPkg := winsMean im.pNs pkg,
            w1 := tbuild 0 (core.map Prod.fst) (railW1 cur) })

/-- R202: a sample in which the Control Program does not run adds the last energy of the die, and the package's own. -/
def capIdle (im : Image) (pkgP : Option Nat) (m : CapMem) : CapMem :=
  if m.die = [] then m
  else { m with die := winsAdd im.pNs m.lastE m.die,
                pkg := match pkgP with
                  | some p => winsAdd im.pNs (sampleUJ im.pNs p) m.pkg
                  | none => m.pkg }

/-! ### Limits (R206, R207) -/

/-- The copies of a die limit that are set: source code and value (Table 7-3). W1 in 1/16 A, W2 to W6 in mW. -/
def dieCopies (c : CapCfg) (im : Image) (n : Nat) : List (Nat × Nat) :=
  let opt := fun (src v : Nat) => if v = allOnes then [] else [(src, v)]
  let w26 := decide (2 ≤ n)
  opt 1 (if w26 then min c.dieCeil (tget allOnes n c.die) else tget allOnes n c.die) ++ opt 2 (tget allOnes n im.cap.mDie)
    ++ (if w26 && im.cap.auth = 1 then opt 3 (regIn im.cfg 0x6010) else [])
    ++ (if w26 then opt 4 (im.alloc.getD allOnes) else [])
    ++ (if w26 && im.orphan then opt 6 c.orphanDie else [])

/-- The copies of a package limit. -/
def pkgCopies (c : CapCfg) (im : Image) (ramp : Option Nat) (n : Nat) : List (Nat × Nat) :=
  let opt := fun (src v : Nat) => if v = allOnes then [] else [(src, v)]
  opt 1 (tget allOnes n c.pkg) ++ opt 2 (tget allOnes n im.cap.mPkg)
    ++ (if 4 ≤ n then opt 5 (ramp.getD allOnes) else [])
    ++ (if im.orphan then opt 6 c.orphanPkg else [])

/-- The lowest copy and its source; among equal copies the lowest source code. -/
def lowestCopy (l : List (Nat × Nat)) : Option (Nat × Nat) :=
  l.foldl (fun b p => match b with
    | none => some p
    | some q => if p.2 < q.2 || (p.2 = q.2 && p.1 < q.1) then some p else some q) none

/-- The holdover factor of R206. -/
def holdScale (im : Image) (v : Nat) : Nat := if im.holdover then (roundEven ((v * im.holdPct : Nat) : Int) 100).toNat else v

/-- The effective limit and the source that BIND_SRC names for it (R206, R210); all ones and 0 where no copy is set. -/
def effLimit (im : Image) (l : List (Nat × Nat)) : Nat × Nat :=
  match lowestCopy l with
  | none => (allOnes, 0)
  | some p => (holdScale im p.2, if im.holdover && decide (im.holdPct < 100) then 7 else p.1)

/-- R200, R206: the copies of the W1 limit of a core rail: the same source's die copy at share_r, the design copy replaced
by the rail's own limit. -/
def railCopies (c : CapCfg) (r : RailCfg) (im : Image) : List (Nat × Nat) :=
  let sh := fun v => v * r.share / 65536
  (match r.w1 with
   | some w => [(1, w)]
   | none => if tget allOnes 1 c.die = allOnes then [] else [(1, sh (tget allOnes 1 c.die))])
  ++ (if tget allOnes 1 im.cap.mDie = allOnes then [] else [(2, sh (tget allOnes 1 im.cap.mDie))])

/-! ### Measured values and targets (R204) -/

/-- ρ_ctl of R204 applied to a power in 1/65,536 mW. -/
def rhoCtl (o : EstOut) (p : Int) : Int :=
  if o.pEst < o.pCtl ∧ 0 < o.pEst then p * (o.pCtl : Int) / (o.pEst : Int) else p

/-- θ_f × D_f taken over one Booth's taps (KIND 6 of Table 7-2). -/
def boothDomPower (m : ModelCfg) (im : Image) (e : EstMem) (b d : Nat) : Int :=
  let taps := m.taps.filter (fun t => t.2.booth = b)
  let m' : ModelCfg := { m with taps := taps }
  sumI ((m.feats.filter (fun f => (tget zoneCfg0 f.2.zone m.zones).dom = d)).map
    (fun f => tget f.2.seed f.1 e.theta * featPower m' im.act im.pNs f.1 / 65536))

/-- y of an instance in Q16 of its loop unit, where it exists (R170, R204). `hot` is T_d and `region` the hottest used site
temperature of a region, `yPkg` whether the block is Stage Manager. -/
def loopY (p : Playbill) (im : Image) (e : EstMem) (eo : EstOut) (o : CapOut) (hot : Int) (region : Nat → Option Int)
    (c : LoopCfg) : Option Int :=
  match c.kind with
  | 0 => (tlook c.inst o.y).map (fun q => 65536 * (q : Int))
  | 1 => (tlook c.inst o.yPkg).map (fun q => 65536 * (q : Int))
  | 2 => if (tget railCfg0 c.inst p.law.rails).core then some (65536 * ((tget 0 c.inst o.w1 : Nat) : Int)) else none
  | 3 => (region c.inst).map (· * 65536)
  | 4 => some (65536 * hot)
  | 5 => some (rhoCtl eo (sumI ((p.model.zones.filter (fun z => z.2.dom = c.inst)).map
      (fun z => 65536 * ((tget 0 z.1 eo.zoneP : Nat) : Int)))) + 65536 * ((tget 0 c.inst im.bypDom : Nat) : Int))
  | _ => some (rhoCtl eo (boothDomPower p.model im e (c.inst / 4) (c.inst % 4)))

/-- The target of an instance in Q16 and the limit source that BIND_SRC names; `ramp` is the ramp value it is taken with. -/
def loopTarget (p : Playbill) (im : Image) (ramp : Option Nat) (c : LoopCfg) : Int × Nat :=
  let q := fun (x : Nat × Nat) => (65536 * (x.1 : Int), x.2)
  match c.kind with
  | 0 => q (effLimit im (dieCopies p.cap im c.inst))
  | 1 => q (effLimit im (pkgCopies p.cap im ramp c.inst))
  | 2 => q (effLimit im (railCopies p.cap (tget railCfg0 c.inst p.law.rails) im))
  | 3 => (65536 * im.thmTarget, 0)
  | 4 => (65536 * im.thmTarget, 0)
  | 5 => (65536 * ((min (tget p.cap.dieCeil c.inst p.cap.ceil) p.cap.dieCeil : Nat) : Int), 0)
  | _ => (65536 * ((tget (tget p.cap.dieCeil (c.inst % 4) p.cap.ceil) c.inst p.cap.bdCeil : Nat) : Int), 0)

/-- R205: whether an instance is engaged in a sample in which the Control Program runs. -/
def loopEngaged (im : Image) (c : LoopCfg) : Bool := c.kind ≠ 1 || im.isSM

/-- R205: the Control Program did not run in the sample before, so the instances are engaged again. -/
def loopGap (im : Image) : Bool := decide (0 < im.froze) || im.resumed

/-- R177: whether the sample starts a soft start of an instance that is engaged: engagement, a target change other than by
a ramp step, resumption after an overrun, a freeze or the safe state, or holdover entered or left. -/
def softTrigger (im : Image) (tOld tNew : Int) (s : LoopSt) : Bool :=
  !s.engaged || (decide (s.target ≠ tNew) && !(im.rampStep && decide (s.target = tOld)))
    || im.overrunLast || loopGap im || im.holdChanged

/-- One instance in one sample (R170, R171, R205). -/
def loopRun (p : Playbill) (im : Image) (e : EstMem) (eo : EstOut) (o : CapOut) (hot : Int)
    (region : Nat → Option Int) (sel : Option Nat) (fr : Nat) (c : LoopCfg) (s : LoopSt) : LoopSt :=
  if !loopEngaged im c then { s with engaged := false, soft := false, pend := false }
  else
    let tn := (loopTarget p im im.cap.val c).1
    let trig := s.pend || softTrigger im (loopTarget p im im.cap.prev c).1 tn s
    let s1 : LoopSt := if s.engaged && !loopGap im then s else { s with engaged := true, ran := false }
    let s2 : LoopSt := { s1 with soft := s1.soft || trig, pend := trig, target := tn }
    if im.k % 2 ^ c.runLog2 ≠ 0 then s2
    else match loopY p im e eo o hot region c with
      | none => s2
      | some y =>
        let ts := tableSet p.law.regions sel
        let st := lawStep c (tget gainTab0 (ts * 16 + c.group) p.law.gains) im.pNs trig (!s1.ran) y tn fr s1
        { st with tset := ts, pend := false }

/-- All instances of one sample, in index order, and the flags that they set in CTL_FLAGS: U_SAT, DU_CLIP. -/
def loopsRun (p : Playbill) (im : Image) (e : EstMem) (eo : EstOut) (o : CapOut) (hot : Int)
    (region : Nat → Option Int) (fr : Nat) (m : LawMem) (lo : LawOut) : LawMem × LawOut :=
  let sel := if m.chosen then im.sel.region else none
  let run := fun (c : Nat × LoopCfg) =>
    let s := tget loopSt0 c.1 m.loops
    (s, loopRun p im e eo o hot region sel (fr + c.1) c.2 { s with uSat := false, duClip := false })
  let rs := p.law.loops.map (fun c => (c.1, run c))
  let next := rs.foldl (fun t (x : Nat × LoopSt × LoopSt) =>
    tins x.1 { x.2.2 with uSat := x.2.1.uSat || x.2.2.uSat, duClip := x.2.1.duClip || x.2.2.duClip } t) m.loops
  ({ m with loops := next },
   { lo with loops := next, ssAny := next.any (fun s => s.2.soft), uSat := lo.uSat || rs.any (fun x => x.2.2.uSat),
             duClip := lo.duClip || rs.any (fun x => x.2.2.duClip) })

/-- R175: the region of the sample, from the applied operating point, the effective mode and T_d. -/
def regionStep (c : LawCfg) (im : Image) (hot : Int) (m : LawMem) (o : LawOut) : LawMem × LawOut :=
  let hyst : Int := (bits (regIn im.cfg 0x5008) 7 0 : Nat)
  let r := regionSelect c.regions (if m.chosen then m.region else none) im.sel.mode im.opF hot hyst
  ({ m with region := r, chosen := true },
   { o with region := r, noMatch := r == none,
            noRegion := wrapInc 16 (r == none && m.chosen) o.noRegion })

/-! ### The die allowance (R210) -/

/-- The lowest u of the instances of a kind and index, where there is one (R173). -/
def instU (p : Playbill) (m : LawMem) (kind inst : Nat) : Option Nat :=
  match (p.law.loops.filter (fun c => c.2.kind = kind && c.2.inst = inst)).map (fun c => loopU c.2 (tget loopSt0 c.1 m.loops)) with
  | [] => none
  | u :: r => some (r.foldl min u)

/-- The candidates for the die allowance in the order in which ties are reported: allowance, kind, source (R210). -/
def allowances (p : Playbill) (im : Image) (m : LawMem) (enf : Option Nat) : List (Nat × Nat × Nat) :=
  let ls := sortBy (fun a b => decide (a.2.kind * 4096 + a.2.inst ≤ b.2.kind * 4096 + b.2.inst))
    (p.law.loops.filter (fun c => (c.2.kind = 0 || c.2.kind = 2 || c.2.kind = 4) && loopEngaged im c.2))
  (match enf with | some v => [(v, 14, 0)] | none => [])
  ++ ls.map (fun c => (loopU c.2 (tget loopSt0 c.1 m.loops), c.2.kind, (loopTarget p im im.cap.val c.2).2))
  ++ [(p.cap.dieCeil, 15, 0)]

/-- The lowest candidate, the first among equals. -/
def lowestAllow : List (Nat × Nat × Nat) → Nat × Nat × Nat
  | [] => (0, 15, 0)
  | x :: r => r.foldl (fun b p => if p.1 < b.1 then p else b) x

/-! ### Operating points (R214 to R219) -/

/-- f in MHz and V in 0.25 mV of an operating point. -/
def opFreq (c : LawCfg) (j : Nat) : Nat := (c.ops.getD j (0, 0)).1
def opVolt (c : LawCfg) (j : Nat) : Nat := (c.ops.getD j (0, 0)).2

/-- Σ κ_z Λ_z(T_z, V) over the zones, in mW (R215). -/
def leakAt (m : ModelCfg) (eo : EstOut) (v : Nat) : Int :=
  sumI ((zoneKeys m).map (fun z => leakPower m z (tget 0 z eo.zoneT) (v : Int))) / 65536

/-- P_pred(j) of R215 in mW. -/
def pPred (p : Playbill) (eo : EstOut) (a j : Nat) : Int :=
  let fa : Int := max 1 (opFreq p.law a : Int)
  let va : Int := max 1 (opVolt p.law a : Int)
  let fj : Int := (opFreq p.law j : Nat)
  let vj : Int := (opVolt p.law j : Nat)
  let d := max 0 ((eo.pCtl : Int) - leakAt p.model eo (opVolt p.law a))
  d * fj * vj * vj / (fa * va * va) + leakAt p.model eo (opVolt p.law j)

/-- The highest operating point up to `top` that satisfies a test, 0 where none does. -/
def highestOp (top : Nat) (ok : Nat → Bool) : Nat :=
  ((List.range (top + 1)).filter ok).foldl max 0

/-- R208, R214: whether HOST_PREF applies. -/
def prefOn (im : Image) : Bool := im.cap.auth = 1 && (regIn im.cfg 0x6014).testBit 31

/-- R214: the preferred mode and operating point. -/
def prefMode (im : Image) : Nat :=
  if prefOn im then bits (regIn im.cfg 0x6014) 30 29 else bits (tget 0 (2 * im.sel.scene) im.scene) 29 28
def prefOp (c : LawCfg) (im : Image) : Nat :=
  min c.opCeil (if prefOn im then bits (regIn im.cfg 0x6014) 27 22 else bits (tget 0 (2 * im.sel.scene) im.scene) 27 22)

/-- R214: the first allowed mode at or after the preferred one; matched is always allowed. -/
def allowedMode (allow pref : Nat) : Nat :=
  if pref ≤ 0 ∧ allow.testBit 0 then 0 else if pref ≤ 1 ∧ allow.testBit 1 then 1 else 2

/-- MODE_ALLOW of R207: the modes that every copy allows, and matched. -/
def modeAllow (c : CapCfg) (im : Image) : Nat := ((c.modeAllow &&& im.cap.mAllow.getD 7) % 4) + 4

/-- C_die of R219: the lowest effective die limit of W2 to W6. -/
def cDie (c : CapCfg) (im : Image) : Nat :=
  minN allOnes ([2, 3, 4, 5, 6].map (fun n => (effLimit im (dieCopies c im n)).1))

/-- R219: the Matched Table entry for a cap, and whether one qualified. Log 114 DEDUCED. -/
def matchedEntry (c : CapCfg) (cap : Nat) : (Nat × Nat × Nat) × Bool :=
  match (c.matched.filter (fun m => decide (m.1 * 1000 ≤ cap))).getLast? with
  | some m => (m, true)
  | none => (c.matched.headD (0, 0, 0), false)

/-- R216, R221, R222: whether raises of the operating point are suspended. -/
def raisesSuspended (im : Image) (o : CapOut) : Bool :=
  im.sel.untrusted || im.sel.unverified || im.holdover || decide (1 ≤ im.sel.thermal) || o.unatt

/-- R216 to R219, R228, R260: the target operating point and the samples since its last change. -/
def opTarget (p : Playbill) (im : Image) (eo : EstOut) (a : Nat) (enf : Option Nat) (m : CapMem) (o : CapOut) : Nat × Nat :=
  let cfg := regIn im.cfg 0x6018
  let guard : Int := (100 - bits cfg 7 0 : Nat)
  let cur := if im.sceneNew then prefOp p.law im else o.opTarget
  let fit := highestOp p.law.opCeil (fun j => decide (pPred p eo im.opF j * 100 ≤ (a : Int) * guard))
  let opp := if fit ≤ cur then fit else if bits cfg 31 20 ≤ m.dwell + 1 then cur + 1 else cur
  let want := match im.sel.mode with
    | 0 => opp
    | 1 => prefOp p.law im
    | _ => (matchedEntry p.cap (cDie p.cap im)).1.2.1
  let w1 := match enf with
    | some c => min want (highestOp p.law.opCeil (fun j => decide (pPred p eo im.opF j ≤ (c : Int))))
    | none => want
  let w2 := if o.unatt then 0 else if raisesSuspended im o then min w1 o.opTarget else w1
  (w2, if w2 = o.opTarget then min 4095 (m.dwell + 1) else 0)

/-! ### The allocation (R211 to R213, R217, R221, R222) -/

/-- The domain order of R211, first served first. -/
def domOrder (c : CapCfg) : List Nat := [bits c.domOrder 7 6, bits c.domOrder 5 4, bits c.domOrder 3 2, bits c.domOrder 1 0]

/-- lk[d] of R211 in mW. -/
def domLeak (m : ModelCfg) (eo : EstOut) (d : Nat) : Nat :=
  sumN ((m.zones.filter (fun z => z.2.dom = d)).map (fun z => tget 0 z.1 eo.zoneLeak))

/-- One pass of R211: `amt d t` says how much domain d would take of what remains. -/
def allocPass (order : List Nat) (amt : Nat → Nat → Nat) (x : Tab Nat × Nat) : Tab Nat × Nat :=
  order.foldl (fun s d =>
    let t := tget 0 d s.1
    let g := min (amt d t) s.2
    (tset 0 d (t + g) s.1, s.2 - g)) x

/-- base_sum of R211. -/
def baseSum (lk fx floor : Nat → Nat) : Nat := sumN ((List.range 4).map (fun d => lk d + fx d + floor d))

/-- R211: t[d] for a die allowance. -/
def allocate (order : List Nat) (a : Nat) (lk fx floor ceil dm share : Nat → Nat) (headPct : Nat) : Tab Nat :=
  let base := baseSum lk fx floor
  let need := fun d => max (dm d * (100 + headPct) / 100) (share d * (a - base) / 256)
  let room := fun d t => ceil d - lk d - fx d - t
  let t0 := tbuild 0 (List.range 4) floor
  let p1 := allocPass order (fun d t => min (room d t) (need d - t)) (t0, a - base)
  (allocPass order (fun d t => room d t) p1).1

/-- One offer of R59: in proportion to the weights, the rounding remainder to the largest weight, and among equal weights
to the lowest key; each offer cut to the room. -/
def offer (amount : Nat) (l : List (Nat × Nat × Nat)) : List (Nat × Nat) :=
  let tot := sumN (l.map (fun x => x.2.1))
  let top := l.foldl (fun b x => match b with
    | none => some x
    | some y => if y.2.1 < x.2.1 || (y.2.1 = x.2.1 && x.1 < y.1) then some x else some y) none
  let base := fun (x : Nat × Nat × Nat) => if tot = 0 then 0 else amount * x.2.1 / tot
  let rest := amount - sumN (l.map base)
  l.map (fun x => (x.1, min x.2.2 (base x + (if (top.map (fun t => t.1)) = some x.1 then rest else 0))))

/-- R59: what is cut is offered once more among those that still have room; the offers and what is left. -/
def offerTwice (amount : Nat) (l : List (Nat × Nat × Nat)) : List (Nat × Nat) × Nat :=
  let a := offer amount l
  let left := amount - sumN (a.map Prod.snd)
  let got := fun k => tget 0 k a
  let l2 := (l.map (fun x => (x.1, x.2.1, x.2.2 - got x.1))).filter (fun x => decide (0 < x.2.2))
  let b := offer left l2
  (l.map (fun x => (x.1, got x.1 + tget 0 x.1 b)), left - sumN (b.map Prod.snd))

/-- A demand of tickets per refill in mW (R211). -/
def demandMW (qSel d : Nat) : Nat := 1000 * d * 2 ^ qSel / 128

/-- The room of a Booth in a domain under BD_CEIL and its KIND 6 instance (R212). The manual does not say how a zone's
leakage is shared among Booths: the share is a free value. Log 15 DESIGN CHOICE. -/
def bdRoom (p : Playbill) (im : Image) (m : LawMem) (eo : EstOut) (b d : Nat) : Nat :=
  let ceil := tget (tget p.cap.dieCeil d p.cap.ceil) (b * 4 + d) p.cap.bdCeil
  let u := (instU p m 6 (b * 4 + d)).getD ceil
  min ceil u - min 65536 (Config.boothLeakShare b d) * domLeak p.model eo d / 65536 - tget 0 (b * 4 + d) im.bypBd

/-- R212: the shares of the Booths of every domain, cut to the region allowance in the reverse of DOM_ORDER. -/
def boothShares (p : Playbill) (im : Image) (m : LawMem) (eo : EstOut) (t : Tab Nat) : Tab Nat :=
  let bs := fun d => (im.demand.filter (fun x => x.1 % 4 = d)).map (fun x => (x.1 / 4, max 1 x.2))
  let first := (List.range 4).foldl (fun acc d =>
    (offer (tget 0 d t) ((bs d).map (fun b => (b.1, b.2, bdRoom p im m eo b.1 d)))).foldl
      (fun u x => tset 0 (x.1 * 4 + d) x.2 u) acc) ([] : Tab Nat)
  let lim := fun b => instU p m 3 b
  let tot := fun (u : Tab Nat) b => sumN ((List.range 4).map (fun d => tget 0 (b * 4 + d) u))
  let cut := (domOrder p.cap).reverse.foldl (fun u d =>
    (bs d).foldl (fun v b => match lim b.1 with
      | none => v
      | some l =>
        let excess := tot v b.1 - l
        tset 0 (b.1 * 4 + d) (tget 0 (b.1 * 4 + d) v - excess) v) u) first
  (domOrder p.cap).foldl (fun u d =>
    let left := tget 0 d t - sumN ((bs d).map (fun b => tget 0 (b.1 * 4 + d) u))
    let l := ((bs d).map (fun b => (b.1, b.2,
      min (bdRoom p im m eo b.1 d - tget 0 (b.1 * 4 + d) u)
        (match lim b.1 with | none => allOnes | some x => x - tot u b.1)))).filter (fun x => decide (0 < x.2.2))
    (offer left l).foldl (fun v x => tset 0 (x.1 * 4 + d) (tget 0 (x.1 * 4 + d) v + x.2) v) u) cut

/-- Q_bd of R212. -/
def quotaOf (pNs qSel t fx : Nat) : Nat := (t + fx) * pNs * 4 / (1000 * 2 ^ qSel)

/-- R_pace of R217 in 1/65,536 ticket per ns. -/
def paceOf (slack qSel t : Nat) : Nat := 65536 * t * (100 - slack) * 4 / (100 * 1000 * 2 ^ qSel)

/-- R210: the source of the binding limit by its copies alone: in holdover BIND_SRC may read 7 in its place.
Log 114 DEDUCED. -/
def bindCopy (p : Playbill) (im : Image) (m : LawMem) : Nat := (lowestAllow (allowances p { im with holdover := false } m im.enf)).2.2

/-- The pool tag of R213. Enforcement lowers the die allowance alone (R260), so no region allowance comes from it.
Log 114 DEDUCED. -/
def poolTag (im : Image) (o : CapOut) (kind src d : Nat) (p : Playbill) : Nat :=
  if kind = 14 then (if im.enfHost then 5 else 4)
  else if o.unatt && tget 0 d o.t = tget 0 d p.cap.floor then 7
  else if src = 4 && im.donorWait then 12 else 1

end Sys2Proof.Machine
end

