-- ==== Sys2Proof/Machine/Heat.lean ====
section
/-! DEFINITION. What the Control Program's thermal routine computes: used temperatures and substitutes (R161, R250, R254),
the thermal state (R251, R252, R255) and the levels (R256, R257). Temperatures in 1/16 °C. -/

namespace Sys2Proof.Machine

open Sys2Proof

/-- R158: a site is suspect cold. -/
def suspectCold (p : SitePlaus) : Bool := decide (0 < p.cold)

/-- R161, R158: the temperature used of a site that is not broken. -/
def soundTemp (o : EstOut) (site : Nat) (y : Int) : Int :=
  let p := tget sitePlaus0 site o.sites
  match p.pred with
  | some x => if suspectCold p || o.coldMaj then max y x else y
  | none => y

/-- R254: a neighbour is valid when it is present, not broken and not suspect; its reading. -/
def validNeighbour (t : ThermCfg) (im : Image) (o : EstOut) (n : Nat) : Option Int :=
  if (tlook n t.sites).isNone then none
  else
    let i := tget siteIn0 n im.sites
    if i.broken || suspect (tget sitePlaus0 n o.sites) then none else i.reading

/-- The inputs that are valid for a broken site's substitute: neighbours, and the prediction outside warm-up (R254). -/
def substInputs (t : ThermCfg) (im : Image) (o : EstOut) (site : Nat) : List Int :=
  ((tget siteCfg0 site t.sites).neighbours.filterMap (validNeighbour t im o))
    ++ (if o.warmup then [] else (tget sitePlaus0 site o.sites).pred.toList)

/-- R254: a substitute is in use. -/
def substUsed (t : ThermCfg) (im : Image) (o : EstOut) (site : Nat) : Bool :=
  t.subEn && decide (substInputs t im o site ≠ [])

/-- R250, R254: the used temperature of a site, where it has one. SUB_MARGIN is in 1/4 °C. -/
def usedTemp (t : ThermCfg) (im : Image) (o : EstOut) (site : Nat) : Option Int :=
  let i := tget siteIn0 site im.sites
  if i.broken then
    some (if substUsed t im o site then
      maxI 0 (substInputs t im o site) + 4 * (bits (regIn im.cfg 0x8020) 7 0 : Nat)
    else im.thr.thr + 1)
  else i.reading.map (soundTemp o site)

/-- The used temperatures of the die's sites. -/
def usedTemps (t : ThermCfg) (im : Image) (o : EstOut) : List (Nat × Int) :=
  t.sites.filterMap (fun s => (usedTemp t im o s.1).map (fun v => (s.1, v)))

/-- R250: the hottest of them, the lowest site among equals. Log 66 DEDUCED. -/
def hottest : List (Nat × Int) → Option (Nat × Int)
  | [] => none
  | x :: r => some (r.foldl (fun b p => if b.2 < p.2 then p else b) x)

/-- R255: at least two-thirds of the present sites are broken. -/
def brokenHold (t : ThermCfg) (im : Image) : Bool :=
  let n := (t.sites.filter (fun s => (tget siteIn0 s.1 im.sites).broken)).length
  decide (0 < t.sites.length ∧ 2 * t.sites.length ≤ 3 * n)

/-- R251, R252: the thermal state from the one before, T_th and the floors. -/
def thermState (e : ThrEff) (prev : Nat) (t : Int) (warm hold : Bool) : Nat :=
  let x := if e.thr ≤ t ∨ (prev = 2 ∧ e.thrRel ≤ t) then 2
    else if e.warn ≤ t ∨ (1 ≤ prev ∧ e.warnRel ≤ t) then 1 else 0
  max x (if hold then 2 else if warm then 1 else 0)

/-- R256: the level computed in Throttle. LVL_STEP is in 1/16 °C. -/
def levelOf (t thr : Int) (step : Nat) : Nat := min 15 (1 + (max 0 (t - thr) / (max 1 step : Nat)).toNat)

/-- R256: a higher level at once, a lower one after the dwell, one level at a time; 0 outside Throttle. Log 61 DEDUCED. -/
def levelStep (throttle : Bool) (comp dwell : Nat) (m : ThermMem) : ThermMem :=
  if !throttle then ⟨0, 0⟩
  else if m.lvl ≤ comp then ⟨comp, 0⟩
  else if dwell ≤ m.dwell + 1 then ⟨m.lvl - 1, 0⟩
  else ⟨m.lvl, m.dwell + 1⟩

/-- R259: the sample latches a temperature of a forced start; a GRACE_US of 0 is judged at the edge. Log 66 DEDUCED. -/
def forcedStart (im : Image) (t : Int) : Bool :=
  decide (im.thr.thr + 4 * (bits (regIn im.cfg 0x8014) 23 16 : Nat) ≤ t) || decide (im.thr.shut ≤ t)

/-- The thermal routine of one sample (R250 to R257). -/
def thermRoutine (t : ThermCfg) (im : Image) (e : EstMem) (eo : EstOut) (m : ThermMem) (o : ThermOut) :
    ThermMem × ThermOut :=
  let us := usedTemps t im eo
  let top := (hottest us).getD (o.tSite, o.tTh)
  let bh := brokenHold t im
  let anyBroken := t.sites.any (fun s => (tget siteIn0 s.1 im.sites).broken)
  let st := thermState im.thr im.sel.thermal top.2 (anyBroken || im.coolWarn) (bh || im.coolHold)
  let m1 := levelStep (st == 2) (levelOf top.2 im.thr.thr (bits (regIn im.cfg 0x8014) 27 24))
    (bits (regIn im.cfg 0x8018) 31 16) m
  let lth := max m1.lvl (max (if bh then bits (regIn im.cfg 0x8018) 15 12 else 0)
    (if im.coolHold then bits (regIn im.cfg 0x8018) 11 8 else 0))
  let lvl := max lth (max im.hostLvl im.mgmtLvl)
  ({ m1 with lvl := if st = 2 then lth else m1.lvl },
   { o with state := st, tTh := top.2, tSite := top.1, hot := if e.inited then max top.2 eo.tModMax else top.2,
            lth := lth, level := lvl, host := decide (lth < lvl), forced := forcedStart im top.2, brokenHold := bh,
            used := us,
            subst := (t.sites.map Prod.fst).filter (fun i => (tget siteIn0 i im.sites).broken && substUsed t im eo i) })

/-- The hottest used temperature of a region (R250). -/
def regionTemp (t : ThermCfg) (o : ThermOut) (r : Nat) : Option Int :=
  match (o.used.filter (fun u => (tget siteCfg0 u.1 t.sites).region = r)).map Prod.snd with
  | [] => none
  | x :: l => some (l.foldl max x)

end Sys2Proof.Machine
end

