-- ==== Sys2Proof/Machine/Ledger.lean ====
section
/-! DEFINITION. What the Control Program computes for the package: the package allowance and windows (R283), targets (R284),
the ledger step (R285), the silence model (R288) and escalation (R289). Powers in mW. -/

namespace Sys2Proof.Machine

open Sys2Proof

/-- R276: rounding down to the 0.5 W unit. Log 75 DEDUCED. -/
def halfWatt (x : Nat) : Nat := x / 500 * 500

/-- A die's record, unlisted: not heard of. -/
def dieOf (im : Image) (j : Nat) : DieRec := tget dieRec0 j im.dies

/-- R285: the dies of the package map that the ledger holds: heard of and not released by Departed (R298).
Log 73 DEDUCED. -/
def ledgerDies (c : PkgCfg) (im : Image) : List Nat :=
  (c.map.map Prod.fst).filter (fun j => ((dieOf im j).seen).isSome && !(dieOf im j).departed)

/-- R288: no REPORT of the die has been latched for 50 ticks. -/
def dieSilent (im : Image) (d : DieRec) : Bool :=
  match d.rptUp with
  | some u => decide (u + 50 ≤ im.up)
  | none => false

/-- R288: what the silence model gives `gone` ticks after the last REPORT: it holds for `hold` ticks, and falls to the floor
over `span` ticks. Log 72 DEDUCED. -/
def silenceModel (hold span held floor gone : Nat) : Nat :=
  if gone ≤ hold then held
  else if hold + span ≤ gone then min held floor
  else held - (held - floor) * (gone - hold) / span

/-- R285: H_j. -/
def ledgerH (im : Image) (l : Ledger) (j : Nat) : Nat :=
  let d := dieOf im j
  if dieSilent im d then
    silenceModel 1070 10000 (tget (tget 0 j l.h) j l.held) d.floor (im.up - d.rptUp.getD im.up)
  else
    ((tget [] j l.sent).filter (fun x => match d.rptK with
      | some k => decide (k < x.1)
      | none => true)).foldl (fun m x => max m x.2) d.applied

/-- R283: A_pkg. -/
def pkgAllowance (p : Playbill) (im : Image) (m : LawMem) : Nat :=
  let us := if im.isSM then (p.law.loops.filter (fun c => c.2.kind = 1)).map
    (fun c => loopU c.2 (tget loopSt0 c.1 m.loops)) else []
  match us ++ im.fleet.toList with
  | [] => minN allOnes ([2, 3, 4, 5, 6].map (fun n => (effLimit im (pkgCopies p.cap im im.cap.val n)).1))
  | x :: r => r.foldl min x

/-- R283: the power that the package windows take. -/
def pkgPower (p : Playbill) (im : Image) : Nat :=
  p.cap.pkgUnmanaged + sumN ((ledgerDies p.pkg im).map (fun j =>
    let d := dieOf im j
    if dieSilent im d then ledgerH im im.ledger j else d.power))

/-- R284: the targets for a divisible budget. A die that has left takes its floor (R298). Log 73 DEDUCED. -/
def pkgTargets (im : Image) (cap : Nat) (js : List Nat) : Tab Nat :=
  let d := dieOf im
  let rest := cap - sumN (js.map (fun j => (d j).floor))
  let sh := (offerTwice rest (js.map (fun j => (j, max 1 (d j).demand,
    if (d j).left then 0 else (d j).ceil - (d j).floor)))).1
  tbuild 0 js (fun j => halfWatt ((d j).floor + tget 0 j sh))

/-- The raises of R285 in ascending die ID: `room` and the allocations so far. A die with less than its floor `fl` is admitted by
the raise that gives it the whole floor (R299). -/
def ledgerRaise (fl : Nat → Nat) (h t : Tab Nat) (j : Nat) (x : Tab Nat × Nat) : Tab Nat × Nat :=
  let a := tget 0 j x.1
  let n := halfWatt (min (tget 0 j t) (tget 0 j h + x.2))
  if tget 0 j t ≤ a ∨ n ≤ a ∨ n < fl j then x else (tset 0 j n x.1, x.2 - (n - tget 0 j h))

/-- R284, R288, R290, R299: what a target of R284 may reach in this sample: a recipient whose raise was withdrawn, and a silent die,
are not raised, and a die not yet admitted is meant to have its floor. Log 76 DEDUCED. -/
def targetNow (l : Ledger) (silent : Bool) (fl j t : Nat) : Nat :=
  let a := tget 0 j l.a
  if l.stay.contains j || silent then min t a else if a < fl then min t fl else t

/-- R284, R285, R288 to R290, R299: the ledger of one sample. Log 76 DEDUCED. -/
def ledgerStep (p : Playbill) (im : Image) (m : LawMem) (yPkg : Tab Nat) (o : Ledger) : Ledger :=
  let l := im.ledger
  let js := ledgerDies p.pkg im
  let cap := pkgAllowance p im m - p.cap.pkgUnmanaged
  let held := tbuild 0 (js.filter (fun j => dieSilent im (dieOf im j))) (fun j => tget (tget 0 j l.h) j l.held)
  let h := tbuild 0 js (ledgerH im l)
  let t0 := pkgTargets im cap js
  let fl := fun j => halfWatt (dieOf im j).floor
  let t := tbuild 0 js (fun j => targetNow l (dieSilent im (dieOf im j)) (fl j) j (tget 0 j t0))
  let a0 := tbuild 0 js (fun j => min (tget 0 j l.a) (tget 0 j t))
  let room := cap - sumN (h.map Prod.snd)
  let a := if im.barred then a0 else (js.foldl (fun x j => ledgerRaise fl h t j x) (a0, room)).1
  let wait := js.filter (fun j => decide (tget 0 j a < tget 0 j t))
  let above := fun n => match tlook n yPkg with
    | some y => decide ((effLimit im (pkgCopies p.cap im im.cap.val n)).1 < y)
    | none => false
  { o with a := a, t := t, h := h, sent := l.sent, wait := wait, held := held,
           since := wait.map (fun j => (j, (tlook j l.since).getD im.up)),
           stay := [], cap := cap,
           esc := im.isSM && decide (cap < sumN (js.map (fun j => (dieOf im j).floor))) && (above 2 || above 3),
           escUp := l.escUp }

end Sys2Proof.Machine
end

