-- ==== Sys2Proof/Machine/Allowance.lean ====
section
/-! DEFINITION. The allowance and the allocation routines of the Control Program (R210 to R223): binding, effective mode,
operating point target, fall-back counts, division, pacing, Cap Unattainable and supply escalation. -/

namespace Sys2Proof.Machine

open Sys2Proof

/-- R214, R218: the preferred mode, as allowed, and the effective mode that fall-back makes of it. -/
def modeBase (p : Playbill) (im : Image) : Nat := allowedMode (modeAllow p.cap im) (prefMode im)
def modeEffective (base : Nat) (fallback : Bool) : Nat := if base = 1 && fallback then 2 else base

/-- P_pred(OP_pref) of R218. -/
def prefPower (p : Playbill) (im : Image) (eo : EstOut) : Int := pPred p eo im.opF (prefOp p.law im)

/-- R218: the preferred operating point fits the allowance, and fits it with the boost guard. -/
def ffFits (p : Playbill) (im : Image) (eo : EstOut) (a : Nat) : Bool := decide (prefPower p im eo ≤ (a : Int))
def ffReturns (p : Playbill) (im : Image) (eo : EstOut) (a : Nat) : Bool :=
  decide (prefPower p im eo * 100 ≤ (a : Int) * (100 - bits (regIn im.cfg 0x6018) 7 0 : Nat))

/-- R218, R229: the fall-back and return runs of one sample; enforcement pauses the fall-back count. -/
def ffCount (fixed fits rets enf : Bool) (m : CapMem) : CapMem :=
  { m with
    fbRun := if !fixed || m.fallback then 0 else if enf then m.fbRun else if fits then 0 else min 65535 (m.fbRun + 1),
    retRun := if fixed && m.fallback && rets then min 65535 (m.retRun + 1) else 0,
    fallback := fixed && m.fallback }

/-- R210, R214 to R219: the allowance routine: its event is a change of the binding (R209). -/
def allowanceRun (p : Playbill) (im : Image) (lm : LawMem) (eo : EstOut) (m : CapMem) (o : CapOut) :
    CapMem × CapOut × List (Nat × Int) :=
  let b := lowestAllow (allowances p im lm im.enf)
  let changed := decide (b.2.1 ≠ o.bindKind ∨ b.2.2 ≠ o.bindSrc)
  let base := modeBase p im
  let m1 := ffCount (base == 1) (ffFits p im eo b.1) (ffReturns p im eo b.1) im.enf.isSome m
  let tgt := opTarget p im eo b.1 im.enf m1 o
  ({ m1 with dwell := tgt.2 },
   { o with a := b.1, bindKind := b.2.1, bindSrc := b.2.2, bindChanges := wrapInc 16 changed o.bindChanges,
            pref := prefMode im, mode := modeEffective base m1.fallback, ffHeld := base == 1 && ffFits p im eo b.1,
            susp := raisesSuspended im o, opTarget := tgt.1 },
   if changed then [(0xE004, ((b.2.1 * 8 + b.2.2 : Nat) : Int))] else [])

/-- What the allocation takes of each domain (R211): leakage, bypass, floor, ceiling, demand, share. -/
structure DomIn where
  lk : Nat
  fx : Nat
  floor : Nat
  ceil : Nat
  dm : Nat
  share : Nat
  deriving DecidableEq, Repr

/-- The inputs of domain `d`: 0 compute, 1 memory, 2 links, 3 uncore. -/
def domIn (p : Playbill) (im : Image) (lm : LawMem) (eo : EstOut) (d : Nat) : DomIn :=
  let c := tget p.cap.dieCeil d p.cap.ceil
  { lk := domLeak p.model eo d, fx := tget 0 d im.bypDom, floor := tget 0 d p.cap.floor,
    ceil := min c ((instU p lm 5 d).getD c),
    dm := sumN ((im.demand.filter (fun x => x.1 % 4 = d)).map (fun x => demandMW im.qSel x.2)),
    share := bits (tget 0 (2 * im.sel.scene + 1) im.scene) (31 - 8 * d) (24 - 8 * d) }

/-- need[d] of R211. -/
def domNeed (headPct a base : Nat) (x : DomIn) : Nat := max (x.dm * (100 + headPct) / 100) (x.share * (a - base) / 256)

/-- base_sum of R211 over the domains. -/
def domBase (f : Nat → DomIn) : Nat := baseSum (fun d => (f d).lk) (fun d => (f d).fx) (fun d => (f d).floor)

/-- R281: the die's DEMAND. -/
def dieDemand (p : Playbill) (im : Image) (lm : LawMem) (o : CoreOut) : Nat :=
  let f := domIn p im lm o.est
  let head := bits (regIn im.cfg 0x6018) 15 8
  min p.cap.dieCeil (sumN ((List.range 4).map (fun d =>
    (f d).lk + (f d).fx + max (f d).floor (domNeed head o.cap.a (domBase f) (f d)))))

/-- R217, R219: the pacing ceilings by Booth × 4 + domain for the domains that pace. In matched mode the compute rate is the
lower of RATE and R_pace over the die, divided among the Booths as R_pace divides; `short` says that R_pace is the lower.
Log 114 DEDUCED. -/
def paceTable (im : Image) (ds : List Nat) (rate : Option Nat) (tbd : Tab Nat) : Tab Nat × Bool :=
  let slack := bits (regIn im.cfg 0x6018) 19 16
  let r := fun (t : Nat) => paceOf slack im.qSel t
  let comp := sumN ((tbd.filter (fun x => x.1 % 4 = 0)).map (fun x => r x.2))
  let low := match rate with
    | some v => decide (comp < 256 * v)
    | none => false
  let one := fun (x : Nat × Nat) => match rate with
    | some v => if x.1 % 4 = 0 && !low && decide (0 < comp) then 256 * v * r x.2 / comp else r x.2
    | none => r x.2
  ((tbd.filter (fun x => ds.contains (x.1 % 4))).map (fun x => (x.1, one x)), low)

/-- R211 to R213, R217, R219, R221 to R223: the allocation routine, with the faults, causes and events of Cap Unattainable and
of MATCH_SHORT. -/
def allocationRun (p : Playbill) (im : Image) (lm : LawMem) (eo : EstOut) (m : CapMem) (o : CapOut) :
    CapMem × CapOut × List (Nat × Int) × List (Nat × Int) × List (Nat × Nat) :=
  let f := domIn p im lm eo
  let base := domBase f
  let enter := !o.unatt && im.opF == 0 && decide (o.a < base)
  let un := o.unatt || enter
  let t := if un then tbuild 0 (List.range 4) (fun d => (f d).floor)
    else allocate (domOrder p.cap) o.a (fun d => (f d).lk) (fun d => (f d).fx) (fun d => (f d).floor)
      (fun d => (f d).ceil) (fun d => (f d).dm) (fun d => (f d).share) (bits (regIn im.cfg 0x6018) 15 8)
  let tbd := boothShares p im lm eo t
  let keys := im.demand.map Prod.fst
  let low := im.opF == 0 && decide ((o.a : Int) < pPred p eo im.opF 0)
  let ent := matchedEntry p.cap (cDie p.cap im)
  let matched := im.sel.mode == 2
  let ds := if low || im.sel.mode == 1 then [0, 1, 2, 3] else if matched then [0] else []
  let pc := paceTable im ds (if matched then some ent.1.2.2 else none) (keys.map (fun k => (k, tget 0 k tbd)))
  let short := matched && (pc.2 || !ent.2)
  let src := if o.bindSrc = 7 then bindCopy p im lm else o.bindSrc
  let o1 : CapOut := { o with t := t, unatt := un }
  let high := fun n => match tlook n o.y with
    | some y => decide ((effLimit im (dieCopies p.cap im n)).1 < y)
    | none => false
  let esc := un && (high 2 || high 3)
  let fits := un && decide (base * 102 ≤ o.a * 100)
  ({ m with unattRun := if fits then min 64 (m.unattRun + 1) else 0 },
   { o1 with
      baseSum := base, lkfx := tbuild 0 (List.range 4) (fun d => (f d).lk + (f d).fx),
      quota := tbuild 0 keys (fun k => quotaOf im.pNs im.qSel (tget 0 k tbd) (tget 0 k im.bypBd)),
      tag := tbuild 1 keys (fun k => poolTag im o1 o.bindKind src (k % 4) p),
      pace := pc.1, pacing := decide (ds ≠ []), matchShort := short,
      shorts := wrapInc 8 (short && !o.matchShort) o.shorts, cuEntries := wrapInc 8 enter o.cuEntries,
      esc := esc, supplyEscs := wrapInc 8 (esc && !o.esc) o.supplyEscs },
   if enter then [(0x5002, 0)] else [],
   if un then [(0xE007, ((o.a / 1000 : Nat) : Int)), (0xE008, ((base / 1000 : Nat) : Int))] else [],
   (if enter then [(5, 0)] else []) ++ (if short && !o.matchShort then [(5, 3)] else []))

end Sys2Proof.Machine
end

