-- ==== Sys2Proof/Machine/BlockFloat.lean ====
section
/-! DEFINITION. The arithmetic of the control core: block floating point stages (R121 to R124), rounding (R125), the
stochastic draws (R126), saturating and modular scalar arithmetic (R127) and the stage flags (R128). -/

namespace Sys2Proof.Machine

open Sys2Proof

/-! ### Flags (Table 4-9) -/

def accSat : Nat := 1
def outSat : Nat := 2
def expOvf : Nat := 4
def expUnf : Nat := 8
def idxClamp : Nat := 16

/-! ### The stochastic register (R126) -/

/-- One step of the Galois register with polynomial x^32 + x^22 + x^2 + x + 1, towards the high end. Log 42 PRESUMED. -/
def lfsrStep (r : Nat) : Nat := if r / 2 ^ 31 % 2 = 1 then ((r * 2) % 2 ^ 32) ^^^ 0x00400007 else r * 2

/-- A draw: 32 steps, and the register after the last. -/
def lfsrDraw (r : Nat) : Nat := (List.range 32).foldl (fun x _ => lfsrStep x) r

/-- One draw per element, in ascending order, and the register after the last. -/
def lfsrDraws : Nat → Nat → List Nat × Nat
  | 0, r => ([], r)
  | n + 1, r =>
    let d := lfsrDraw r
    let x := lfsrDraws n d
    (d :: x.1, x.2)

/-! ### Rounding (R125) -/

/-- rnd(a, sh): to nearest with ties to even, or stochastic with the element's draw; an exact left shift for sh ≤ 0. -/
def rnd (draw : Option Nat) (a sh : Int) : Int :=
  if sh ≤ 0 then a * ((2 ^ (-sh).toNat : Nat) : Int)
  else
    let d : Nat := 2 ^ sh.toNat
    match draw with
    | none => roundEven a d
    | some r => (a + ((r % d : Nat) : Int)) / (d : Int)

/-! ### Stages (R122 to R124) -/

/-- R122: the nearest limit of a 40-bit accumulator, and whether it was passed. -/
def accLimit (x : Int) : Int × Bool :=
  let y := clampI (-(2 ^ 39 : Nat)) ((2 ^ 39 : Nat) - 1) x
  (y, decide (y ≠ x))

/-- The bits of an accumulator without its sign bits; a 40-bit one has 39 less these redundant sign bits. -/
def sigBits (a : Int) : Nat :=
  let m := if 0 ≤ a then a.toNat else (-a - 1).toNat
  if m = 0 then 0 else Nat.log2 m + 1

/-- A 16-bit mantissa can hold it. -/
def fits16 (x : Int) : Bool := decide (-32768 ≤ x ∧ x ≤ 32767)

/-- Each accumulator with its draw. -/
def withDraws (acc : List Int) (draws : List Nat) : List (Int × Option Nat) :=
  acc.zipIdx.map (fun p => (p.1, draws[p.2]?))

/-- R124: the output of a stage (an exact interpolation may be wider than 40 bits): mantissas, exponent and flags. `draws` holds the elements' draws of a stage that rounds
stochastically, and is empty for one that rounds to nearest. -/
def renorm (acc : List Int) (eAcc : Int) (draws : List Nat) : List Int × Int × Nat :=
  if acc.all (fun a => a = 0) then (acc.map (fun _ => 0), -128, 0)
  else
    let l := withDraws acc draws
    let at' := fun (sh : Int) => l.map (fun p => rnd p.2 p.1 sh)
    let sh0 : Int := (((acc.map sigBits).foldl max 0 : Nat) : Int) - 15
    let sh := if (at' sh0).all fits16 then sh0 else sh0 + 1
    let e := eAcc - 15 + sh
    if 127 < e then
      (acc.map (fun a => if 0 < a then 32767 else if a < 0 then -32768 else 0), 127, expOvf)
    else if e < -128 then (at' (sh + (-128 - e)), -128, expUnf)
    else (at' sh, e, 0)

/-- A block: exponent, mantissas and the flags it carries (R121). -/
structure Block where
  exp : Int
  m : List Int
  flags : Nat
  deriving DecidableEq, Repr

/-- Mantissa `i` of a run of mantissas that begins at word `a`, two in a word, the even one low (R121). -/
def mantissaAt (rd : Nat → Nat) (a i : Nat) : Int :=
  signedOf 16 (bits (rd (a + i / 2)) (16 * (i % 2) + 15) (16 * (i % 2)))

/-- The words of vector memory at which a block of 64 mantissas stands: 32 of mantissas, one of the exponent. -/
def blockWords : Nat := 33

/-- A vector block read from word `a` of a memory whose words `rd` gives. Log 44 DESIGN CHOICE. -/
def blockRead (rd : Nat → Nat) (a : Nat) : Block :=
  let w := rd (a + 32)
  { exp := signedOf 8 (bits w 7 0), flags := bits w 12 8, m := (List.range 64).map (fun i => mantissaAt rd a i) }

/-- The words of a block that stands at word `a`. Log 44 DESIGN CHOICE. -/
def blockWordsOf (a : Nat) (b : Block) : List (Nat × Nat) :=
  let half := fun (i : Nat) => twos 16 (b.m.getD i 0)
  (List.range 32).map (fun i => (a + i, half (2 * i) + 65536 * half (2 * i + 1))) ++
    [(a + 32, numOf [(12, 8, b.flags), (7, 0, twos 8 b.exp)])]

/-- R123: an operand of exponent `e` as it enters an accumulator of exponent `eAcc`. -/
def enter (eAcc e m : Int) : Int :=
  let d := eAcc - e
  if d ≤ 15 then m * ((2 ^ (15 - d).toNat : Nat) : Int) else roundEven m (2 ^ (d - 15).toNat)

/-- R122: accumulators limited after one addition each, and whether one was. -/
def accAll (l : List Int) : List Int × Bool := ((l.map accLimit).map Prod.fst, (l.map accLimit).any Prod.snd)

/-- The accumulators of an elementwise stage and their exponent, by operation code: 0 add, 1 subtract, 2 multiply, 3
multiply-accumulate onto the destination, 4 min, 5 max, 6 absolute value of a, 7 select of b where a is negative, else of the
destination, 8 shift of a by b's exponent, 9 compare. Log 44 DESIGN CHOICE. -/
def vecAcc (op : Nat) (a b d : Block) : List Int × Int :=
  let n := List.range 64
  let at' := fun (x : Block) (i : Nat) => x.m.getD i 0
  let e := max a.exp b.exp
  let s := max b.exp d.exp
  let ea := fun i => enter e a.exp (at' a i)
  let eb := fun i => enter e b.exp (at' b i)
  match op with
  | 0 => (n.map (fun i => ea i + eb i), e)
  | 1 => (n.map (fun i => ea i - eb i), e)
  | 2 => (n.map (fun i => at' a i * at' b i), a.exp + b.exp)
  | 3 =>
    let ep := a.exp + b.exp
    let em := max ep d.exp
    let sh := fun (x : Int) => if em - ep ≤ 0 then x else roundEven x (2 ^ (em - ep).toNat)
    (n.map (fun i => sh (at' a i * at' b i) + enter em d.exp (at' d i)), em)
  | 4 => (n.map (fun i => min (ea i) (eb i)), e)
  | 5 => (n.map (fun i => max (ea i) (eb i)), e)
  | 6 => (n.map (fun i => ((enter a.exp a.exp (at' a i)).natAbs : Int)), a.exp)
  | 7 => (n.map (fun i => if at' a i < 0 then enter s b.exp (at' b i) else enter s d.exp (at' d i)), s)
  | 8 => (n.map (fun i => enter a.exp a.exp (at' a i)), a.exp + b.exp)
  | _ => (n.map (fun i => if ea i < eb i then 2 ^ 30 else 0), 0)

/-- R128: the flags that the input blocks of an elementwise stage carry. -/
def vecFlags (op : Nat) (a b d : Block) : Nat :=
  if op = 6 then a.flags else a.flags ||| b.flags ||| (if op = 3 ∨ op = 7 then d.flags else 0)

/-- The end of a stage: rounding, the draws of a stage that rounds stochastically, flags of the inputs carried along (R124,
R126, R128). `own` are the flags that the stage has set before. -/
def stageRound (acc : List Int) (eAcc : Int) (flags own : Nat) (sr : Bool) (lfsr : Nat) : Block × Nat × Nat :=
  let dr := if sr then lfsrDraws acc.length lfsr else ([], lfsr)
  let r := renorm acc eAcc dr.1
  ({ exp := r.2.1, m := r.1, flags := flags ||| own ||| r.2.2 }, dr.2, own ||| r.2.2)

/-- The end of a stage whose accumulators take one addition each. -/
def stageOut (acc : List Int) (eAcc : Int) (flags : Nat) (sr : Bool) (lfsr : Nat) : Block × Nat × Nat :=
  let x := accAll acc
  stageRound x.1 eAcc flags (if x.2 then accSat else 0) sr lfsr

/-- A vector elementwise stage. -/
def vecStage (op : Nat) (a b d : Block) (sr : Bool) (lfsr : Nat) : Block × Nat × Nat :=
  let x := vecAcc op a b d
  stageOut x.1 x.2 (vecFlags op a b d) sr lfsr

/-- R122: sequential accumulation with limits: the sum, and whether a partial sum was replaced. -/
def accSum (l : List Int) : Int × Bool :=
  l.foldl (fun x v => let y := accLimit (x.1 + v); (y.1, x.2 || y.2)) (0, false)

/-- A vector reduction across 64 lanes: 0 sum, 1 max, 2 min; the result stands in lane 0. Its output block has 64 elements, so a
stochastic reduction takes 64 draws. Log 44 DESIGN CHOICE. -/
def reduceStage (op : Nat) (a : Block) (sr : Bool) (lfsr : Nat) : Block × Nat × Nat :=
  let l := a.m.map (fun m => enter a.exp a.exp m)
  let s := accSum l
  let v := match op with
    | 0 => s.1
    | 1 => l.foldl max (l.headD 0)
    | _ => l.foldl min (l.headD 0)
  let x := accLimit v
  stageRound (x.1 :: List.replicate 63 0) a.exp a.flags (if x.2 || (op == 0 && s.2) then accSat else 0) sr lfsr

/-- R127: 33-point piecewise linear interpolation of values `a` × 2^`e`, taken as −1 to 1 over the table; outside it the nearest
end entry is used. The results stand exact, in units of 2^−k of the table's mantissas, with k the second field; the third says
that an index was clamped. Log 44 DESIGN CHOICE. -/
def interpAcc (l : List Int) (e : Int) (tab : Nat → Int) : List Int × Nat × Bool :=
  let k := (-e).toNat
  let d : Int := (2 ^ k : Nat)
  let v := fun (a : Int) => a * ((2 ^ e.toNat : Nat) : Int)
  let f := fun (a : Int) =>
    let p := (clampI (-d) d (v a) + d) * 16
    let i := min 31 (p / d).toNat
    let fr := p - d * (i : Int)
    tab i * (d - fr) + tab (i + 1) * fr
  (l.map f, k, l.any (fun a => decide (v a < -d ∨ d < v a)))

/-- A vector table interpolation; `tab` gives the 33 mantissas of exponent `te`. It rounds once, at its output (R124).
Log 44 DESIGN CHOICE. -/
def interpStage (a : Block) (tab : Nat → Int) (te : Int) (sr : Bool) (lfsr : Nat) : Block × Nat × Nat :=
  let x := interpAcc a.m (a.exp - 15) tab
  stageRound x.1 (te + 15 - (x.2.1 : Int)) a.flags (if x.2.2 then idxClamp else 0) sr lfsr

/-- A vector gather: lane i takes the table entry that its index names, the nearest end entry outside the 64 (R127). -/
def gatherStage (a : Block) (tab : Nat → Int) (te : Int) (lfsr : Nat) : Block × Nat × Nat :=
  let v := a.m.map (fun m => enter te te (tab (clampI 0 63 m).toNat))
  stageRound v te a.flags (if a.m.any (fun m => decide (m < 0 ∨ 63 < m)) then idxClamp else 0) false lfsr

/-! ### Array operations (R121, R122) -/

/-- Where a weight matrix of `n` mantissas stands: groups of 1,024 mantissas, each followed by an exponent word; what follows it. -/
def weightAt (rd : Nat → Nat) (wa i : Nat) : Int := mantissaAt rd (wa + 513 * (i / 1024)) (i % 1024)
def weightEnd (wa n : Nat) : Nat := wa + 513 * ceilDiv n 1024

/-- One array matrix operation as one stage (R122, R124): `b` vectors of `n` mantissas at `va`, `m` outputs each, the matrix at
`wa` row by row, the activation table behind it. Its outputs share one exponent. The answer: the mantissas, the exponent, the
flags of the output and those that the stage set. -/
def arrayStage (vm wm : Nat → Nat) (va wa m n b : Nat) (act : Bool) : List Int × Int × Nat × Nat :=
  let nb := ceilDiv n 64
  let blk := fun (j i : Nat) => blockRead vm (va + blockWords * (j * nb + i))
  let all := (List.range b).flatMap (fun j => (List.range nb).map (blk j))
  let ex := (all.map Block.exp).foldl max (-128)
  let x := fun (j i : Nat) => (blk j (i / 64)).m.getD (i % 64) 0
  let d := fun (j i : Nat) => 2 ^ (ex - (blk j (i / 64)).exp).toNat
  let we := signedOf 8 (bits (wm (wa + 512)) 7 0)
  let wfl := ((List.range (ceilDiv (m * n) 1024)).map (fun g => bits (wm (wa + 513 * g + 512)) 12 8)).foldl (· ||| ·) 0
  let rows := (List.range b).flatMap (fun j => (List.range m).map (fun o =>
    accSum ((List.range n).map (fun i => roundEven (weightAt wm wa (o * n + i) * x j i) (d j i)))))
  let sat := if rows.any Prod.snd then accSat else 0
  let tw := weightEnd wa (m * n)
  let r := if act then
      let y := interpAcc (rows.map Prod.fst) (ex + we - 30) (mantissaAt wm tw)
      stageRound y.1 (signedOf 8 (bits (wm (tw + 17)) 7 0) + 15 - (y.2.1 : Int)) 0 (sat ||| (if y.2.2 then idxClamp else 0)) false 0
    else stageRound (rows.map Prod.fst) (ex + we) 0 sat false 0
  (r.1.m, r.1.exp, (all.map Block.flags).foldl (· ||| ·) wfl ||| r.2.2, r.2.2)

/-! ### Scalar arithmetic (R127) -/

/-- Results of a scalar instruction by operation code, and whether a limit replaced one: 0 signed saturating add, 1
subtract, 2 multiply; 3 unsigned saturating add, 4 subtract, 5 multiply; 6 modular add, 7 modular subtract; 8 and, 9 or, 10
exclusive or; 11 shift left, 12 shift right, 13 arithmetic shift right; 14 signed compare less, 15 unsigned compare less, 16
compare equal; 17 signed min, 18 signed max, 19 unsigned min, 20 unsigned max; 21 the second operand. The full product of a
multiply is `mulWide`. Log 44 DESIGN CHOICE. -/
def scalarOp (op a b : Nat) : Nat × Bool :=
  let sa := signedOf 32 a
  let sb := signedOf 32 b
  let sat := fun (v : Int) => (twos 32 (clampI (-(2 ^ 31 : Nat)) ((2 ^ 31 : Nat) - 1) v),
    decide (v < -(2 ^ 31 : Nat) ∨ (2 ^ 31 : Nat) ≤ v))
  let usat := fun (v : Int) => (toUnsigned 32 v, decide (v < 0 ∨ (2 ^ 32 : Nat) ≤ v))
  match op with
  | 0 => sat (sa + sb)
  | 1 => sat (sa - sb)
  | 2 => sat (sa * sb)
  | 3 => usat ((a : Int) + b)
  | 4 => usat ((a : Int) - b)
  | 5 => usat ((a : Int) * b)
  | 6 => ((a + b) % 2 ^ 32, false)
  | 7 => (diff32 a b, false)
  | 8 => (a &&& b, false)
  | 9 => (a ||| b, false)
  | 10 => (a ^^^ b, false)
  | 11 => (a <<< (b % 32) % 2 ^ 32, false)
  | 12 => (a >>> (b % 32), false)
  | 13 => (twos 32 (sa / ((2 ^ (b % 32) : Nat) : Int)), false)
  | 14 => (if sa < sb then 1 else 0, false)
  | 15 => (if a < b then 1 else 0, false)
  | 16 => (if a = b then 1 else 0, false)
  | 17 => (twos 32 (min sa sb), false)
  | 18 => (twos 32 (max sa sb), false)
  | 19 => (min a b, false)
  | 20 => (max a b, false)
  | _ => (b % 2 ^ 32, false)

/-- The 64-bit product of two registers, as low and high word. -/
def wideProduct (sg : Bool) (a b : Nat) : Nat × Nat :=
  let v := if sg then twos 64 (signedOf 32 a * signedOf 32 b) else a * b % 2 ^ 64
  (v % 2 ^ 32, v / 2 ^ 32)

end Sys2Proof.Machine
end

