-- ==== Sys2Proof/Machine/Tasks.lean ====
section
/-! DEFINITION. Routines in progress (R107, R118, R119): which fields of O_k a routine has written, what an overrun gives back, and
what a completed routine adds. -/

namespace Sys2Proof.Machine

open Sys2Proof

/-! ### Field by field -/

/-- `p` where a field differs between two versions, else `q`. -/
def pick {α : Type} [DecidableEq α] (a b p q : α) : α := if a = b then q else p

/-- Each field of the estimator: of `p` where `a` and `b` differ in it, else of `q`. -/
def estPick (a b p q : EstOut) : EstOut :=
  { pEst := pick a.pEst b.pEst p.pEst q.pEst, pF := pick a.pF b.pF p.pF q.pF, pCtl := pick a.pCtl b.pCtl p.pCtl q.pCtl,
    zoneP := pick a.zoneP b.zoneP p.zoneP q.zoneP, zoneLeak := pick a.zoneLeak b.zoneLeak p.zoneLeak q.zoneLeak,
    zoneT := pick a.zoneT b.zoneT p.zoneT q.zoneT, zoneV := pick a.zoneV b.zoneV p.zoneV q.zoneV,
    untrusted := pick a.untrusted b.untrusted p.untrusted q.untrusted,
    unverified := pick a.unverified b.unverified p.unverified q.unverified,
    frozen := pick a.frozen b.frozen p.frozen q.frozen, disCount := pick a.disCount b.disCount p.disCount q.disCount,
    agreeCount := pick a.agreeCount b.agreeCount p.agreeCount q.agreeCount,
    attrClamp := pick a.attrClamp b.attrClamp p.attrClamp q.attrClamp,
    phiReinit := pick a.phiReinit b.phiReinit p.phiReinit q.phiReinit, ctxE := pick a.ctxE b.ctxE p.ctxE q.ctxE,
    eAttr := pick a.eAttr b.eAttr p.eAttr q.eAttr, updates := pick a.updates b.updates p.updates q.updates,
    raises := pick a.raises b.raises p.raises q.raises, warmup := pick a.warmup b.warmup p.warmup q.warmup,
    coldMaj := pick a.coldMaj b.coldMaj p.coldMaj q.coldMaj, tModMax := pick a.tModMax b.tModMax p.tModMax q.tModMax,
    sites := pick a.sites b.sites p.sites q.sites }

/-- Each field of the laws: of `p` where `a` and `b` differ in it, else of `q`. -/
def lawPick (a b p q : LawOut) : LawOut :=
  { loops := pick a.loops b.loops p.loops q.loops, region := pick a.region b.region p.region q.region,
    noMatch := pick a.noMatch b.noMatch p.noMatch q.noMatch,
    noRegion := pick a.noRegion b.noRegion p.noRegion q.noRegion, extra := pick a.extra b.extra p.extra q.extra,
    vppMax := pick a.vppMax b.vppMax p.vppMax q.vppMax, peak := pick a.peak b.peak p.peak q.peak,
    sptSkip := pick a.sptSkip b.sptSkip p.sptSkip q.sptSkip,
    sptSteps := pick a.sptSteps b.sptSteps p.sptSteps q.sptSteps, pos := pick a.pos b.pos p.pos q.pos,
    slewPct := pick a.slewPct b.slewPct p.slewPct q.slewPct,
    ffActive := pick a.ffActive b.ffActive p.ffActive q.ffActive,
    sptReady := pick a.sptReady b.sptReady p.sptReady q.sptReady,
    ttActive := pick a.ttActive b.ttActive p.ttActive q.ttActive,
    cueActive := pick a.cueActive b.cueActive p.cueActive q.cueActive, ssAny := pick a.ssAny b.ssAny p.ssAny q.ssAny,
    cueClamp := pick a.cueClamp b.cueClamp p.cueClamp q.cueClamp,
    cueReplace := pick a.cueReplace b.cueReplace p.cueReplace q.cueReplace,
    cueDrop := pick a.cueDrop b.cueDrop p.cueDrop q.cueDrop, cueBad := pick a.cueBad b.cueBad p.cueBad q.cueBad,
    cueExpire := pick a.cueExpire b.cueExpire p.cueExpire q.cueExpire,
    hintIgnored := pick a.hintIgnored b.hintIgnored p.hintIgnored q.hintIgnored,
    cueCtxLimit := pick a.cueCtxLimit b.cueCtxLimit p.cueCtxLimit q.cueCtxLimit,
    uSat := pick a.uSat b.uSat p.uSat q.uSat, duClip := pick a.duClip b.duClip p.duClip q.duClip }

/-- Each field of the caps: of `p` where `a` and `b` differ in it, else of `q`. -/
def capPick (a b p q : CapOut) : CapOut :=
  { y := pick a.y b.y p.y q.y, yPkg := pick a.yPkg b.yPkg p.yPkg q.yPkg, w1 := pick a.w1 b.w1 p.w1 q.w1,
    a := pick a.a b.a p.a q.a, baseSum := pick a.baseSum b.baseSum p.baseSum q.baseSum,
    bindKind := pick a.bindKind b.bindKind p.bindKind q.bindKind,
    bindSrc := pick a.bindSrc b.bindSrc p.bindSrc q.bindSrc, mode := pick a.mode b.mode p.mode q.mode,
    pref := pick a.pref b.pref p.pref q.pref, ffHeld := pick a.ffHeld b.ffHeld p.ffHeld q.ffHeld,
    matchShort := pick a.matchShort b.matchShort p.matchShort q.matchShort, susp := pick a.susp b.susp p.susp q.susp,
    pacing := pick a.pacing b.pacing p.pacing q.pacing, unatt := pick a.unatt b.unatt p.unatt q.unatt,
    esc := pick a.esc b.esc p.esc q.esc, opTarget := pick a.opTarget b.opTarget p.opTarget q.opTarget,
    t := pick a.t b.t p.t q.t, lkfx := pick a.lkfx b.lkfx p.lkfx q.lkfx, quota := pick a.quota b.quota p.quota q.quota,
    tag := pick a.tag b.tag p.tag q.tag, pace := pick a.pace b.pace p.pace q.pace,
    cuEntries := pick a.cuEntries b.cuEntries p.cuEntries q.cuEntries,
    supplyEscs := pick a.supplyEscs b.supplyEscs p.supplyEscs q.supplyEscs,
    fbCount := pick a.fbCount b.fbCount p.fbCount q.fbCount, shorts := pick a.shorts b.shorts p.shorts q.shorts,
    bindChanges := pick a.bindChanges b.bindChanges p.bindChanges q.bindChanges,
    escUp := pick a.escUp b.escUp p.escUp q.escUp }

/-- Each field of the thermal routine: of `p` where `a` and `b` differ in it, else of `q`. -/
def thermPick (a b p q : ThermOut) : ThermOut :=
  { state := pick a.state b.state p.state q.state, tTh := pick a.tTh b.tTh p.tTh q.tTh,
    tSite := pick a.tSite b.tSite p.tSite q.tSite, hot := pick a.hot b.hot p.hot q.hot,
    lth := pick a.lth b.lth p.lth q.lth, level := pick a.level b.level p.level q.level,
    host := pick a.host b.host p.host q.host, forced := pick a.forced b.forced p.forced q.forced,
    brokenHold := pick a.brokenHold b.brokenHold p.brokenHold q.brokenHold, used := pick a.used b.used p.used q.used,
    subst := pick a.subst b.subst p.subst q.subst }

/-- Each field of the ledger: of `p` where `a` and `b` differ in it, else of `q`. -/
def ledgerPick (a b p q : Ledger) : Ledger :=
  { a := pick a.a b.a p.a q.a, t := pick a.t b.t p.t q.t, h := pick a.h b.h p.h q.h,
    sent := pick a.sent b.sent p.sent q.sent, wait := pick a.wait b.wait p.wait q.wait,
    held := pick a.held b.held p.held q.held, since := pick a.since b.since p.since q.since,
    stay := pick a.stay b.stay p.stay q.stay, cap := pick a.cap b.cap p.cap q.cap, esc := pick a.esc b.esc p.esc q.esc,
    escUp := pick a.escUp b.escUp p.escUp q.escUp }

/-- Each field that a routine can write into O_k: of `p` where `a` and `b` differ in it, else of `q`. -/
def outPick (a b p q : CoreOut) : CoreOut :=
  { q with est := estPick a.est b.est p.est q.est, law := lawPick a.law b.law p.law q.law, cap := capPick a.cap b.cap p.cap q.cap,
           therm := thermPick a.therm b.therm p.therm q.therm, ledger := ledgerPick a.ledger b.ledger p.ledger q.ledger }

/-- A routine's own writes after one more act, which took O_k from `old` to `new`. -/
def ownWrites (old new own : CoreOut) : CoreOut := outPick old new new own

/-- R119: O_k after an overrun: every field that the routine wrote keeps the value that is being applied. -/
def outUndone (base own app out : CoreOut) : CoreOut := outPick base own app out

/-! ### What a routine tells of -/

def told0 : Told := ⟨0, 0, [], [], [], none⟩

/-- R128, R435: a completed routine's flags go to CORE_FLAGS and to its slot, and what it told of goes with O_k. -/
def outTold (slot : Nat) (t : Told) (o : CoreOut) : CoreOut :=
  { o with
    flags := o.flags ||| t.flags, slotFl := tset 0 slot (tget 0 slot o.slotFl ||| t.flags) o.slotFl,
    satStages := wrapAdd 32 o.satStages t.stages, reports := o.reports ++ t.reports, events := o.events ++ t.events,
    causes := o.causes ++ t.causes }

/-- No routine is in progress, and every thread idles. -/
def tasksClear (c : CoreSt) : CoreSt :=
  { c with tasks := [],
           mem := { c.mem with threads := tadj thread0 (fun _ t => { t with slot := none, pc := 0 }) c.mem.threads } }

end Sys2Proof.Machine
end

