-- ==== Sys2Proof/Machine/Program.lean ====
section
/-! DEFINITION. The Control Program: one instruction (R105 to R107, R116, R128), a routine, the worst-case
cycle count (R116), when a slot runs (R114), and FREEZE_MAX_EXPIRY (R130). -/

namespace Sys2Proof.Machine

open Sys2Proof

/-! ### The memories of a build (Table 4-1) -/

/-- Words of a core memory: 1 scalar data, 2 vector, 3 table, 4 weight. -/
def memWords (build mem : Nat) : Nat :=
  at' 0 (at' [] [[], [16384, 16384, 4096], [131072, 65536, 16384], [524288, 262144, 65536], [1048576, 262144, 0]] mem) build

/-- Program memory in instructions (Table 4-1). -/
def progSize (build : Nat) : Nat := if build = 2 then 8192 else 32768

/-- Rows and columns of the Model Array. -/
def arrayDim (build : Nat) : Nat := if build = 0 then 32 else 16

/-- A word of a memory of `n` words; a word beyond it is a free value. Log 121 DESIGN CHOICE. -/
def memGet (n fr : Nat) (t : Tab Nat) (a : Nat) : Nat := if a < n then tget 0 a t else
  (Config.freeWord (2 ^ 64 * (fr + 1) + a)).toNat
/-- A write beyond a memory's words has nowhere to go. Log 121 DESIGN CHOICE. -/
def memPut (n a v : Nat) (t : Tab Nat) : Tab Nat := if a < n then tset 0 a v t else t

/-! ### A routine at work -/

/-- What a routine works on: the image of its sample, core memory, and what it writes into O_k; the instructions that are left, its
own writes, what it tells of; which checker is watched (R341), as memory and region, and its checks so far. -/
structure Run where
  build : Nat
  im : Image
  mem : CoreMem
  out : CoreOut
  thread : Nat
  slot : Nat
  sr : Bool
  rest : List Todo
  own : CoreOut
  told : Told
  watch : Option (Nat × Nat)
  checks : Nat
  /-- Words that the routine has written, as trace node and value (Table 14-1), newest first; a list for each cycle. -/
  writes : List (List (Nat × Nat))
  deriving DecidableEq, Repr

/-- Words written in one cycle, noted for the trace (R371). -/
def wrote (l : List (Nat × Nat)) (r : Run) : Run := { r with writes := l :: r.writes }

/-- R108, R341: words read from a memory, as checks of the watched checker. Memories: 1 program, 2 scalar data, 3 vector, 4
table, 5 weight. -/
def readsOf (g : Nat) (l : List Nat) (r : Run) : Run :=
  match r.watch with
  | some (h, region) => if g = h then { r with checks := r.checks + (l.filter (fun a => a / 1024 = region)).length } else r
  | none => r

/-- A whole computation reads the memories that its thread reaches, at words that the manual does not give: one check each. -/
def readsAny (r : Run) : Run :=
  match r.watch with
  | some (h, _) =>
    if (at' [] [[2, 4], [2, 3, 4], [2, 3, 5]] r.thread).contains h then { r with checks := r.checks + 1 } else r
  | none => r

/-- Words of the memories as a routine reads them. -/
def vmemAt (r : Run) : Nat → Nat := memGet (memWords r.build 2) r.mem.free r.mem.vmem
def wmemAt (r : Run) : Nat → Nat := memGet (memWords r.build 4) r.mem.free r.mem.wmem
def tmemAt (r : Run) : Nat → Nat := memGet (memWords r.build 3) r.mem.free r.mem.tmem
def sdataAt (r : Run) : Nat → Nat := memGet (memWords r.build 1) r.mem.free r.mem.sdata

/-- The words of `n` blocks from `a` on. -/
def spanOf (a n : Nat) : List Nat := (List.range (n * blockWords)).map (· + a)

/-- Blocks written from word `vd` of vector memory on, one cycle each. -/
def putBlocks (vd : Nat) (l : List Block) (r : Run) : Run :=
  (l.zipIdx).foldl (fun x b =>
    let ws := blockWordsOf (vd + blockWords * b.2) b.1
    wrote (ws.map (fun w => (2 * 2 ^ 20 + w.1, w.2)))
      { x with mem := { x.mem with vmem := ws.foldl (fun t w => memPut (memWords x.build 2) w.1 w.2 t) x.mem.vmem } }) r

/-- R128: flags go to the routine; `stages` counts the stages that set one. -/
def setFlags (stages f : Nat) (r : Run) : Run :=
  let w := if f = 0 then [] else [[(6 * 2 ^ 20 + r.slot, r.told.flags ||| f)]]
  { r with writes := w ++ r.writes,
           told := { r.told with flags := r.told.flags ||| f, stages := r.told.stages + (if f = 0 then 0 else stages) } }

/-- R128, R172: the flags of the stages of a routine whose stages the manual does not list: free values. IDX_CLAMP follows from
the rules. Log 13 DESIGN CHOICE. -/
def openFlags (r : Run) : Run :=
  setFlags ((Config.freeWord (r.mem.free + 1)).toNat % 256 + 1) ((Config.freeWord r.mem.free).toNat % 16) r

/-- Scalar registers of the routine's thread, 32 of them (R105). -/
def reg (r : Run) (i : Nat) : Nat := tget 0 (i % 32) (tget thread0 r.thread r.mem.threads).regs
def putReg' (i v : Nat) (r : Run) : Run :=
  let ts := tmod thread0 r.thread (fun t => { t with regs := tset 0 (i % 32) v t.regs }) r.mem.threads
  wrote [(r.thread * 32 + i % 32, v)] { r with mem := { r.mem with threads := ts } }

/-- What an act tells of besides its fields: faults, events and causes. -/
def tell (fs es : List (Nat × Int)) (cs : List (Nat × Nat)) (r : Run) : Run :=
  { r with told := { r.told with reports := r.told.reports ++ fs, events := r.told.events ++ es, causes := r.told.causes ++ cs } }

/-- A stage's block written at `vd`, the stochastic register after it, and the flags it set (R126, R128). -/
def putStage (vd : Nat) (x : Block × Nat × Nat) (r : Run) : Run :=
  setFlags 1 x.2.2 (putBlocks vd [x.1] { r with mem := { r.mem with lfsr := x.2.1 } })

/-- The free values that one act may use. Log 13 DESIGN CHOICE. -/
def drawn (r : Run) : Run := { r with mem := { r.mem with free := r.mem.free + 8192 } }

/-- OUT_SAT where a conversion met a limit (R127). -/
def satFlag (b : Bool) : Nat := if b then outSat else 0

/-- The chapters' routines: estimation (05). The C_z of a routine in progress serves that routine alone (R140). -/
def actEst (p : Playbill) (a : CoreAct) (r : Run) : Run :=
  let m := p.model
  let e : EstMem := { r.mem.est with corr := r.told.corr.getD r.mem.est.corr }
  let o := r.out.est
  let fr := r.mem.free
  let put := fun (x : EstMem) (y : EstOut) =>
    { r with mem := { r.mem with est := { x with corr := r.mem.est.corr } }, out := { r.out with est := y } }
  match a with
  | .features => openFlags (drawn (put (estFeatures m r.im fr e) o))
  | .correction =>
    let c := estCorrect r.build m r.mem.wmem e
    setFlags 1 (satFlag (corrSat r.build m c)) { r with told := { r.told with corr := some c } }
  | .estimate =>
    let x := estPower m r.im p.agents r.out.therm.used r.out.therm.tTh fr e o
    let clamp := (zoneKeys m).any (fun z => leakClamped m (tget 0 z x.2.zoneT) ((zoneVolt m r.im fr z : Nat) : Int))
    setFlags 1 ((if clamp then idxClamp else 0) ||| satFlag (estSat m r.im p.agents x.1 x.2)) (drawn (put x.1 x.2))
  | .filter => let x := estFilter r.im e o; setFlags 1 (satFlag (filterSat x.1)) (put x.1 x.2)
  | .judge => let x := estJudge m r.im e o; 
    let clr := o.unverified && !x.2.unverified
    tell (if clr then [(0x4003, 0)] else []) [] (if clr then [(4, 0)] else []) (put x.1 x.2)
  | .adapt =>
    let x := estAdapt m r.im fr e o
    let y := drawn (put x.1 { o with phiReinit := wrapInc 8 x.2.2 o.phiReinit })
    let sr := r.sr && r.im.tel.isSome && adaptRuns m r.im e o
    let z : Run := if sr then { y with mem := { y.mem with lfsr := (lfsrDraws ((Config.freeWord fr).toNat % 65536) y.mem.lfsr).2 } } else y
    tell (if x.2.2 then [(0x4005, 0)] else []) [] [] (setFlags 1 (satFlag x.2.1) (openFlags z))
  | .pctl => setFlags 1 (satFlag (pctlSat r.im.cfg r.im.sel.untrusted r.im.sel.unverified o.pEst o.pF)) (put e (estPctl m r.im o))
  | .thermalPart k => if k = 0 then (let x := thmOpen m p.therm.sites r.im e o; put x.1 x.2) else r
  | .thermalTile i => openFlags (drawn (put (thmTile m p.therm.sites fr i e) o))
  | .thermalEnd => let x := thmFinish m p.therm.sites r.im e o; put x.1 x.2
  | .stage => put (estStage m r.im p.agents e) o
  | .commit =>
    let x := estCommit m r.im e o
    tell (if x.2.2 then [(0x4009, 0)] else []) [] [] (put x.1 x.2.1)
  | _ => r

/-- The chapters' routines: laws, caps, temperature and package (06, 07, 09, 10). -/
def actCtl (p : Playbill) (a : CoreAct) (r : Run) : Run :=
  let o := r.out
  let fr := r.mem.free
  let law := fun (x : LawMem × LawOut) => { r with mem := { r.mem with law := x.1 }, out := { o with law := x.2 } }
  let cap := fun (x : CapMem) (y : CapOut) => { r with mem := { r.mem with cap := x }, out := { o with cap := y } }
  match a with
  | .windows =>
    let x := capWindows p.law r.im o.est.pCtl (if r.im.isSM then some (pkgPower p r.im) else none) r.mem.cap o.cap
    setFlags 1 (satFlag (capSat p.law r.im x.1)) (cap x.1 x.2)
  | .region => law (regionStep p.law r.im o.therm.hot r.mem.law o.law)
  | .loops => openFlags <| drawn (law (loopsRun p r.im r.mem.est o.est o.cap o.therm.hot (regionTemp p.therm o.therm) fr r.mem.law o.law))
  | .cues => law (cueProcess r.im r.mem.law o.law)
  | .learn => law (learnRun p.law r.im o.est.pEst r.mem.law o.law)
  | .prePosition =>
    let x := prePosition p.law r.im p.cap.dieCeil o.est.pEst (opVolt p.law r.im.opV) r.im.guard fr r.mem.law o.law
    setFlags 1 (satFlag x.2.2) (openFlags (drawn (law (x.1, x.2.1))))
  | .allowance => let x := allowanceRun p r.im r.mem.law o.est r.mem.cap o.cap; tell [] x.2.2 [] (cap x.1 x.2.1)
  | .allocation =>
    let x := allocationRun p r.im r.mem.law o.est r.mem.cap o.cap
    tell x.2.2.1 x.2.2.2.1 x.2.2.2.2 (cap x.1 x.2.1)
  | .thermal =>
    let x := thermRoutine p.therm r.im r.mem.est o.est r.mem.therm o.therm
    { r with mem := { r.mem with therm := x.1 }, out := { o with therm := x.2 } }
  | .package => { r with out := { o with ledger := ledgerStep p r.im r.mem.law o.cap.yPkg o.ledger } }
  | _ => r

/-- One instruction that is no skip and no loop (Table 4-5). Log 11 DESIGN CHOICE. -/
def actOne (p : Playbill) (a : CoreAct) (r : Run) : Run :=
  let own := fun (x : Run) => { x with own := ownWrites r.out x.out r.own }
  match a with
  | .nothing => r
  | .scalar op rd ra rb =>
    let x := scalarOp op (reg r ra) (reg r rb)
    setFlags 0 (if x.2 then outSat else 0) (putReg' rd x.1 r)
  | .mulWide sg rd ra rb =>
    let x := wideProduct sg (reg r ra) (reg r rb)
    putReg' (rd + 1) x.2 (putReg' rd x.1 r)
  | .selectS rd rc ra rb => putReg' rd (if reg r rc ≠ 0 then reg r ra else reg r rb) r
  | .loadW rd ra off => readsOf 2 [reg r ra + off] (drawn (putReg' rd (sdataAt r (reg r ra + off)) r))
  | .storeW rs ra off =>
    wrote [(2 ^ 20 + reg r ra + off, reg r rs)]
      { r with mem := { r.mem with sdata := memPut (memWords r.build 1) (reg r ra + off) (reg r rs) r.mem.sdata } }
  | .tableW rd ra off => readsOf 4 [reg r ra + off] (drawn (putReg' rd (tmemAt r (reg r ra + off)) r))
  | .skipIf _ _ => r
  | .loopN _ _ => r
  | .vector op vd va vb sr =>
    let b := blockRead (vmemAt r)
    readsOf 3 (spanOf va 1 ++ spanOf vb 1) (drawn (putStage vd (vecStage op (b va) (b vb) (b vd) (sr && r.sr) r.mem.lfsr) r))
  | .reduceV op vd va sr =>
    readsOf 3 (spanOf va 1) (drawn (putStage vd (reduceStage op (blockRead (vmemAt r) va) (sr && r.sr) r.mem.lfsr) r))
  | .interpV vd tab va sr =>
    readsOf 4 ((List.range 18).map (· + tab)) (readsOf 3 (spanOf va 1)
      (drawn (putStage vd (interpStage (blockRead (vmemAt r) va) (mantissaAt (tmemAt r) tab)
        (signedOf 8 (bits (tmemAt r (tab + 17)) 7 0)) (sr && r.sr) r.mem.lfsr) r)))
  | .moveV vd va => readsOf 3 (spanOf va 1) (drawn (putBlocks vd [blockRead (vmemAt r) va] r))
  | .gatherV vd tab va =>
    readsOf 4 ((List.range 65).map (· + tab)) (readsOf 3 (spanOf va 1)
      (drawn (putStage vd (gatherStage (blockRead (vmemAt r) va) (fun i => signedOf 16 (bits (tmemAt r (tab + i)) 15 0))
        (signedOf 8 (bits (tmemAt r (tab + 64)) 7 0)) r.mem.lfsr) r)))
  | .arrayM vd va wa m n b act =>
    let x := arrayStage (vmemAt r) (wmemAt r) va wa m n b act
    let blocks := (List.range b).flatMap (fun j => (List.range (ceilDiv m 64)).map (fun i =>
      (⟨x.2.1, ((x.1.drop (m * j)).take m |>.drop (64 * i)).take 64, x.2.2.1⟩ : Block)))
    readsOf 5 ((List.range (weightEnd 0 (m * n) + (if act then 18 else 0))).map (· + wa))
      (readsOf 3 (spanOf va (b * ceilDiv n 64)) (drawn (setFlags 1 x.2.2.2 (putBlocks vd blocks r))))
  | .features => own (readsAny (actEst p a r))
  | .correction => own (readsAny (actEst p a r))
  | .estimate => own (readsAny (actEst p a r))
  | .filter => own (readsAny (actEst p a r))
  | .judge => own (readsAny (actEst p a r))
  | .adapt => own (readsAny (actEst p a r))
  | .pctl => own (readsAny (actEst p a r))
  | .thermalPart _ => own (readsAny (actEst p a r))
  | .thermalTile _ => own (readsAny (actEst p a r))
  | .thermalEnd => own (readsAny (actEst p a r))
  | .stage => own (readsAny (actEst p a r))
  | .commit => own (readsAny (actEst p a r))
  | .windows => own (readsAny (actCtl p a r))
  | .region => own (readsAny (actCtl p a r))
  | .loops => own (readsAny (actCtl p a r))
  | .cues => own (readsAny (actCtl p a r))
  | .learn => own (readsAny (actCtl p a r))
  | .prePosition => own (readsAny (actCtl p a r))
  | .allowance => own (readsAny (actCtl p a r))
  | .allocation => own (readsAny (actCtl p a r))
  | .thermal => own (readsAny (actCtl p a r))
  | .package => own (readsAny (actCtl p a r))

/-- A function applied `n` times. -/
def times {α : Type} (f : α → α) : Nat → α → α
  | 0, x => x
  | n + 1, x => times f n (f x)

/-- One instruction of a routine: straight line, forward skips and static loops (R116). A loop goes back to its start, with one
round less, until no round is left. A part of a thermal update goes tile by tile, so that an overrun may come between two (R152). -/
def runOne (p : Playbill) (r : Run) : Run :=
  match r.rest with
  | [] => r
  | x :: rest =>
    let r1 := readsOf 1 x.pc.toList { r with rest := rest }
    match x.insn.act with
    | .loopN 0 len => { r1 with rest := rest.drop len }
    | .loopN (c + 1) len => { r1 with rest := rest.take len ++ ⟨none, { x.insn with act := .loopN c len }⟩ :: rest }
    | .skipIf ra n => if reg r1 ra ≠ 0 then { r1 with rest := rest.drop n } else r1
    | .thermalPart k =>
      { actOne p (.thermalPart k) r1 with
        rest := (tilesOf p.model k).map (fun i => ⟨none, { x.insn with act := .thermalTile i }⟩) ++ rest }
    | a => actOne p a r1

/-- `n` instructions of a routine, or fewer where it ends before. -/
def runSome (p : Playbill) : Nat → Run → Run
  | 0, r => r
  | n + 1, r => if r.rest.isEmpty then r else runSome p n (runOne p r)

/-- More instructions than any routine that the loader accepts can issue: R117 bounds its cycles by BUDGET, below 16,384, and each
round of a loop returns once. -/
def runMax : Nat := 65536

/-- A routine as it starts: its instructions with their places in program memory. -/
def todoOf (entry : Nat) (l : List CoreInsn) : List Todo := l.zipIdx.map (fun x => ⟨some (entry + x.2), x.1⟩)

/-! ### The worst-case cycle count (R116) -/

/-- Table 4-1: the Model Array's tile load time and pipeline latency: Full 8 and 40 cycles, otherwise 4 and 24. -/
def arrayLoad (build : Nat) : Nat := if build = 0 then 8 else 4
def arrayPipe (build : Nat) : Nat := if build = 0 then 40 else 24

/-- A plain operation, whose class, operands and size follow from its act. -/
def isPlain : CoreAct → Bool
  | .nothing => true
  | .scalar _ _ _ _ => true
  | .mulWide _ _ _ _ => true
  | .selectS _ _ _ _ => true
  | .loadW _ _ _ => true
  | .storeW _ _ _ => true
  | .tableW _ _ _ => true
  | .skipIf _ _ => true
  | .loopN _ _ => true
  | .vector _ _ _ _ _ => true
  | .reduceV _ _ _ _ => true
  | .interpV _ _ _ _ => true
  | .moveV _ _ => true
  | .gatherV _ _ _ => true
  | .arrayM _ _ _ _ _ _ _ => true
  | _ => false

/-- Table 4-5: the class of an instruction. -/
def insnClass (i : CoreInsn) : InsnClass :=
  match i.act with
  | .nothing => .alu
  | .scalar op _ _ _ => if op = 2 ∨ op = 5 then .mul else .alu
  | .mulWide _ _ _ _ => .mul
  | .selectS _ _ _ _ => .alu
  | .loadW _ _ _ => .mem
  | .storeW _ _ _ => .mem
  | .tableW _ _ _ => .table
  | .skipIf _ _ => .skip
  | .loopN _ _ => .loop
  | .vector _ _ _ _ _ => .vec
  | .reduceV _ _ _ _ => .reduce
  | .interpV _ _ _ _ => .interp
  | .moveV _ _ => .vmem
  | .gatherV _ _ _ => .gather
  | .arrayM _ _ _ _ _ _ _ => .array
  | _ => i.cls

/-- The key of a block of vector memory beside the 32 registers. -/
def blockKeys (a n : Nat) : List Nat := (List.range n).map (fun i => 32 + a + blockWords * i)

/-- The operands that an instruction waits for: registers, and blocks by the word at which they begin. -/
def insnSrcs (i : CoreInsn) : List Nat :=
  match i.act with
  | .nothing => []
  | .scalar _ _ ra rb => [ra % 32, rb % 32]
  | .mulWide _ _ ra rb => [ra % 32, rb % 32]
  | .selectS _ rc ra rb => [rc % 32, ra % 32, rb % 32]
  | .loadW _ ra _ => [ra % 32]
  | .storeW rs ra _ => [rs % 32, ra % 32]
  | .tableW _ ra _ => [ra % 32]
  | .skipIf ra _ => [ra % 32]
  | .loopN _ _ => []
  | .vector op vd va vb _ => blockKeys va 1 ++ blockKeys vb 1 ++ (if op = 3 ∨ op = 7 then blockKeys vd 1 else [])
  | .reduceV _ _ va _ => blockKeys va 1
  | .interpV _ _ va _ => blockKeys va 1
  | .moveV _ va => blockKeys va 1
  | .gatherV _ _ va => blockKeys va 1
  | .arrayM _ va _ _ n b _ => blockKeys va (b * ceilDiv n 64)
  | _ => i.srcs

/-- What an instruction's result makes ready. -/
def insnDsts (i : CoreInsn) : List Nat :=
  match i.act with
  | .scalar _ rd _ _ => [rd % 32]
  | .mulWide _ rd _ _ => [rd % 32, (rd + 1) % 32]
  | .selectS rd _ _ _ => [rd % 32]
  | .loadW rd _ _ => [rd % 32]
  | .tableW rd _ _ => [rd % 32]
  | .vector _ vd _ _ _ => blockKeys vd 1
  | .reduceV _ vd _ _ => blockKeys vd 1
  | .interpV vd _ _ _ => blockKeys vd 1
  | .moveV vd _ => blockKeys vd 1
  | .gatherV vd _ _ => blockKeys vd 1
  | .arrayM vd _ _ m _ b _ => blockKeys vd (b * ceilDiv m 64)
  | a => if isPlain a then [] else i.dst.toList

/-- The tiles of an array operation, its batch, and whether it has an activation table (Table 4-5). -/
def insnArray (build : Nat) (i : CoreInsn) : Nat × Nat × Bool :=
  match i.act with
  | .arrayM _ _ _ m n b act => (ceilDiv m (arrayDim build) * ceilDiv n (arrayDim build), b, act)
  | _ => (i.tiles, i.batch, i.activation)

/-- Table 4-5: the issue interval and the result latency of an instruction. Log 101 DEDUCED. -/
def insnTiming (build : Nat) (i : CoreInsn) : Nat × Nat :=
  let x := insnArray build i
  let a := x.1 * max x.2.1 (arrayLoad build)
  match insnClass i with
  | .alu => (1, 1)
  | .mul => (1, 3)
  | .mem => (1, 2)
  | .table => (1, 4)
  | .skip => (1, 1)
  | .loop => (1, 1)
  | .vec => (1, 4)
  | .reduce => (1, 8)
  | .interp => (1, 6)
  | .vmem => (1, 4)
  | .gather => (1, 16)
  | .array => (a, a + arrayPipe build + (if x.2.2 then 6 else 0))

/-- The count so far: the earliest cycle of the next issue, when each result is ready, and the last completion. -/
structure Count where
  t : Nat
  ready : Tab Nat
  last : Nat
  deriving DecidableEq, Repr

/-- R116: one instruction issues when its operands are ready and the one before it has issued. -/
def countOne (build : Nat) (i : CoreInsn) (c : Count) : Count :=
  let at0 := (insnSrcs i).foldl (fun x r => max x (tget 0 r c.ready)) c.t
  let tm := insnTiming build i
  { t := at0 + tm.1, last := max c.last (at0 + tm.2),
    ready := (insnDsts i).foldl (fun t d => tset 0 d (at0 + tm.2) t) c.ready }

/-- No routine that fits a slot takes more cycles than BUDGET can hold (Table 4-3). Log 101 DEDUCED. -/
def countMax : Nat := 16384

/-- The count over a routine; skipped instructions count as executed, a loop's body counts as often as it runs. -/
def countList (build : Nat) : Nat → List CoreInsn → Count → Count
  | 0, _, c => c
  | _ + 1, [], c => c
  | f + 1, i :: rest, c =>
    if countMax ≤ c.t then c
    else
      let c1 := countOne build i c
      match i.act with
      | .loopN n len => countList build f (rest.drop len) (times (countList build f (rest.take len)) n c1)
      | _ => countList build f rest c1

/-- R116: W of a routine, as far as a slot can tell it. -/
def worstCase (build : Nat) (l : List CoreInsn) : Nat := min countMax (countList build (l.length + 1) l ⟨0, [], 0⟩).last

/-! ### The slots -/

/-- The slot's descriptor, where the slot table holds it. -/
def slotDesc (s : State) (i : Nat) : Option SlotDesc := tlook i s.pb.slots

/-- R114: the slot runs in the sample. -/
def slotPhase (d : SlotDesc) (k : Nat) : Bool := k % 2 ^ d.perLog2 == d.phase

/-- The Control Program runs in this sample (Table 4-10): what the edge that began the sample decided, from then on unless
the safe state or a stop of the clock ends it. The first sample of SETTLE and of a recovery runs under the hold outputs. -/
def programRuns (s : State) : Bool := clocked s && s.core.running && !s.start.testMode

/-- The thread of a slot. -/
def slotThread (s : State) (i : Nat) : Nat := ((slotDesc s i).map SlotDesc.thread).getD 0

/-- R116, R118: the predecessors of a slot that run in the sample have come to their end. -/
def predsDone (s : State) (d : SlotDesc) : Bool :=
  (d.predA.toList ++ d.predB.toList).all (fun j => match slotDesc s j with
    | some q => !slotPhase q s.core.im.k || s.core.ran.contains j
    | none => true)

/-- R107: a thread idles, or it runs this slot. -/
def threadFor (s : State) (i : Nat) : Bool :=
  match tlook (slotThread s i) s.core.tasks with
  | none => true
  | some t => t.slot == i

/-- R107, R109, R114: a slot that may start now, or that is in progress. -/
def slotReady (s : State) (i : Nat) : Bool :=
  programRuns s && !s.core.ran.contains i && threadFor s i &&
    (match slotDesc s i with
     | some d => slotPhase d s.core.im.k && predsDone s d
     | none => false)

/-- The checker that an injection names, as memory and region (R341). -/
def slotWatch (s : State) : Option (Nat × Nat) :=
  s.fault.inj.bind (fun j => if 1 ≤ j.checker / 4096 ∧ j.checker / 4096 ≤ 5 then some (j.checker / 4096, j.checker % 4096) else none)

/-- The routine of a slot as it starts, or where it stands. -/
def slotStart (s : State) (i : Nat) : Run :=
  let d := (slotDesc s i).getD slotDesc0
  let th := slotThread s i
  let new : Task := ⟨i, todoOf d.entry (tget [] i s.pb.code), s.core.out, s.core.out, told0⟩
  let t := (tlook th s.core.tasks).getD new
  { build := s.par.build, im := s.core.im, mem := s.core.mem, out := s.core.out, thread := th, slot := i, sr := s.pb.srEn,
    rest := t.rest, own := t.own, told := t.told, watch := slotWatch s, checks := 0, writes := [] }

/-- O_k as the routine of a slot found it. -/
def slotBase (s : State) (i : Nat) : CoreOut :=
  ((tlook (slotThread s i) s.core.tasks).map Task.base).getD s.core.out

/-- `n` instructions of a slot's routine, from its start or from where it stands; all of it where `n` is none.
Log 46 DESIGN CHOICE. -/
def slotRoutine (s : State) (i : Nat) (n : Option Nat) : Run := runSome s.pb (n.getD runMax) (slotStart s i)

/-- R341: `n` checks of the checker at which an injection is pending: how many it makes correctable, and whether one is not. -/
def injChecks (checker : Nat) : Nat → State → Nat × Bool × State
  | 0, s => (0, false, s)
  | n + 1, s =>
    let y := injCheck checker s
    let r := injChecks checker n y.2
    (r.1 + (if y.1 = 1 then 1 else 0), r.2.1 || y.1 == 2, r.2.2)

/-- What the memory checks of a piece of a routine find: the errors given with the command, and those that an injection causes at
the words that it reads (R108, R341): corrected ones by injection, whether one is uncorrectable by injection. -/
def slotEcc (r : Run) (s : State) : Nat × Bool × State :=
  match s.fault.inj with
  | none => (0, false, s)
  | some j => injChecks j.checker (min r.checks j.left) s

/-- R108: a corrected error is counted and recorded. -/
def eccFixed (inj : Bool) (s : State) : State :=
  reportInj inj 0x3001 0 { s with core := { s.core with eccCorr := wrapAdd 16 s.core.eccCorr 1 } }

/-- FREEZE_MAX_EXPIRY (R130): CORE_FREEZE.FREEZE_MAX samples of freeze have elapsed, so REQ self-clears. -/
def execFreezeMaxExpiry (s0 : State) : Host.Outcome State Fault Refusal :=
  let s := fresh s0
  if s.core.frozen && decide (max 1 (bits (areg s 0x301C) 15 0) ≤ s.core.frozenN) then
    done { s with core := { s.core with freezeReq := false } }
  else done s

end Sys2Proof.Machine
end

