-- ==== Sys2Proof/Machine/Telemetry.lean ====
section
/-! DEFINITION. The Fast Rail Interface and the activity unit: telemetry phases and samples (R142, R143, R405, R409), rail
frames (R404), AVSBus responses (R410) and activity records (R136). -/

namespace Sys2Proof.Machine

open Sys2Proof

/-- P in ns of a sample period encoding (Table 1-4). -/
def periodNs (pSel : Nat) : Nat := 250 * 2 ^ pSel

/-- T_tel in ticks (Table 5-3). -/
def telTicks (pSel : Nat) : Nat := if pSel ≤ 3 then 10 else if pSel = 4 then 12 else 16

/-- Measured rails that take part in telemetry, in ascending address: those that have replied (R408). -/
def telRails (s : State) : List Nat := s.pb.model.measured.filter (fun r => s.port.replied.contains r)

/-- R143: a rail's reported power from VOLT in 0.25 mV and CURR in 1/16 A, in 1/65,536 mW. -/
def railPower (volt curr : Nat) : Int := ((1024 * volt * curr : Nat) : Int)

/-- R143: P_meas in 1/65,536 mW over the measured rails. Log 47 DEDUCED. -/
def measuredPower (l : LawCfg) (ans : Tab (Nat × Nat)) : Int :=
  sumI (ans.map (fun a =>
    let c := tget railCfg0 a.1 l.rails
    c.gain * railPower a.2.1 a.2.2 / 65536 + 65536 * c.off))

/-- R143: the reported energy of the interval in 1/65,536 µJ; a rail that did not answer counts at its last reported power.
Log 47 DEDUCED. -/
def intervalEnergy (rails : List Nat) (ticks : Nat) (lastP : Tab Int) : Int :=
  sumI (rails.map (fun r => tget 0 r lastP)) * (ticks : Int) / 1000

/-- R143: the end of a telemetry sample, complete or not. Log 47 DEDUCED. -/
def telEnd (complete : Bool) (t : Nat) (s : State) : State :=
  let e := intervalEnergy s.pb.model.measured (telTicks s.time.pSel) s.tel.lastP
  { arrived srcTel s with tel := { s.tel with
      phase := none, answered := [],
      sample := some { up := t, complete := complete, pMeas := measuredPower s.pb.law s.tel.answered, eMeas := e },
      missing := wrapInc 16 (!complete) s.tel.missing,
      eMeas := (s.tel.eMeas + e.toNat) % 2 ^ 80 } }

/-- R405: bus time in ns that a phase takes from master frames: TEL_REQ, its slots, and the windows that remain free.
Log 57 DESIGN CHOICE. -/
def phaseNs (n : Nat) : Int := ((320 + 260 * n : Nat) : Int)

/-- R142, R405: at a telemetry tick the master sends TEL_REQ to every rail; a phase still open ends incomplete. -/
def telRequest (s : State) : State :=
  if s.pb.valid && images s && clocked s && decide (s.pb.model.measured ≠ []) &&
      s.time.count % telTicks s.time.pSel == 0 then
    let s0 := match s.tel.phase with
      | some t => telEnd false t s
      | none => s
    let s1 := friSend 2 63 0 s0
    { s1 with tel := { s1.tel with phase := some s1.time.up, answered := [] },
              port := { s1.port with friNs := s1.port.friNs - phaseNs (telRails s1).length } }
  else s

/-- R409: why a slot's frame counts as not answered: 0 it is good, 1 FRI_MISS, 2 FRI_CRC. -/
def frameBad (l : LawCfg) (rail frame : Nat) (sync : Bool) : Nat :=
  if !sync || bits frame 47 44 ≠ 0xB then 1
  else if crc8 7 ((leBytes 6 frame).reverse.take 5) ≠ bits frame 7 0 then 2
  else if bits frame 43 40 ≠ 0xB &&
      (bits frame 23 8 = 0xFFFF || decide (2 * (tget railCfg0 rail l.rails).maxV < bits frame 39 24)) then 1
  else 0

/-- RAIL_RESPONSE (R404, R409): a telemetry frame answers the open phase, a PING reply marks its rail. -/
def execRailResponse (rail frame : Nat) (sync : Bool) (s0 : State) : Host.Outcome State Fault Refusal :=
  let s := fresh s0
  let ty := bits frame 43 40
  let bad := frameBad s.pb.law rail frame sync
  if bad ≠ 0 then
    done { s with port := { s.port with friMiss := wrapInc 8 (bad == 1) s.port.friMiss,
                                        friCrc := wrapInc 8 (bad == 2) s.port.friCrc } }
  else if ty = 0xB then
    done { s with port := { s.port with replied := if s.port.replied.contains rail then s.port.replied else
                                          s.port.replied ++ [rail] } }
  else if (ty = 9 || ty = 0xA) && (telRails s).contains rail then
    match s.tel.phase with
    | none => done s
    | some t =>
      let ans := tins rail (bits frame 39 24, bits frame 23 8) s.tel.answered
      let s1 : State := { s with tel := { s.tel with
        answered := ans, lastP := tset 0 rail (railPower (bits frame 39 24) (bits frame 23 8)) s.tel.lastP } }
      done (if s.pb.model.measured.all (fun r => (tlook r ans).isSome) then telEnd true t s1 else s1)
  else done s

/-- TELEMETRY_TIMEOUT (R143): the open phase ends incomplete, 5 µs after its request. -/
def execTelemetryTimeout (s0 : State) : Host.Outcome State Fault Refusal :=
  let s := fresh s0
  match s.tel.phase with
  | none => done s
  | some t => done (telEnd false t s)

/-- Refill windows of a sample (Table 2-4). -/
def windowsOf (pSel : Nat) : Nat := ceilDiv (periodNs pSel) 32

/-- R136: whether a record names a window earlier than the last window of the sample before the one that has ended.
Log 50 DEDUCED. -/
def recordLate (k pSel sample window : Nat) : Bool :=
  let lag := (k + 4 - sample % 4) % 4
  decide (2 ≤ lag) || (decide (lag = 1) && decide (window + 1 < windowsOf pSel))

/-- ACTIVITY_RECORD (R136): a record is added to the totals of the next input image; one from a Booth that the agent map
does not hold, or with a reserved SLOT, is discarded. Log 50 DEDUCED. -/
def execActivityRecord (booth slot ctx sample window : Nat) (taps : List (Nat × Nat)) (s0 : State) :
    Host.Outcome State Fault Refusal :=
  let s := fresh s0
  let present := s.pb.agents.any (fun (a : Nat × AgentCfg) => a.1 / 64 == booth)
  let mine := s.pb.model.taps.filter (fun (t : Nat × TapCfg) => t.2.booth == booth)
  if !present || decide (4 < slot) then done s
  else
    let w := sumN ((mine.filter (fun t => s.pb.pkg.syncTaps.contains t.1)).map (fun t => tget 0 t.2.loc taps))
    done { s with pkg := { s.pkg with syncWait := s.pkg.syncWait + w }, tel := { s.tel with
      act := mine.foldl (fun a t => tset 0 t.1 (min 0xFFFFFF (tget 0 t.1 a + tget 0 t.2.loc taps)) a) s.tel.act,
      recs := s.tel.recs ++ [{ booth := booth, slot := slot, ctx := if slot = 4 then 0xFFF else ctx, taps := taps }],
      lateAct := wrapInc 8 (recordLate s.time.k s.time.pSel sample window) s.tel.lateAct } }

/-- AVS_RESPONSE (R410): an acknowledged frame confirms its target; a frame that fails is retried up to three times, and
after the third retry the target stands unconfirmed. -/
def execAvsResponse (rail : Nat) (ok : Bool) (s0 : State) : Host.Outcome State Fault Refusal :=
  let s := fresh s0
  match tlook rail s.port.avsQ with
  | none => done s
  | some mv =>
    if ok then
      done { s with port := { s.port with avsQ := terase rail s.port.avsQ, avsTry := terase rail s.port.avsTry,
                                          avsUnconf := s.port.avsUnconf.filter (· != rail) } }
    else if 3 ≤ tget 0 rail s.port.avsTry then
      done { s with port := { s.port with
        avsQ := terase rail s.port.avsQ, avsTry := terase rail s.port.avsTry,
        avsUnconf := if s.port.avsUnconf.contains rail then s.port.avsUnconf else s.port.avsUnconf ++ [rail],
        avsErr := wrapAdd 8 s.port.avsErr 1 } }
    else
      done { s with out := [.avs rail mv],
                    port := { s.port with avsTry := tmod 0 rail (· + 1) s.port.avsTry } }

end Sys2Proof.Machine
end

