-- ==== Sys2Proof/Machine/Time.lean ====
section
/-! DEFINITION. External time: the Rack Tick, holdover and count steps (R20 to R32, R448), the Operation Ordinal (R33 to
R38, R392) and the operating minute (R354). -/

namespace Sys2Proof.Machine

open Sys2Proof

/-! ### The tick -/

/-- R448: in holdover, until the generator locks, the generator's ticks alone advance the count. -/
def generatorCounts (t : TimeSt) : Bool := t.holdover && !t.locked

/-- R448: the block reacquires the Rack Tick in holdover until the generator locks, and before any tick has been
accepted. -/
def reacquiring (t : TimeSt) : Bool := generatorCounts t || !t.anyTick

/-- R20, R448: whether a pulse is accepted from its reference instant in ns. Log 20 DEDUCED. -/
def tickAccepted (t : TimeSt) (ref : Int) : Bool :=
  if reacquiring t then
    match t.lastAcc with
    | none => true
    | some a => decide (950 ≤ ref - a)
  else match t.lastRef with
    | none => true
    | some a => decide (950 ≤ ref - a ∧ ref - a ≤ 1050)

/-- R22: the phase and interval that lock demands of a tick. -/
def intervalOk (bclk : Nat) : Bool := decide (980 ≤ bclk ∧ bclk ≤ 1020)
def lockTick (bclk phase : Nat) : Bool := intervalOk bclk && decide (phase ≤ 4)

/-- R31: the multiple of 1,000 nearest to a count; a residue of 500 rounds up. -/
def nearestKilo (c : Nat) : Nat := (c + 500) / 1000 * 1000

/-- One tick interval passes: the monotonic base of the timers, and the operating minute (R354). -/
def tickUp (t : TimeSt) : TimeSt := { t with up := t.up + 1, opTicks := t.opTicks + 1 }

/-- R31: the count becomes `c`; unless the difference is 0, it is recorded and COUNT_STEP is raised. -/
def countStep (c : Nat) (s : State) : State :=
  let d : Int := (c : Int) - (s.time.count : Int)
  let s1 : State := { s with time := { s.time with count := c % 2 ^ 64 } }
  if d = 0 then s1 else raise 1 2 (report 0x1003 d s1)

/-- R22: the generator after an accepted tick: its run towards lock, its references and the state of BCLK. -/
def tickGen (ref : Int) (bclk phase : Nat) (t : TimeSt) : TimeSt :=
  let run := if lockTick bclk phase then min 16 (t.lockRun + 1) else 0
  { t with anyTick := true, lastAcc := some ref, lastRef := some ref, synthRun := 0, lockRun := run,
           locked := t.locked || decide (16 ≤ run), bclkBad := !intervalOk bclk }

/-- R20, R26, R448: the count at an accepted tick. During reacquisition the generator's ticks alone advance it; at the first
accepted tick it stands at 0. Log 19 DEDUCED. -/
def tickCount (ref : Int) (t : TimeSt) : TimeSt :=
  if generatorCounts t then t
  else if t.anyTick then { tickUp t with count := (t.count + 1) % 2 ^ 64, lastTick := some ref }
  else { tickUp t with lastTick := some ref }

/-- R30: holdover ends: the count is realigned or loaded, and the duration is recorded. -/
def holdoverLeave (c : Nat) (s : State) : State :=
  let dur := s.time.up - s.time.holdSince
  raise 1 0 (event 0xE001 (dur : Int) (countStep c
    { s with time := { s.time with holdover := false, epochRes := none } }))

/-- R26, R27, R30: an epoch marker with an accepted tick; `wasLocked` is the lock before the tick. While locked, a nonzero
residue is counted, whatever else the marker does. Log 20 DEDUCED. -/
def epochMark (wasLocked : Bool) (s : State) : State :=
  let t := s.time
  let r := t.count % 1000
  let bad := t.locked && r != 0
  let s1 : State := { s with time := { t with
    epochMis := wrapInc 8 bad t.epochMis, epochRes := if bad then some r else none } }
  match t.pendCount with
  | some c =>
    let s2 : State := { s1 with time := { s1.time with pendCount := none, countSet := true, epochRes := none } }
    if t.holdover && wasLocked then holdoverLeave c s2 else countStep c s2
  | none =>
    if t.holdover then (if wasLocked then holdoverLeave (nearestKilo t.count) s1 else s1)
    else if bad && t.epochRes == some r then
      countStep (nearestKilo t.count) { s1 with time := { s1.time with epochRes := none } }
    else s1

/-- R27: a marker that is expected and does not arrive is counted. -/
def epochNone (s : State) : State :=
  if s.time.locked && s.time.count % 1000 == 0 then
    { s with time := { s.time with epochMis := wrapAdd 8 s.time.epochMis 1 } }
  else s

/-- R390: AOCLK as counted over an accepted tick. AOCLK_BAD clears after 64 counts in range; the fourth count out of range
is the row AOCLK_OUT_OF_RANGE. -/
def aoclkCount (n : Nat) (s : State) : State :=
  let ok := decide (95 ≤ n ∧ n ≤ 105)
  let good := if ok then min 64 (s.port.aoGoodRun + 1) else 0
  { s with
    port := { s.port with aoPerTick := n, aoGoodRun := good, aoBadRun := if ok then 0 else min 4 (s.port.aoBadRun + 1) },
    start := { s.start with aoclkBad := s.start.aoclkBad && decide (good < 64) } }

/-- TICK (R20): a pulse that has passed the AOCLK filter; where `filtered` is false, an epoch marker without one, which is
ignored and counted. Log 19 DEDUCED, log 120 DEDUCED. -/
def execTick (refNs : Int) (epoch : Bool) (bclk phase aoclk : Nat) (s0 : State) (filtered : Bool := true) :
    Host.Outcome State Fault Refusal :=
  let s := fresh s0
  if !clocked s then done s
  else if !filtered then
    done { s with time := { s.time with epochMis := wrapInc 8 epoch s.time.epochMis } }
  else if !tickAccepted s.time refNs then
    done { s with time := { s.time with missed := wrapAdd 16 s.time.missed 1,
                                        epochMis := wrapInc 8 epoch s.time.epochMis } }
  else
    let was := s.time.locked
    let bad := !intervalOk bclk && !s.time.bclkBad && !s.core.bclkRange && s.time.anyTick
    let adv := !generatorCounts s.time
    let s1 : State := { s with time := tickGen refNs bclk phase (tickCount refNs s.time),
                               port := { s.port with bclkPerTick := bclk } }
    let s2 := reportIf bad 0x1001 0 (aoclkCount aoclk s1)
    let s3 := if epoch then epochMark was s2 else epochNone s2
    done (if adv then telRequest s3 else s3)

/-- R22, R448: lock and the run towards it are lost. -/
def lockLost (t : TimeSt) : TimeSt := { t with locked := false, lockRun := 0, epochRes := none }

/-- R28: holdover is entered at a tick. Log 20 DEDUCED. -/
def holdoverEnter (s : State) : State :=
  if s.time.holdover then s else
    raise 1 0 (report 0x1002 0 { s with time := { lockLost s.time with holdover := true, holdSince := s.time.up } })

/-- The tick whose generator instant is `ref` has the instant `at`: half a tick interval tells neighbours apart.
Log 19 DEDUCED. -/
def sameTick (ref : Int) : Option Int → Bool
  | none => false
  | some a => decide (ref < a + 500)

/-- R23: the fourth missing tick in a row: holdover, or, in a holdover that had locked again, the loss of that lock. -/
def missedFour (s : State) : State :=
  if s.time.holdover then { s with time := lockLost s.time } else holdoverEnter s

/-- TICK_WINDOW_CLOSE (R23, R448): the tick of the generator. A tick that the count has taken is not taken again: the arrival
wins. Otherwise the tick is synthesised, and at the fourth in a row holdover begins; during reacquisition, and where its own
pulse was accepted before the lock, it is the generator's tick and no miss. Log 19 DEDUCED. -/
def execTickWindowClose (refNs : Int) (s0 : State) : Host.Outcome State Fault Refusal :=
  let s := fresh s0
  if !clocked s || (!s.time.anyTick && !s.time.holdover) || sameTick refNs s.time.lastTick then done s
  else
    let t := tickUp s.time
    let came := sameTick refNs t.lastAcc
    let miss := !generatorCounts t && !came
    let s1 : State := { s with time := { t with
      count := (t.count + 1) % 2 ^ 64, lastTick := some refNs, lastRef := if came then t.lastRef else some refNs,
      missed := wrapInc 16 miss t.missed,
      synthRun := if miss then t.synthRun + 1 else t.synthRun,
      lockRun := if miss then 0 else t.lockRun } }
    done (telRequest (if miss && decide (4 ≤ s1.time.synthRun) then missedFour s1 else s1))

/-! ### The Operation Ordinal -/

/-- R33: the order of ordinals. -/
def ordinalAhead (o : OrdSt) (oo : Nat) : Bool :=
  !o.seen || (let d := (oo + 2 ^ 48 - o.last) % 2 ^ 48; decide (1 ≤ d ∧ d < 2 ^ 47))

/-- R35, R38: a step start at ordinal `oo`; its own sample is an active one of the step that ends. The second field says whether the step is locked after it and was not before.
Log 23 DEDUCED, log 119 DEDUCED. -/
def stepStart (oo : Nat) (o : OrdSt) : OrdSt × Bool :=
  match o.start with
  | none => ({ o with start := some oo, active := 0, expired := false }, false)
  | some s =>
    let l := (oo + 2 ^ 48 - s) % 2 ^ 48
    let fits := decide (l < 2 ^ 32 ∧ 0 < l)
    let lock := fits && decide (o.prevLen = some l)
    ({ o with start := some oo, prevLen := if fits then some l else none,
              lockLen := if lock then some l else none,
              timeout := o.timeout && !lock, ffOff := o.ffOff && !lock, expired := false,
              active := 0, activeLast := if lock then some (o.active + 1) else o.activeLast },
     lock && decide (o.lockLen ≠ some l))

/-- R34: the ordinals that an accepted beat advances. The first beat of all counts as one. Log 24 DESIGN CHOICE. -/
def beatAdvance (o : OrdSt) (oo : Nat) : Nat := if o.seen then (oo + 2 ^ 48 - o.last) % 2 ^ 48 else 1

/-- R33 to R35: the ordinal after an accepted beat. What a step start means for the tables of R187 and R189 is left to the
routines of the sample that latches it. -/
def beatTake (oo : Nat) (step : Bool) (scene ctx : Nat) (o : OrdSt) : OrdSt :=
  let o1 : OrdSt := { o with seen := true, last := oo, scene := scene, ctx := ctx, adv := o.adv + beatAdvance o oo,
                             beat := true }
  if step then
    let x := stepStart oo o1
    { x.1 with marks := o.marks ++ [⟨o.lockLen, x.1.lockLen, x.2⟩] }
  else o1

/-- ORDINAL_BEAT (R33, R35, R367, R369): a beat leaves the crossing queue. Log 24 DESIGN CHOICE. -/
def execOrdinalBeat (oo : Nat) (step : Bool) (scene ctx : Nat) (s0 : State) : Host.Outcome State Fault Refusal :=
  let s := fresh s0
  if !clocked s then done s
  else if !ordinalAhead s.ord oo then
    done (report 0x1004 (signedOf 32 (oo % 2 ^ 32))
      { s with time := { s.time with ordReject := wrapAdd 8 s.time.ordReject 1 } })
  else
    done { s with
      ord := beatTake oo step scene ctx s.ord,
      obs := { s.obs with
        ops := tmod 0 ctx (fun x => wrapAdd 48 x (beatAdvance s.ord oo)) s.obs.ops,
        lastCyc := s.obs.opCyc, lastStall := s.obs.opStall, lastTkt := s.obs.opTkt, lastOrd := s.obs.opOrd,
        opCyc := 0, opStall := 0, opTkt := 0, opOrd := oo, opReset := true } }

/-- TIME_CTRL.STEP_TIMEOUT in samples. -/
def stepLimit (s : State) : Nat := bits (areg s 0x1004) 15 0 * 1000000 / periodNs s.time.pSel

/-- R38: the active samples since the last step start exceed the smaller of the two figures; before any locked step, TIME_CTRL's
alone. It expires once for a step start. Log 119 DEDUCED. -/
def stepExpired (s : State) : Bool :=
  let lim := match s.ord.activeLast with
    | none => stepLimit s
    | some a => min (2 * a) (stepLimit s)
  s.ord.start.isSome && !s.ord.expired && decide (lim < s.ord.active)

/-- STEP_TIMEOUT (R38). Log 7 DESIGN CHOICE, log 119 DEDUCED. -/
def execStepTimeout (s0 : State) : Host.Outcome State Fault Refusal :=
  let s := fresh s0
  if stepExpired s && clocked s then
    done (raise 1 1 (report 0x1005 0 { s with ord := { s.ord with
      timeout := true, lockLen := none, expired := true, ffOff := true } }))
  else done s

/-- ORDINAL_QUEUE_FULL (R392): a beat that finds the crossing queue full. Log 24 DESIGN CHOICE. -/
def execOrdinalQueueFull (s0 : State) (oo : Nat := 0) : Host.Outcome State Fault Refusal :=
  let s := fresh s0
  done (report 0x1004 (signedOf 32 (oo % 2 ^ 32)) { s with time := { s.time with ordReject := wrapAdd 8 s.time.ordReject 1 } })

/-- OPMIN_ADVANCE (R354): 60,000,000 tick intervals have elapsed, or no tick has been accepted yet and the AOCLK interval
has. -/
def execOpminAdvance (s0 : State) : Host.Outcome State Fault Refusal :=
  let s := fresh s0
  if s.start.blkUp && (!s.time.anyTick || decide (60000000 ≤ s.time.opTicks)) then
    done { s with book := { s.book with opmin := wrapAdd 32 s.book.opmin 1 },
                  time := { s.time with opTicks := s.time.opTicks - 60000000 } }
  else done s

/-- AOCLK_OUT_OF_RANGE (R390): the fourth count in a row out of range. -/
def execAoclkOutOfRange (count : Nat) (s0 : State) : Host.Outcome State Fault Refusal :=
  let s := fresh s0
  let s1 := aoclkCount count s
  if (decide (count < 95) || decide (105 < count)) && decide (4 ≤ s1.port.aoBadRun) && !s.start.aoclkBad then
    done (report 0x1001 0 { s1 with start := { s1.start with aoclkBad := true } })
  else done s1

end Sys2Proof.Machine
end

