-- ==== Sys2Proof/Machine/Trust.lean ====
section
/-! DEFINITION. The estimator's transitions: trust (R148), plausibility and majorities (R157, R159), and the operations of
EST_CMD (R150, R160). A transition is a decision of the sample in progress: it is written to O_k, and its fault and its cause
follow at the edge that applies O_k (R110, R435). -/

namespace Sys2Proof.Machine

open Sys2Proof

/-- What the sample in progress tells at its edge. Log 41 DEDUCED. -/
def tellOut (fs : List (Nat × Int)) (cs : List (Nat × Nat)) (o : CoreOut) : CoreOut :=
  { o with reports := o.reports ++ fs, causes := o.causes ++ cs }

/-- O_k with other estimation fields. -/
def putEst (o : EstOut) (fs : List (Nat × Int)) (cs : List (Nat × Nat)) (s : State) : State :=
  { s with core := { s.core with out := tellOut fs cs { s.core.out with est := o } } }

/-- Decisions of the Control Program happen only in a sample in which it runs. Log 41 DEDUCED. -/
def decides (s : State) : Bool := programRuns s

/-- TRUST_LOST (R148): DIS_SAMPLES consecutive disagreeing samples while trusted. -/
def execTrustLost (s0 : State) : Host.Outcome State Fault Refusal :=
  let s := fresh s0
  let o := s.core.out.est
  if decides s && !o.untrusted && decide (bits (regIn s.core.im.cfg 0x4004) 10 0 ≤ o.disCount) then
    done (putEst { o with untrusted := true, agreeCount := 0 } [(0x4001, 0)] [(4, 0)] s)
  else done s

/-- TRUST_REGAINED (R148): AGREE_SAMPLES consecutive agreeing samples while untrusted. -/
def execTrustRegained (s0 : State) : Host.Outcome State Fault Refusal :=
  let s := fresh s0
  let o := s.core.out.est
  if decides s && o.untrusted && decide (bits (regIn s.core.im.cfg 0x4008) 31 16 ≤ o.agreeCount) then
    done (putEst { o with untrusted := false, disCount := 0 } [(0x4003, 0)] [(4, 0)] s)
  else done s

/-- UNVERIFIED (R148): eight consecutive incomplete telemetry samples. -/
def execUnverified (s0 : State) : Host.Outcome State Fault Refusal :=
  let s := fresh s0
  let o := s.core.out.est
  if decides s && !o.unverified && decide (8 ≤ s.core.mem.est.incRun) then
    done (putEst { o with unverified := true } [(0x4002, 0)] [(4, 0)] s)
  else done s

/-- R157: a count of the site has reached its limit. -/
def implausible (cfg : Tab Nat) (p : SitePlaus) : Bool :=
  decide (bits (regIn cfg 0x4084) 5 0 ≤ p.cold) || decide (bits (regIn cfg 0x4084) 15 8 ≤ p.hot)

/-- CAUSE.PLAUS of Table 9-1 in a site's cause bits. -/
def causePlaus : Nat := 16

/-- SITE_IMPLAUSIBLE (R157): the site is declared broken in O_k; its CAUSE, and the input image of the next sample, follow at the
edge that applies O_k (R110, R249). -/
def execSiteImplausible (site : Nat) (s0 : State) : Host.Outcome State Fault Refusal :=
  let s := fresh s0
  let e := s.core.mem.est
  let o := s.core.out.est
  let p := tget sitePlaus0 site e.plaus
  if decides s && !o.warmup && !o.coldMaj && !p.broken && (tlook site s.pb.therm.sites).isSome &&
      implausible s.core.im.cfg p then
    let q : SitePlaus := { p with broken := true, causeCold := decide (bits (regIn s.core.im.cfg 0x4084) 5 0 ≤ p.cold) }
    let s1 := putEst { o with sites := tset sitePlaus0 site q o.sites } [(0x4006, (site : Int))] [(4, 1), (7, 2)] s
    done { s1 with
      core := { s1.core with mem := { s1.core.mem with est := { e with plaus := tset sitePlaus0 site q e.plaus } } } }
  else done s

/-- R157, R249: the sites that the applied O declares broken have CAUSE.PLAUS. -/
def plausEdge (s : State) : State :=
  { s with therm := { s.therm with
    sites := s.core.app.est.sites.foldl (fun t (q : Nat × SitePlaus) =>
      if q.2.broken then tmod siteSt0 q.1 (fun x => { x with cause := x.cause ||| causePlaus }) t else t) s.therm.sites } }

/-- COLD_MAJORITY (R159): four consecutive cold-majority updates. -/
def execColdMajority (s0 : State) : Host.Outcome State Fault Refusal :=
  let s := fresh s0
  let o := s.core.out.est
  if decides s && !o.coldMaj && decide (4 ≤ s.core.mem.est.coldRun) then
    done (putEst { o with coldMaj := true } [(0x4007, 0)] [(4, 2)] s)
  else done s

/-- COLD_MAJORITY_CLEAR (R159): sixteen consecutive updates without a cold majority. -/
def execColdMajorityClear (s0 : State) : Host.Outcome State Fault Refusal :=
  let s := fresh s0
  let o := s.core.out.est
  if decides s && o.coldMaj && decide (16 ≤ s.core.mem.est.noColdRun) then
    done (putEst { o with coldMaj := false } [] [] s)
  else done s

/-- Every node of the thermal model. -/
def modelNodes (m : ModelCfg) : List Nat := m.tiles.flatMap (fun t => (List.range 64).map (· + t.base))

/-- HOT_MAJORITY_RAISE (R159): after four consecutive hot-majority updates every node is raised by the mean residual. -/
def execHotMajorityRaise (s0 : State) : Host.Outcome State Fault Refusal :=
  let s := fresh s0
  let e := s.core.mem.est
  let o := s.core.out.est
  if decides s && e.inited && decide (4 ≤ e.hotRun) then
    let cool := tadj sitePlaus0 (fun _ p => { p with hot := 0 })
    let e1 : EstMem := { e with
      hotRun := 0, plaus := cool e.plaus,
      nodes := tmodAll 0 (modelNodes s.pb.model) (fun _ x => x + 65536 * e.hotMean) e.nodes }
    let s1 := putEst { o with raises := wrapAdd 8 o.raises 1, sites := cool o.sites, tModMax := o.tModMax + e.hotMean }
      [(0x4008, e.hotMean)] [] s
    done { s1 with core := { s1.core with mem := { s1.core.mem with est := e1 } } }
  else done s

/-! ### EST_CMD -/

/-- A write of EST_CMD (Table 5-11): GO latches the operation and the site of THM_SITE_SEL, and clears DONE. -/
def writeEstCmd (w : Nat) (s : State) : State :=
  let s1 := putReg 0x4014 w s
  if w.testBit 31 then
    { s1 with core := { s1.core with estGo := some (bits w 3 0, bits (wreg s1 0x4088) 8 0), estDone := false } }
  else s1

/-- R150: RESET_ADAPT. -/
def adaptReset (s : State) : State :=
  let f := fun (o : CoreOut) => { o with est := { o.est with disCount := 0, agreeCount := 0 } }
  { s with core := { s.core with
    mem := { s.core.mem with est := { s.core.mem.est with theta := [], thetaNext := none, phi := [] } },
    out := f s.core.out, app := f s.core.app } }

/-- R160: READMIT_SITE. -/
def readmit (site : Nat) (s : State) : State :=
  let g := fun (p : SitePlaus) => { p with cold := 0, hot := 0, broken := false, causeCold := false }
  let f := fun (o : CoreOut) => { o with est := { o.est with sites := tmod sitePlaus0 site g o.est.sites } }
  { s with
    core := { s.core with
      mem := { s.core.mem with est := { s.core.mem.est with plaus := tmod sitePlaus0 site g s.core.mem.est.plaus } },
      out := f s.core.out, app := f s.core.app },
    therm := { s.therm with sites := tmod siteSt0 site (fun x => { x with cause := x.cause % causePlaus }) s.therm.sites } }

/-- The operation of EST_CMD at the edge of its sample: DONE, STATUS and the cause. Log 53 DESIGN CHOICE. -/
def estCmdEdge (s : State) : State :=
  match s.core.estGo with
  | none => s
  | some (op, site) =>
    let st := if op = 0 then 0 else if op = 1 then (if s.pb.model.measured = [] then 1 else 0)
      else if op = 2 then (if (tlook site s.pb.therm.sites).isSome then 0 else 2) else 3
    let s1 := if st ≠ 0 then s else if op = 1 then adaptReset s else if op = 2 then readmit site s else s
    raise 4 3 { s1 with core := { s1.core with estGo := none, estDone := true, estStatus := st } }

/-- RESET_ADAPT (R150): the write of EST_CMD with OP 1 and GO. It is carried out at the next sample edge. -/
def execResetAdapt (priv : Nat) (s : State) : Host.Outcome State Fault Refusal :=
  done (rpWrite priv 0x4014 (writeEstCmd (2 ^ 31 + 1)) (fresh s))

/-- READMIT_SITE (R160): the site is selected in THM_SITE_SEL, and EST_CMD is written with OP 2 and GO.
Log 53 DESIGN CHOICE. -/
def execReadmitSite (priv site : Nat) (s : State) : Host.Outcome State Fault Refusal :=
  done (rpWrite priv 0x4014 (fun x => writeEstCmd (2 ^ 31 + 2) (putReg 0x4088 site x)) (fresh s))

end Sys2Proof.Machine
end

