-- ==== Sys2Proof/Machine/Scenes.lean ====
section
/-! DEFINITION. Cues at the block's input (R193, R393) and their time limit (R196), Scene writes (R183), the settle hold
(R185), and what a sample edge does to the operating point, the rails, the clocks and the Scenes (R182, R184, R185, R191,
R406, R410). -/

namespace Sys2Proof.Machine

open Sys2Proof

/-! ### Rows -/

/-- The laws' published counters changed; where no sample runs the applied image carries them at once. -/
def bumpLaw (f : LawOut → LawOut) (s : State) : State :=
  let out : CoreOut := { s.core.out with law := f s.core.out.law }
  let app : CoreOut := if decides s then s.core.app else { s.core.app with law := f s.core.app.law }
  { s with core := { s.core with out := out, app := app } }

/-- R393: CUE_READY is high from the end of MEM_INIT on; before that nothing is accepted. -/
def execCue (ctx bits : Nat) (s0 : State) : Host.Outcome State Fault Refusal :=
  let s := fresh s0
  if !clocked s || !s.port.cueReady then done s
  else if holdOut s then done (bumpLaw (fun o => { o with cueBad := wrapAdd 8 o.cueBad 1 }) s)
  else if 8 ≤ s.law.cueBuf.length then done s
  else done { s with law := { s.law with cueBuf := s.law.cueBuf ++ [(ctx, bits)] } }

/-- CUE_EXPIRE (R196): MAX_US has passed since the Cue was accepted, and it did not come into view in this sample. The routine of
the next sample that runs removes it, unless it comes into view there. -/
def execCueExpire (index : Nat) (s0 : State) : Host.Outcome State Fault Refusal :=
  let s := fresh s0
  match s.core.mem.law.cues[index]? with
  | none => done s
  | some q =>
    if clocked s && decide (q.since + bits (areg s 0x5100) 9 0 ≤ s.time.up) && q.view != some s.core.im.k then
      done { s with law := { s.law with cueOld := (s.law.cueOld ++ [q.anchor]).eraseDups } }
    else done s

/-- SETTLE_HOLD_END (R185). Log 7 DESIGN CHOICE. -/
def execSettleHoldEnd (dom : Nat) (s0 : State) : Host.Outcome State Fault Refusal :=
  let s := fresh s0
  done { s with tk := { s.tk with settle := s.tk.settle.filter (· != dom) } }

/-- R181: an entry of two words is valid. -/
def sceneValid (w0 : Nat) : Bool := w0.testBit 31 && decide (bits w0 29 28 ≠ 3)

/-- The Scene table with the writes that wait for the next sample. -/
def scenePending (l : LawSt) : Tab Nat := l.sceneWr.foldl (fun t p => tset 0 p.1 p.2 t) l.scene

/-- R183: an entry that a write may not leave behind. -/
def sceneRefused (nOps w0 w1 : Nat) : Bool :=
  decide (256 < bits w1 31 24 + bits w1 23 16 + bits w1 15 8 + bits w1 7 0) || (sceneValid w0 && decide (nOps ≤ bits w0 27 22))

/-- A write of SCENE_DATA: applied at the next sample, or ignored with SCENE_CMD_ST set (R183). -/
def writeScene (w : Nat) (s : State) : State :=
  let sel := wreg s 0x50C0
  let e := 2 * bits sel 7 0
  let k := e + bits sel 8 8
  let t := tset 0 k w (scenePending s.law)
  let bad := sceneRefused s.pb.law.ops.length (tget 0 e t) (tget 0 (e + 1) t)
  { s with law := { s.law with sceneCmdSt := bad, sceneWr := if bad then s.law.sceneWr else s.law.sceneWr ++ [(k, w)] } }

/-- SCENE_DATA_WRITE (R183). -/
def execSceneDataWrite (priv : Nat) (data : Word) (s : State) : Host.Outcome State Fault Refusal :=
  done (rpWrite priv 0x50C4 (writeScene data.toNat) (fresh s))

/-- A write of SPT_DATA: the entry that SPT_SEL selects, at the next sample (Table 6-13). -/
def writeSpt (w : Nat) (s : State) : State :=
  { s with law := { s.law with sptWr := s.law.sptWr ++ [(bits (wreg s 0x5080) 15 0, bits w 15 0)] } }

/-! ### At a sample edge -/

/-- R182: the Scene that an edge latches. -/
def sceneWanted (s : State) : Nat := if s.ord.seen then s.ord.scene else 0

/-- R182, R183: Scene and Step Profile writes take effect. With an image in force the edge latches the Scene, Scene 0 in place of
an invalid one; an invalid Scene is counted when it becomes the latched one. -/
def sceneEdge (s : State) : State :=
  let t := scenePending s.law
  let w := sceneWanted s
  let bad := images s && !sceneValid (tget 0 (2 * w) t)
  let m := s.core.mem.law
  { s with
    law := { s.law with
      scene := t, sceneWr := [], sptWr := [],
      sceneLat := if images s then (if bad then 0 else w) else s.law.sceneLat, scenePrev := s.law.sceneLat,
      invalidLatched := if bad then some w else none,
      sceneInvalid := wrapInc 16 (bad && s.law.invalidLatched != some w) s.law.sceneInvalid },
    core := { s.core with mem := { s.core.mem with law :=
      { m with spt := s.law.sptWr.foldl (fun u p => tset m.fill p.1 p.2 u) m.spt } } } }

/-- R184: edges that the frequency waits for the slowest core rail; `rise` is each rail's own in 0.25 mV. Log 56 DEDUCED. -/
def railWait (c : LawCfg) (pNs : Nat) (rise : Nat → Nat) : Nat :=
  (c.rails.filter (fun r => r.2.core)).foldl (fun x r => max x (ceilDiv (1000 * rise r.1) (4 * max 1 r.2.slew * pNs))) 0

/-- R184: a change of the operating point decided for this edge, from the voltage and the frequency already applied. A
higher voltage is applied now and the frequency follows; a lower one follows the frequency by one edge. Log 56 DEDUCED. -/
def opChange (c : LawCfg) (pNs : Nat) (rise : Nat → Nat) (t : Nat) (l : LawSt) : LawSt :=
  let l1 : LawSt := { l with opTarget := t, opStep := none }
  if opVolt c t < opVolt c l.opV then
    { l1 with opF := t, opStep := some ⟨t, 1, false⟩ }
  else
    let d := if opFreq c l.opF < opFreq c t then railWait c pNs rise else 0
    if d = 0 then { l1 with opV := t, opF := t }
    else { l1 with opV := t, opStep := some ⟨t, d, true⟩ }

/-- R184: a pending step comes closer, and is taken at its edge. -/
def opAdvance (l : LawSt) : LawSt :=
  match l.opStep with
  | none => l
  | some p =>
    if 2 ≤ p.left then { l with opStep := some { p with left := p.left - 1 } }
    else if p.freq then { l with opF := p.op, opStep := none }
    else { l with opV := p.op, opStep := none }

/-- R191, R247: the target of a core rail at an operating point, limited to the rail's maximum, 0.25 mV. -/
def railTargetAt (s : State) (op r : Nat) : Nat :=
  (clampI 0 (tget railCfg0 r s.pb.law.rails).maxV
    ((opVolt s.pb.law op : Int) + s.margin.guard + (tget 0 r s.core.app.law.extra : Nat))).toNat

/-- The target of a core rail at the applied operating point. Log 56 DEDUCED. -/
def railTarget (s : State) (r : Nat) : Nat := railTargetAt s s.law.opV r

/-- R184: by how much a change of the operating point raises a rail above the target that has been applied. -/
def railRise (s : State) (op r : Nat) : Nat :=
  let v := railTargetAt s op r
  v - (tlook r s.law.railV).getD v

/-- The operating point at an edge; `target` is what O_k applies, where it applies anything. -/
def opEdge (target : Option Nat) (s : State) : State :=
  let l := match target with
    | none => opAdvance s.law
    | some t => if t = s.law.opTarget then opAdvance s.law
      else opChange s.pb.law (periodNs s.time.pSel) (railRise s t) t s.law
  { s with law := l }

/-- R406, R410: one core rail's target applied: a Fast Rail Interface target is queued, an AVSBus target is written in mV.
Log 57 DESIGN CHOICE. -/
def railApply (r : Nat) (s : State) : State :=
  let v := railTarget s r
  let c := tget railCfg0 r s.pb.law.rails
  if v = tget 0 r s.law.railV then s
  else
    let s1 : State := { s with law := { s.law with railV := tset 0 r v s.law.railV } }
    if c.iface = 0 then
      { s1 with port := { s1.port with
        friQ := tins r v s1.port.friQ,
        friCoalesce := wrapInc 16 (tlook r s1.port.friQ).isSome s1.port.friCoalesce } }
    else
      let mv := (roundEven (v : Int) 4).toNat
      { s1 with
        out := s1.out ++ [.avs r mv],
        port := { s1.port with avsQ := tins r mv s1.port.avsQ, avsTry := terase r s1.port.avsTry } }

/-- R191, R406: the rail targets of an edge. -/
def railEdge (s : State) : State :=
  ((s.pb.law.rails.filter (fun r => r.2.core)).map Prod.fst).foldl (fun x r => railApply r x) s

/-- R406: the next rail of the queue: core rails first, in ascending address. Log 57 DESIGN CHOICE. -/
def friNext (s : State) : Option (Nat × Nat) :=
  match s.port.friQ.find? (fun (p : Nat × Nat) => (tget railCfg0 p.1 s.pb.law.rails).core) with
  | some p => some p
  | none => s.port.friQ.head?

/-- Queued targets sent while bus time is left. -/
def friSends : Nat → State → State
  | 0, s => s
  | n + 1, s =>
    match friNext s with
    | none => { s with port := { s.port with friNs := min 0 s.port.friNs } }
    | some p =>
      if s.port.friNs < 340 then s
      else
        let s1 := friSend 1 p.1 p.2 s
        friSends n { s1 with port := { s1.port with
          friQ := terase p.1 s1.port.friQ, friSent := tset 0 p.1 p.2 s1.port.friSent, friNs := s1.port.friNs - 340 } }

/-- R403, R406: the frames of the sample that an edge ends, 340 ns each. Log 57 DESIGN CHOICE. -/
def friDrain (s : State) : State :=
  friSends 65 { s with port := { s.port with friNs := s.port.friNs + (periodNs s.time.pSel : Int) } }

/-- R180: the frequency of a clock domain at the applied operating point. -/
def clockTarget (s : State) (d : Nat) : Nat := (tlook d s.pb.law.fixed).getD (opFreq s.pb.law s.law.opF)

/-- R180, R185: one clock domain retargeted, with the hold of the current Scene's SETTLE. -/
def clockApply (settle : Bool) (d : Nat) (s : State) : State :=
  let f := clockTarget s d
  if f = clockOf s d then s
  else
    { s with
      out := s.out ++ [.load d f],
      law := { s.law with clock := tset s.par.safeFreq d f s.law.clock },
      tk := { s.tk with settle := if settle && !s.tk.settle.contains d then s.tk.settle ++ [d] else s.tk.settle } }

/-- The clock targets of an edge. -/
def clockEdge (s : State) : State :=
  let settle := decide (0 < bits (tget 0 (2 * s.law.sceneLat) s.law.scene) 7 0)
  (List.range 16).foldl (fun x d => clockApply settle d x) s

end Sys2Proof.Machine
end

