-- ==== Sys2Proof/Machine/CapRows.lean ====
section
/-! DEFINITION. Host caps and preferences (R208), the transitions of the performance mode and of Cap Unattainable (R218,
R222, R223) and the facility ramp (R224 to R227). -/

namespace Sys2Proof.Machine

open Sys2Proof

/-! ### Host writes -/

/-- R208: a host write was ignored. Log 60 DEDUCED. -/
def hostRefuse (s : State) : State :=
  raiseIf (!s.cap.hostRefused) 5 5 { s with cap := { s.cap with hostRefused := true } }

/-- R11, Table 7-10: HOST_CAP is withdrawn by all ones, and otherwise lies from 1,000 mW to DIE_CEIL. -/
def hostCapWord (dieCeil w : Nat) : Nat := if w = allOnes then w else clampN 1000 (max 1000 dieCeil) w

/-- A write of HOST_CAP. Log 60 DEDUCED. -/
def writeHostCap (w : Nat) (s : State) : State :=
  if s.cap.auth = 1 then putReg 0x6010 (hostCapWord s.pb.cap.dieCeil w) s else hostRefuse s

/-- HOST_CAP_WRITE (R208). -/
def execHostCapWrite (priv : Nat) (data : Word) (s : State) : Host.Outcome State Fault Refusal :=
  done (rpWrite priv 0x6010 (writeHostCap data.toNat) (fresh s))

/-- The preference fields of a HOST_PREF word, as they are held: a mode of 3 is 2, and an index beyond the operating point
table is its highest entry (Table 7-10). -/
def hostPrefWord (nOps w : Nat) : Nat :=
  numOf [bit 31 (w.testBit 31), (30, 29, min 2 (bits w 30 29)), (27, 22, min (nOps - 1) (bits w 27 22))]

/-- The three preference fields of a word. -/
def prefFields (w : Nat) : Nat := bits w 31 29 * 64 + bits w 27 22

/-- A write of HOST_PREF: under Autonomous authority the preferences stay, and HOST_REFUSED is set when they would differ;
a write that both clears and sets it leaves it set. Log 60 DEDUCED. -/
def writeHostPref (w : Nat) (s : State) : State :=
  if s.cap.auth = 1 then
    let s1 := putReg 0x6014 (hostPrefWord s.pb.law.ops.length w) s
    { s1 with cap := { s1.cap with hostRefused := s.cap.hostRefused && !w.testBit 0 } }
  else if prefFields w ≠ prefFields (wreg s 0x6014) then hostRefuse s
  else { s with cap := { s.cap with hostRefused := s.cap.hostRefused && !w.testBit 0 } }

/-- HOST_PREF_WRITE (R208). -/
def execHostPrefWrite (priv : Nat) (data : Word) (s : State) : Host.Outcome State Fault Refusal :=
  done (rpWrite priv 0x6014 (writeHostPref data.toNat) (fresh s))

/-! ### Transitions of a sample -/

/-- The caps' memory and outputs of the sample in progress. -/
def putCap (m : CapMem) (o : CapOut) (cs : List (Nat × Nat)) (s : State) : State :=
  { s with core := { s.core with
    mem := { s.core.mem with cap := m }, out := tellOut [] cs { s.core.out with cap := o } } }

/-- FF_FALLBACK (R218): the run of samples without FF_HELD has reached FF_FALLBACK. -/
def execFfFallback (s0 : State) : Host.Outcome State Fault Refusal :=
  let s := fresh s0
  let m := s.core.mem.cap
  let o := s.core.out.cap
  if decides s && !m.fallback && modeBase s.pb s.core.im == 1 &&
      decide (max 1 (bits (regIn s.core.im.cfg 0x601C) 31 16) ≤ m.fbRun) then
    done (putCap { m with fallback := true, retRun := 0, fbRun := 0 }
      { o with mode := 2, fbCount := wrapAdd 8 o.fbCount 1 } [(5, 2)] s)
  else done s

/-- FF_RETURN (R218). -/
def execFfReturn (s0 : State) : Host.Outcome State Fault Refusal :=
  let s := fresh s0
  let m := s.core.mem.cap
  if decides s && m.fallback && decide (max 1 (bits (regIn s.core.im.cfg 0x601C) 15 0) ≤ m.retRun) then
    done (putCap { m with fallback := false, fbRun := 0, retRun := 0 }
      { s.core.out.cap with mode := modeBase s.pb s.core.im } [] s)
  else done s

/-- CAP_UNATT_CLEAR (R222): 64 consecutive samples in which the allowance held the base sum with 2 % to spare. -/
def execCapUnattClear (s0 : State) : Host.Outcome State Fault Refusal :=
  let s := fresh s0
  let m := s.core.mem.cap
  if decides s && s.core.out.cap.unatt && decide (64 ≤ m.unattRun) then
    done (putCap { m with unattRun := 0 } { s.core.out.cap with unatt := false, esc := false } [] s)
  else done s

/-- The data of a Supply Escalation alert (Table 15-14). -/
def escData (scope : Nat) (y : Tab Nat) (l2 l3 : Nat) : List Nat :=
  scope :: leBytes 4 (tget 0 2 y) ++ leBytes 4 (tget 0 3 y) ++ leBytes 4 l2 ++ leBytes 4 l3

/-- R223: the alert of the die's escalation, and when it was sent. -/
def dieEscAlert (s : State) : State :=
  let lim := fun n => (effLimit s.core.im (dieCopies s.pb.cap s.core.im n)).1
  let s1 := alert 0x40 (escData 0 s.core.app.cap.y (lim 2) (lim 3)) s
  let f := fun (o : CoreOut) => { o with cap := { o.cap with escUp := s.time.up } }
  { s1 with core := { s1.core with app := f s1.core.app, out := f s1.core.out } }

/-- SUPPLY_ESC_REPEAT (R223): every 1,000 ticks while the condition lasts. -/
def execSupplyEscRepeat (s0 : State) : Host.Outcome State Fault Refusal :=
  let s := fresh s0
  if running s && s.core.app.cap.esc && decide (s.core.app.cap.escUp + 1000 ≤ s.time.up) then done (dieEscAlert s)
  else done s

/-! ### The facility ramp -/

/-- R225: the ramp value at a tick count. Log 59 DEDUCED. -/
def rampValue (r : Ramp) (t : Nat) : Nat :=
  if t < r.t0 then r.c0
  else
    let e := (t - r.t0) / 1000
    if r.d ≤ e then r.c1
    else ((r.c0 : Int) + Int.tdiv (((r.c1 : Int) - (r.c0 : Int)) * (e : Int)) (r.d : Int)).toNat

/-- R225: C0 where no ramp is in force: the management copy of the package W5 limit, or the design copy. -/
def rampBase (c : CapCfg) (x : CapSt) : Nat :=
  let m := tget allOnes 5 x.mPkg
  if m = allOnes then tget allOnes 5 c.pkg else m

/-- RAMP_STATE (Table 7-8). -/
def rampState (x : CapSt) (count : Nat) : Nat :=
  match x.ramp with
  | some r => if r.t0 + 1000 * r.d ≤ count then 3 else 2
  | none => if x.next.isEmpty then 0 else 1

/-- R227: the next ramp to take force at a tick count: of those whose t0 has come the one with the earliest t0, the later command
where two have the same; with the ramps commanded after it. -/
def rampDue (count : Nat) : List Ramp → Option (Ramp × List Ramp)
  | [] => none
  | r :: rest =>
    match rampDue count rest with
    | some b => if r.t0 ≤ count ∧ r.t0 < b.1.t0 then some (r, rest) else some b
    | none => if r.t0 ≤ count then some (r, rest) else none

/-- R225, R227: ramps take force at their own t0, each replacing what was commanded before it, at most `f` of them. C0 is the value
at t0 of the ramp in force, or the base. Log 59 DEDUCED. -/
def rampTake (c : CapCfg) (count : Nat) : Nat → CapSt → CapSt
  | 0, x => x
  | f + 1, x =>
    match rampDue count x.next with
    | none => x
    | some b =>
      let c0 := match x.ramp with
        | some r => rampValue r b.1.t0
        | none => rampBase c x
      rampTake c count f { x with ramp := some { b.1 with c0 := c0 }, next := b.2, val := none }

/-- R226, R227: the value at a tick count. A new ramp takes force at its own t0; the value never moves against the ramp's
direction. Log 59 DEDUCED. -/
def rampEval (c : CapCfg) (count : Nat) (x0 : CapSt) : CapSt :=
  let x := rampTake c count x0.next.length x0
  match x.ramp with
  | none => x
  | some r =>
    let v := rampValue r count
    let old := x.val.getD v
    { x with val := some (if r.c1 ≤ r.c0 then min old v else max old v), prev := x0.val }

/-- RAMP_STEP (R226): the value is evaluated at the tick count; a change is a ramp step. -/
def execRampStep (s0 : State) : Host.Outcome State Fault Refusal :=
  let s := fresh s0
  if !clocked s || !isLive s then done s
  else
    let x0 := rampEval s.pb.cap s.time.count s.cap
    let x : CapSt := if s.cap.rampStep then { x0 with prev := s.cap.prev } else x0
    let moved := decide (x.val ≠ s.cap.val)
    let s1 : State := { s with cap := { x with rampStep := s.cap.rampStep || moved, changed := s.cap.changed || moved } }
    let s2 := raiseIf (rampState x s.time.count != rampState s.cap (s.time.count - 1)) 5 4 s1
    done (if moved && s.time.holdover then event 0xE009 1 s2 else s2)

end Sys2Proof.Machine
end

