-- ==== Sys2Proof/Machine/Capture.lean ====
section
/-! DEFINITION. Trace capture (R371 to R374): sources of the buffers, entries, the queue of four, triggers of type 2. -/

namespace Sys2Proof.Machine

open Sys2Proof

/-- The armed sources of the buffers that capture in one of these modes, as (buffer, source, mode, node), in ascending
source order. -/
def trcSources (s : State) (modes : List Nat) : List (Nat × Nat × Nat × Nat) :=
  (List.range (trcBufs s)).flatMap (fun b =>
    let t := tget traceBuf0 b s.obs.bufs
    if t.state = 1 ∨ t.state = 2 then
      (List.range 16).filterMap (fun i =>
        let w := tget 0 i t.aSrcs
        if modes.contains (fieldOf w 25 24) then some (b, i, fieldOf w 25 24, fieldOf w 23 0) else none)
    else [])

/-- R374: whether a data entry of a source meets the trigger of type 2. -/
def trcMeets (t : TraceBuf) (src value : Nat) : Bool :=
  let v := signedOf 32 value
  let th := signedOf 32 t.aThresh.toNat
  fieldOf t.aTrig 31 29 == 2 && fieldOf t.aTrig 26 23 == src &&
    (match fieldOf t.aTrig 28 27 with
     | 0 => decide (th ≤ v)
     | 1 => decide (v ≤ th)
     | 2 => decide (v = th)
     | _ => decide (v ≠ th))

/-- R372, R373: one data entry, with the time entry and the lost entry that precede it. Log 100 DEDUCED. -/
def trcData (cycle k src value : Nat) (t : TraceBuf) : TraceBuf :=
  if t.state = 1 ∨ t.state = 2 then
    let t1 := trcStamp k t
    let t2 := if 0 < t1.lostRun then { trcPut (trcEntry 2 cycle k 0 t1.lostRun) t1 with lostRun := 0 } else t1
    { trcPut (trcEntry 0 cycle k src value) t2 with last := tset 0 src (BitVec.ofNat 32 value) t2.last }
  else t

/-- One capture of a buffer: the first four of a cycle are written, the others are lost (R373). `n` counts the captures of
the buffer so far in the cycle. Log 100 DEDUCED. -/
def trcOne (cycle : Nat) (n b src value : Nat) (s : State) : State :=
  let t := tget traceBuf0 b s.obs.bufs
  if 4 ≤ n then
    let u : TraceBuf := { t with lost := wrapAdd 16 t.lost 1, lostRun := t.lostRun + 1 }
    { s with obs := { s.obs with bufs := tset traceBuf0 b u s.obs.bufs } }
  else
    let s1 : State := { s with obs := { s.obs with bufs := tset traceBuf0 b (trcData cycle s.time.k src value t) s.obs.bufs } }
    if trcMeets t src value then trcFire 2 0 cycle [b] s1 else s1

/-- All captures of one cycle: `value` gives what a node holds, none where the node captures nothing. -/
def trcCapture (cycle : Nat) (modes : List Nat) (value : Nat → Option Nat) (s : State) : State :=
  ((trcSources s modes).foldl (fun (x : Tab Nat × State) q =>
    match value q.2.2.2 with
    | none => x
    | some v =>
      let n := tget 0 q.1 x.1
      if q.2.2.1 = 3 ∧ tlook q.2.1 (tget traceBuf0 q.1 x.2.obs.bufs).last = some (BitVec.ofNat 32 v) then x
      else (tset 0 q.1 (n + 1) x.1, trcOne cycle n q.1 q.2.1 v x.2)) (([], s) : Tab Nat × State)).2

/-- Node space 7: REASON and pool of an Agent (Table 14-1). -/
def trcAgent (s : State) (node : Nat) : Option Nat :=
  if node / 2 ^ 20 = 7 then
    let g := tget agent0 (node % 2 ^ 20) s.tk.agents
    some (numOf [(31, 28, g.tkReason), (23, 0, diff32 g.recv g.spent)])
  else none

end Sys2Proof.Machine
end

