-- ==== Sys2Proof/Machine/Fabric.lean ====
section
/-! DEFINITION. The operations that the ticket fabric's steps share: an Agent and its holders (R46, R47, R62), the counters
of R66 to R68, the messages of a channel (R44), bypass entry (R95) and Booth failure (R100). -/

namespace Sys2Proof.Machine

open Sys2Proof

/-! ### Agents and holders -/

def agentOf (s : State) (a : Nat) : Agent := tget agent0 a s.tk.agents
def agentMap (s : State) (a : Nat) : AgentCfg := tget agentCfg0 a s.pb.agents
/-- R42: the agent map names the Agent. -/
def agentHere (s : State) (a : Nat) : Bool := (tlook a s.pb.agents).isSome && s.start.blkUp
def putAgent (a : Nat) (g : Agent) (s : State) : State :=
  { s with tk := { s.tk with agents := tset agent0 a g s.tk.agents } }

def holderOf (g : Agent) (h : Nat) : Holder := tget holder0 h g.holders
def putHolder (h : Nat) (e : Holder) (g : Agent) : Agent := { g with holders := tset holder0 h e g.holders }

/-- R80: WAIT, RESERVING, DESCHED_SENT and RECLAIMED cleared, AGE back at 0. -/
def holderClear (e : Holder) : Holder :=
  { e with wait := false, reserving := false, descSent := false, reclaimed := false, reason := 0, w := 0 }

/-- R47: AGE of a wait of `w` host cycles. -/
def ageOf (w : Nat) : Nat := if w < 32 then 0 else min 15 (log2 w - 4)

/-- The order of R62: PRIO descending, AGE descending, holder index ascending. -/
def holderLe (a b : Nat × Holder) : Bool :=
  decide (b.2.prio < a.2.prio) || (decide (a.2.prio = b.2.prio) &&
    (decide (ageOf b.2.w < ageOf a.2.w) || (decide (ageOf a.2.w = ageOf b.2.w) && decide (a.1 ≤ b.1))))
def holderOrder (l : Tab Holder) : List (Nat × Holder) := sortBy holderLe l
def waitingOf (g : Agent) : Tab Holder := g.holders.filter (fun h => h.2.wait)

/-- Table 2-2: a holder entry as TKT_HOLDER_DATA shows it. -/
def holderWord (e : Holder) : Nat :=
  numOf [bit 47 e.wait, bit 46 e.reserving, bit 45 e.descSent, bit 44 e.reclaimed, (43, 40, e.prio), (39, 32, e.cls),
    (31, 8, e.cost), (7, 4, e.reason), (3, 0, if e.wait then ageOf e.w else 0)]

/-- R67: the tickets that an Agent may grant. -/
def poolOf (g : Agent) : Nat := diff32 g.recv g.spent

/-- The largest value of a derived quantity (R67). Log 39 DEDUCED. -/
def derivedMax : Nat := 2 ^ 24 - 1

/-- R68: the lifetime epochs of 4 µs, aligned to ticks that are multiples of 4. -/
def epochRoll (count : Nat) (g : Agent) : Agent :=
  let e := count / 4
  if e = g.epoch then g
  else if e = g.epoch + 1 then
    { g with epoch := e, epGrantOld := g.epGrant, epRetOld := g.epRet, epGrant := 0, epRet := 0 }
  else { g with epoch := e, epGrantOld := 0, epRetOld := 0, epGrant := 0, epRet := 0 }

/-- R68: the returnable amount. -/
def returnable (g : Agent) : Nat := g.epGrant + g.epGrantOld - (g.epRet + g.epRetOld)

/-! ### Instants -/

/-- The quarters of a tick from one edge or tick to the next. -/
def gridQ (t : TimeSt) : Nat := if t.pSel = 0 then 1 else if t.pSel = 1 then 2 else 4
/-- The first edge or tick that follows now, in quarters of a tick. Log 31 DEDUCED. -/
def nextQ (t : TimeSt) : Nat := max t.edgeQ (4 * t.up) + gridQ t

/-! ### Holds (R77) -/

/-- R102, R342: an Agent is under a hand hold. -/
def handHeld (s : State) (g : Agent) : Bool := g.handHold || s.fault.curtArm

/-- R235: a region's detected level is not 0, and its hold has not been lifted. -/
def droopHold (s : State) (b : Nat) : Bool :=
  let r := tget region0 b s.margin.regions
  decide (r.u ≠ 0) && !r.lifted

/-- The hold that acts on an Agent, in the order of R77: Curtain halt, hand hold, droop hold, Scene settle; 0 for none.
Log 25 DESIGN CHOICE. -/
def activeHold (s : State) (a : Nat) (g : Agent) : Nat :=
  if s.curt.tripped || s.curt.lockout then 13
  else if handHeld s g then 8
  else if droopHold s (a / 64) then 3
  else if s.tk.settle.contains (agentMap s a).clkDom then 11 else 0

/-- The fabric drives its hold outputs (Table 11-2). -/
def fabricHeld (s : State) : Bool := holdOut s || s.start.bclkAbsent

/-! ### Channels -/

/-- Channels by number: 0 Office to Booth, 1 Booth to Office, by Booth; 2 Booth to Agent, 3 Agent to Booth, by Agent.
Log 38 PRESUMED. -/
def chanKey (kind i : Nat) : Nat := kind * 4096 + i

/-- Log 38 PRESUMED. -/
def chanSend (kind i tks : Nat) (t : Tab Chan) : Tab Chan :=
  tmod chan0 (chanKey kind i) (fun c => { c with msgsSent := wrapAdd 32 c.msgsSent 1, tksSent := wrapAdd 32 c.tksSent tks }) t
/-- Log 38 PRESUMED. -/
def chanRecv (kind i tks : Nat) (t : Tab Chan) : Tab Chan :=
  tmod chan0 (chanKey kind i) (fun c => { c with msgsRecv := wrapAdd 32 c.msgsRecv 1, tksRecv := wrapAdd 32 c.tksRecv tks }) t

/-- The last message sent first: one more message at the end of a channel. -/
def chanPush {α : Type} [DecidableEq α] (i : Nat) (m : α) (t : Tab (List α)) : Tab (List α) :=
  tmod [] i (· ++ [m]) t

/-- R45: a message that arrives more than 32 cycles after its refill's boundary. -/
def lateMessage (late : Nat) (s : State) : State :=
  if 32 < late then report 0x2001 0 { s with tk := { s.tk with lateRefill := wrapAdd 8 s.tk.lateRefill 1 } } else s

/-! ### Bypass and failed Booths (R95, R100) -/

/-- R64: the open ceiling window of an Agent. -/
def openWindow (g : Agent) : WinRec := ⟨g.winRefill, g.winSample, g.winLump, g.winAll⟩

/-- R95, R96: an Agent that enters bypass. What it has granted under its last ceiling stands and is reported (R88). -/
def bypAgent (cause : Nat) (g : Agent) : Agent :=
  { g with byp := true, bypCause := cause, bypEntries := min 15 (g.bypEntries + 1), causesSeen := 2 ^ cause, bucket := 0,
           wdRun := false, closed := g.closed ++ [openWindow g], winLump := 0, winAll := 0 }

/-- R95: the entry's counts; an Agent already in bypass notes the cause alone. The second field says whether it entered. -/
def bypSet (a cause : Nat) (s : State) : State × Bool :=
  let g := agentOf s a
  if g.byp then (putAgent a { g with causesSeen := g.causesSeen ||| 2 ^ cause } s, false)
  else
    let s1 := putAgent a (bypAgent cause g) s
    ({ s1 with tk := { s1.tk with bypassEntries := wrapAdd 8 s1.tk.bypassEntries 1 } }, true)

/-- BYPASS_ENTRY (R95): class D fault 0x2005 with the Agent's number. -/
def bypEnter (inj : Bool) (a cause : Nat) (s : State) : State :=
  let r := bypSet a cause s
  if r.2 then raise 2 0 (reportInj inj 0x2005 (a : Int) r.1) else r.1

/-- BOOTH_FAILED (R100): the Booth is declared failed, and its Agents enter bypass with cause 4. A failed Booth stays so. -/
def boothFail (inj : Bool) (b : Nat) (s : State) : State :=
  if (tget booth0 b s.tk.booths).failed then s
  else
    let s1 : State := { s with tk := { s.tk with booths := tmod booth0 b (fun x => { x with failed := true }) s.tk.booths } }
    let mine := (s.pb.agents.filter (fun a => a.1 / 64 = b)).map Prod.fst
    let r := mine.foldl (fun (x : State × List Nat) a =>
      let y := bypSet a 4 x.1
      (y.1, if y.2 then x.2 ++ [a] else x.2)) (s1, [])
    let s2 := match r.2 with
      | [] => r.1
      | a :: _ => raise 2 0 (reportInj inj 0x2005 (a : Int) r.1)
    raise 2 1 (reportInj inj 0x2006 (b : Int) s2)

end Sys2Proof.Machine
end

