-- ==== Sys2Proof/Machine/Droop.lean ====
section
/-! DEFINITION. Droop detectors and the stretch reflex (R231 to R238), the droop-rate raise (R240), ageing monitors and the
margin trim (R241 to R243), the guard band at an edge (R239) and the margin record's store (R244, R246). -/

namespace Sys2Proof.Machine

open Sys2Proof

/-! ### The reference (R232), in 1/1,000 of 0.25 mV -/

/-- While the hold outputs are driven, a rail of SAFE_RAILS has SAFE_VOLT. -/
def vrefSafe (s : State) (rail : Nat) : Bool := holdOut s && s.par.safeRails.testBit rail

/-- V_ref of a rail `ns` after the last sample edge: it rises at RAIL_SLEW towards the applied target; a rail without an earlier
V_ref takes its first target at once. Log 62 DEDUCED. -/
def vrefAt (s : State) (rail ns : Nat) : Nat :=
  if vrefSafe s rail then 1000 * s.par.safeVolt
  else
    let t := 1000 * tget 0 rail s.law.railV
    match tlook rail s.margin.vref with
    | none => t
    | some v => if t ≤ v then t else min t (v + 4 * (tget railCfg0 rail s.pb.law.rails).slew * ns)

/-- V_ref carried to a sample edge, of every rail that has one. Log 62 DEDUCED. -/
def vrefEdge (pNs : Nat) (s : State) : State :=
  { s with margin := { s.margin with
    vref := (s.pb.law.rails.filter (fun r => vrefSafe s r.1 || (tlook r.1 s.law.railV).isSome)).map
      (fun r => (r.1, vrefAt s r.1 pNs)) } }

/-! ### Detectors and regions -/

/-- Detectors of a region that the sensor map names. -/
def regionDets (s : State) (r : Nat) : List Nat := (s.pb.dets.filter (fun d => d.2.region = r)).map Prod.fst

/-- R233: the level that a local supply in 0.25 mV gives a detector. -/
def detLevel (c : DetCfg) (vref supply : Nat) : Nat :=
  let below := fun (d : Nat) => decide (1000 * supply + 8000 * d < vref)
  if below c.d3 then 3 else if below c.d2 then 2 else if below c.d1 then 1 else 0

/-- R233: the highest level among a region's detectors that are not masked. -/
def highLevel (s : State) (r : Nat) : Nat :=
  (regionDets s r).foldl (fun x d =>
    let t := tget detSt0 d s.margin.dets
    if t.stuck then x else max x t.level) 0

/-- R233, R237: a region's level. -/
def regionLevel (x : Region) : Nat := if x.forced then max 1 x.drive else x.drive

/-- R232, R234: what the Stretch Port shows of a region: level 3 while the hold outputs are driven. -/
def stretchPort (s : State) (r : Nat) : Nat := if holdOut s then 3 else regionLevel (tget region0 r s.margin.regions)

def putRegion (r : Nat) (x : Region) (s : State) : State :=
  { s with margin := { s.margin with regions := tset region0 r x s.margin.regions } }

/-- R238: TRIPS of the detectors at level 1 or above that have not been counted in the running event. -/
def countTrips (r : Nat) (s : State) : State :=
  let x := tget region0 r s.margin.regions
  let new := (regionDets s r).filter (fun d =>
    let t := tget detSt0 d s.margin.dets
    decide (1 ≤ t.level) && !t.stuck && !x.hit.contains d)
  let ds := tmodAll detSt0 new (fun _ t => { t with trips := wrapAdd 16 t.trips 1 }) s.margin.dets
  putRegion r { x with hit := x.hit ++ new } { s with margin := { s.margin with dets := ds } }

/-- R233, R237, R238: a region after a change at one of its detectors: a rise takes effect at once, and a rise from 0 is a
droop event. -/
def regionRise (r : Nat) (s : State) : State :=
  let x := tget region0 r s.margin.regions
  let h := highLevel s r
  if h ≤ x.u then (if x.u = 0 then s else countTrips r s)
  else if x.u = 0 then
    let s1 := putRegion r { x with
      u := h, drive := max h x.drive, lifted := false, events := wrapAdd 16 x.events 1, hit := [] } s
    countTrips r { s1 with margin := { s1.margin with events := s1.margin.events + 1, window := s1.margin.window + 1 } }
  else countTrips r (putRegion r { x with u := h, drive := max h x.drive } s)

/-- DROOP_CROSSING (R234): a detector's local supply, in 0.25 mV, `ns` after the sample edge. -/
def execDroopCrossing (det supply ns : Nat) (s0 : State) : Host.Outcome State Fault Refusal :=
  let s := fresh s0
  match tlook det s.pb.dets with
  | none => done s
  | some c =>
    if !s.start.blkUp then done s
    else
      let l := detLevel c (vrefAt s c.rail ns) supply
      let ds := tmod detSt0 det (fun t => { t with level := l, supply := supply }) s.margin.dets
      done (regionRise c.region { s with margin := { s.margin with dets := ds } })

/-- R232, R236: at an edge that has lowered a rail's target, the level of each detector above 0 against the lower V_ref. The
region follows by its STRETCH_HOLD. Log 62 DEDUCED. -/
def droopEdge (s : State) : State :=
  let ds := tadj detSt0 (fun d t =>
    let c := tget detCfg0 d s.pb.dets
    { t with level := min t.level (detLevel c (vrefAt s c.rail 0) t.supply) }) s.margin.dets
  { s with margin := { s.margin with dets := ds } }

/-- One STRETCH_HOLD of a level above the highest level of the detectors. -/
def holdFall (h u : Nat) : Nat := if h < u then u - 1 else u

/-- STRETCH_HOLD_EXPIRY (R233): the region's level and its detected level fall by one towards the highest level of its
detectors. Log 62 DEDUCED. -/
def execStretchHoldExpiry (region : Nat) (s0 : State) : Host.Outcome State Fault Refusal :=
  let s := fresh s0
  let x := tget region0 region s.margin.regions
  let h := highLevel s region
  if h < x.u ∨ h < x.drive then
    let u := holdFall h x.u
    done (putRegion region { x with u := u, drive := holdFall h x.drive, hit := if u = 0 then [] else x.hit } s)
  else done s

/-- HOLD_MAX_EXPIRY (R237): the hold is lifted, and the detectors above level 0 are masked. The detected level is then 0; the
region's level falls to it by R233. Log 7 DESIGN CHOICE, log 62 DEDUCED. -/
def execHoldMaxExpiry (region : Nat) (s0 : State) : Host.Outcome State Fault Refusal :=
  let s := fresh s0
  let x := tget region0 region s.margin.regions
  if x.u = 0 ∨ x.lifted then done s
  else
    let high := (regionDets s region).filter (fun d => decide (0 < (tget detSt0 d s.margin.dets).level))
    let ds := tmodAll detSt0 high (fun _ t => { t with stuck := true }) s.margin.dets
    let s1 := putRegion region { x with u := 0, forced := true, lifted := true, hit := [] }
      { s with margin := { s.margin with dets := ds, holdLifts := wrapAdd 8 s.margin.holdLifts 1 } }
    done (raise 6 0 (report 0x6001 0 s1))

/-! ### The droop rate (R240) -/

/-- R240: V_dr and the two counts after a window with `n` events. The last field says that V_dr rose. -/
def rateStep (rate guard n : Nat) (m : MarginSt) : MarginSt × Bool :=
  let top := bits guard 31 24
  if bits rate 31 16 < n then
    if bits rate 15 8 ≤ m.highRun + 1 then
      let v := if m.vdr < top then min top (m.vdr + 10) else m.vdr
      ({ m with vdr := v, highRun := 0, lowRun := 0 }, decide (m.vdr < v))
    else ({ m with highRun := m.highRun + 1, lowRun := 0 }, false)
  else if n ≤ bits rate 31 16 / 4 then
    if bits rate 7 0 ≤ m.lowRun + 1 then ({ m with vdr := m.vdr - 5, lowRun := 0, highRun := 0 }, false)
    else ({ m with lowRun := m.lowRun + 1, highRun := 0 }, false)
  else ({ m with highRun := 0, lowRun := 0 }, false)

/-- `n` windows without an event (R31, R240). -/
def rateQuiet (rate guard : Nat) : Nat → MarginSt → MarginSt
  | 0, m => m
  | n + 1, m => rateQuiet rate guard n (rateStep rate guard 0 m).1

/-- RATE_WINDOW_END (R240): the window that a sample edge has closed is judged, and after it those that a count step has
skipped (R31); a raise is applied at the next edge. In holdover it is told as holdover-timed (R32). -/
def execRateWindowEnd (s0 : State) : Host.Outcome State Fault Refusal :=
  let s := fresh s0
  match s.margin.due with
  | none => done s
  | some n =>
    let r := rateStep (areg s 0x7004) (areg s 0x7008) n s.margin
    let m := rateQuiet (areg s 0x7004) (areg s 0x7008) s.margin.dueMore r.1
    let s1 : State := { s with margin := { m with
      due := none, dueMore := 0, winEvents := if 0 < s.margin.dueMore then 0 else min 65535 n,
      drRaises := wrapInc 8 r.2 m.drRaises, raisePend := m.raisePend || r.2 } }
    done (if s.time.holdover then event 0xE009 4 s1 else s1)

/-! ### Ageing monitors (R241, R242) -/

/-- R241: a read of a monitor of a region is valid. -/
def readValid (s : State) (region : Nat) : Bool :=
  decide (stretchPort s region = 0) && s.law.opStep.isNone && !holdOut s

/-- One monitor's read: its code and whether its parity holds. -/
def monRead (mon code : Nat) (ok : Bool) (s : State) : State :=
  match tlook mon s.pb.mons with
  | none => s
  | some region =>
    let i := injParity (0xA000 + mon) s
    let m := tget ageMon0 mon s.margin.mons
    let put := fun (x : AgeMon) (t : State) =>
      ({ t with margin := { t.margin with mons := tset ageMon0 mon x t.margin.mons } } : State)
    if m.failed then i.2
    else if !ok || i.1 then reportInj (ok && i.1) 0x6002 0 (put { m with failed := true } i.2)
    else if readValid s region then
      put { m with minCode := min m.minCode (min 15 code), lastCode := min 15 code, reads := m.reads + 1 } i.2
    else i.2

/-- AGEMON_READ (R241): the reads of one sample in 1,024: monitor, code and parity. -/
def execAgemonRead (codes : List (Nat × Nat × Bool)) (s0 : State) : Host.Outcome State Fault Refusal :=
  let s := fresh s0
  if !s.margin.readDue then done s
  else done (codes.foldl (fun x c => monRead c.1 c.2.1 c.2.2 x) { s with margin := { s.margin with readDue := false } })

/-- A write of AGEMON_DATA: EXCLUDE of the monitor that AGEMON_SEL selects, for the next trim instant. Log 63 DEDUCED. -/
def writeAgemon (w : Nat) (s : State) : State :=
  let i := bits (wreg s 0x7048) 7 0
  { s with margin := { s.margin with mons := tmod ageMon0 i (fun m => { m with exclNext := w.testBit 31 }) s.margin.mons } }

/-- The monitors that take part in trim. Log 63 DEDUCED. -/
def trimMons (s : State) (ms : Tab AgeMon) : List AgeMon :=
  (s.pb.mons.map (fun p => tget ageMon0 p.1 ms)).filter (fun m => !m.failed && !m.excluded)

/-- R242: a trim instant from the least code of the interval. -/
def trimStep (target sCode opmin : Nat) (m : MarginSt) : MarginSt :=
  let m1 : MarginSt := { m with lastS := sCode }
  if sCode < target then
    { m1 with trim := min 32 (m.trim + ((target - sCode : Nat) : Int)), upSteps := wrapAdd 8 m.upSteps 1 }
  else if target + 1 < sCode ∧ 720 ≤ diff32 opmin m.lastDown then
    { m1 with trim := max (-24) (m.trim - 1), lastDown := opmin, downSteps := wrapAdd 8 m.downSteps 1 }
  else m1

/-- TRIM_INSTANT (R242). The guard band follows at the next edge; a change is told to the Prompt Book, and an instant in
holdover is told as holdover-timed (R32). The instants that a count step has skipped follow at once, in their order (R31): no
monitor has a valid read in them. Log 63 DEDUCED. -/
def execTrimInstant (s0 : State) : Host.Outcome State Fault Refusal :=
  let s := fresh s0
  if s.margin.trimDue = 0 then done s
  else
    let ms := tadj ageMon0 (fun _ m => { m with excluded := m.exclNext }) s.margin.mons
    let inc := trimMons s ms
    let s1 : State := { s with margin := { s.margin with
      mons := ms, trimDue := 0, skipped := wrapAdd 8 s.margin.skipped (s.margin.trimDue - 1) } }
    let s2 := if s.time.holdover then event 0xE009 3 s1 else s1
    if !(areg s 0x7040).testBit 31 || decide (sumN (inc.map AgeMon.reads) < 64) then
      done { s2 with margin := { s2.margin with skipped := wrapAdd 8 s2.margin.skipped 1 } }
    else
      let low := (inc.map AgeMon.minCode).foldl min 15
      let m := trimStep (bits (areg s 0x7040) 30 27) low s.book.opmin s2.margin
      let clean := tadj ageMon0 (fun _ x => { x with minCode := 15, reads := 0 }) m.mons
      let s3 : State := { s2 with margin := { m with mons := clean } }
      done (if m.trim ≠ s.margin.trim then event 0xE00A m.trim s3 else s3)

/-- R239, R240: the guard band at an edge: a raise of V_dr is applied and its cause set. -/
def marginEdge (s : State) : State :=
  let m := s.margin
  raiseIf m.raisePend 6 1 { s with margin := { m with
    vdrApplied := m.vdr, raisePend := false, guard := (m.base : Int) + 5 * m.trim + (m.vdr : Int) } }

/-- R31: the multiples of `n` that an edge with sample number `k` meets for the first time: its own, and those that a forward
count step has skipped; after a backward step, none that has been met. -/
def newMultiples (n k : Nat) : Option Nat → Nat
  | none => if k % n = 0 then 1 else 0
  | some m => if m = 2 ^ 64 - 1 ∧ k = 0 then 1 else k / n - m / n

/-- R240 to R242: the instants that an edge begins, by its sample number. Log 63 DEDUCED. -/
def marginDue (k : Nat) (s : State) : State :=
  let m := s.margin
  let w := newMultiples 1024 k m.met
  { s with margin := { m with
    events := 0, due := if 0 < w then some m.window else m.due, dueMore := if 0 < w then w - 1 else m.dueMore,
    window := if 0 < w then 0 else m.window, readDue := m.readDue || decide (0 < w),
    trimDue := m.trimDue + newMultiples (2 ^ 20) k m.met,
    met := match m.met with
      | none => some k
      | some x => some (if x = 2 ^ 64 - 1 ∧ k = 0 then 0 else max x k) } }

/-! ### The margin record (R244, R246) -/

/-- Words 0 to 14 of the record as they stand, and its CRC. -/
def marginRecord (s : State) : List Nat :=
  let w := [0x4B4D5247, 0x00010040, s.pb.partId % 2 ^ 32, s.pb.partId / 2 ^ 32 % 2 ^ 32, twos 8 s.margin.trim * 2 ^ 24,
    s.book.opmin, s.margin.lastDown, s.book.pcc, (s.margin.stores + 1) % 2 ^ 32] ++ List.replicate 6 0
  w ++ [crc32c (bytesOfWords w)]

/-- R246: a store starts with its captured record; while one runs, a STORE completes with status 1. Without an image in force no
sector is named, and the store ends as one whose flash fails. Log 93 DESIGN CHOICE. -/
def marginStore (s : State) : State :=
  if !s.margin.done then { s with margin := { s.margin with status := 1 } }
  else if !s.pb.valid then report 0x6004 0 { s with margin := { s.margin with status := 3 } }
  else { s with margin := { s.margin with storing := some (marginRecord s), done := false } }

/-- A write of MARGIN_CMD. -/
def writeMarginCmd (w : Nat) (s : State) : State := if w.testBit 31 then marginStore s else s

/-- STORE (R246). -/
def execStore (priv : Nat) (s : State) : Host.Outcome State Fault Refusal :=
  done (rpWrite priv 0x7060 (writeMarginCmd (2 ^ 31)) (fresh s))

/-- R246: the store's read-back, compared with the captured record; the book store of an orderly shutdown follows. -/
def marginEnd (error : Bool) (back rec : List Nat) (s : State) : State :=
  let st := if error then 3 else if back = rec then 0 else 2
  let s1 : State := { s with
    flash := flashWrite s.pb.marginOffset 4096 back s.flash,
    margin := { s.margin with storing := none, done := true, status := st,
                              stores := if st = 0 then (s.margin.stores + 1) % 2 ^ 32 else s.margin.stores } }
  bookBegin (raise 6 2 (reportIf (st != 0) 0x6004 0 s1))

/-- R246: a store torn by a loss of power, PORST_N or a Curtain trip leaves the sector erased; R245 rejects it.
Log 64 DEDUCED. -/
def marginTorn (s : State) : State :=
  match s.margin.storing with
  | none => s
  | some _ => { s with flash := flashWrite s.pb.marginOffset 4096 [] s.flash,
                       margin := { s.margin with storing := none, done := true } }

end Sys2Proof.Machine
end

