-- ==== Sys2Proof/Machine/Grants.lean ====
section
/-! DEFINITION. What happens at an Agent: requests and returns (R48 to R51, R68, R69, R86), the grant decision, its lease
and its counters (R53 to R56, R62 to R65, R77, R94, R96, R364, R367, R369), hints and expiries (R63, R70, R91), the owner
engine's reset (R92 to R94) and the GIVE watchdog (R95). -/

namespace Sys2Proof.Machine

open Sys2Proof

/-! ### Requests -/

/-- R50: the resolved cost of a request of a class, and whether a supplied cost is oversize. -/
def resolveCost (cost : Tab Nat) (cls supplied : Nat) : Nat × Bool :=
  let c := bits (tget 0 (2 * cls) cost) 23 0
  if (tget 0 (2 * cls + 1) cost).testBit 8 then (supplied, decide (c < supplied)) else (c, false)

/-- R48: an accepted request's entry. A replacement keeps its wait time, RESERVING and DESCHED_SENT. -/
def holderAsk (cls prio cost at4 : Nat) (e : Holder) : Holder :=
  if e.wait then { e with cls := cls, prio := prio, cost := cost }
  else { e with wait := true, reserving := false, descSent := false, cls := cls, prio := prio, cost := cost, reason := 0,
                w := 0, since := at4 }

/-- R81, R87: a refused request withdraws what the holder had pending. Log 31 DEDUCED. -/
def holderRefuse (e : Holder) : Holder :=
  { e with wait := false, reserving := false, descSent := false, reason := 0, w := 0, refused := true }

/-- R96: an entry that failed its check is rewritten as an idle holder, and its request is answered Expired.
Log 33 DEDUCED. -/
def holderRewrite : Holder := { holder0 with expired := true }

/-- The acceptance of a request whose entry reads well (R48, R50, R86). Log 30 DESIGN CHOICE. -/
def askAgent (a h cls cost : Nat) (s : State) : State :=
  let g := agentOf s a
  let e := holderOf g h
  let r := resolveCost s.tk.cost cls cost
  let prio := bits (tget 0 (2 * cls + 1) s.tk.cost) 7 4
  if r.2 then
    report 0x2003 0 (putAgent a (putHolder h (holderRefuse e) g)
      { s with tk := { s.tk with oversize := wrapAdd 8 s.tk.oversize 1 } })
  else if (agentMap s a).poolCeil < r.1 then
    report 0x2003 0 (putAgent a (putHolder h (holderRefuse e) g)
      { s with tk := { s.tk with ceilRefused := wrapAdd 8 s.tk.ceilRefused 1 } })
  else
    putAgent a (putHolder h (holderAsk cls prio r.1 (nextQ s.time) e) g)
      { s with tk := { s.tk with reqReplace := wrapInc 8 e.wait s.tk.reqReplace } }

/-- R96, Table 12-5: the check of a holder entry: 0 it passes, 1 corrected, 2 uncorrectable. Log 33 DEDUCED. -/
def holderCheck (inj : Bool) (a h out : Nat) (s : State) : State :=
  if out = 1 then reportInj inj 0x2008 0 s
  else if out = 2 then
    let s1 := bypEnter inj a 2 s
    let g := agentOf s1 a
    putAgent a { g with badHolders := if g.badHolders.contains h then g.badHolders else g.badHolders ++ [h] } s1
  else s

/-- TK_REQ (R48): `ret` says that TK_RET is asserted too (R69); `ecc` is what the holder entry's check finds.
Log 30 DESIGN CHOICE, log 33 DEDUCED. -/
def execTkReq (agent holder cls cost : Nat) (ret : Bool) (ecc : Nat) (s0 : State) :
    Host.Outcome State Fault Refusal :=
  let s := fresh s0
  if !agentHere s agent then done s
  else
    let s1 : State := { s with tk := { s.tk with retConflict := wrapInc 8 ret s.tk.retConflict } }
    if (agentOf s1 agent).engRst then done s1
    else
      let was := (agentOf s1 agent).byp
      let i := injCheck (0x6000 + agent) s1
      let s2 := holderCheck true agent holder i.1 (holderCheck false agent holder ecc i.2)
      let b := injCheck (0x7000 + agent / 64) s2
      let s3 := if b.1 = 1 then reportInj true 0x2008 0 b.2 else if b.1 = 2 then boothFail true (agent / 64) b.2 else b.2
      let g := agentOf s3 agent
      if g.badHolders.contains holder then
        if was then
          done (putAgent agent (putHolder holder holderRewrite
            { g with badHolders := g.badHolders.filter (· != holder) }) s3)
        else done s3
      else done (askAgent agent holder cls cost s3)

/-- TK_RET (R68): the count is on TK_COST; a count of 0 withdraws the holder's request. -/
def execTkRet (agent holder amount : Nat) (s0 : State) : Host.Outcome State Fault Refusal :=
  let s := fresh s0
  if !agentHere s agent then done s
  else
    let g := epochRoll s.time.count (agentOf s agent)
    if amount = 0 then
      let e := holderOf g holder
      done (putAgent agent (if e.wait then
        putHolder holder { e with wait := false, reserving := false, descSent := false, reason := 0, w := 0 } g else g) s)
    else if g.byp then done (putAgent agent g s)
    else
      let n := min amount (returnable g)
      let clip := decide (n < amount)
      let s1 := putAgent agent
        { g with ret := wrapAdd 32 g.ret n, epRet := g.epRet + n, retSample := g.retSample + n } s
      done (reportIf clip 0x2002 0 { s1 with tk := { s1.tk with retClip := wrapInc 8 clip s1.tk.retClip } })

/-! ### The grant decision -/

/-- A lump grant of a holder's cost (R62). -/
def grantLump (h : Nat) (e : Holder) (g : Agent) : Agent :=
  let rc := g.rcLeft - e.cost
  putHolder h (holderClear e)
    { g with spent := wrapAdd 32 g.spent e.cost, rcLeft := rc, credit := min g.credit rc,
             grantedNow := wrapAdd 32 g.grantedNow e.cost, winLump := g.winLump + e.cost, winAll := g.winAll + e.cost,
             epGrant := g.epGrant + e.cost, pulse := some (h, 0, e.cost) }

/-- R62: the candidates in order: the first that fits both the pool and the ceiling is granted; a reserving holder that does
not fit blocks the rest. -/
def lumpScan (avail : Nat) : List (Nat × Holder) → Agent → Agent
  | [], g => g
  | (h, e) :: r, g =>
    if e.cost ≤ avail ∧ e.cost ≤ g.rcLeft then grantLump h e g
    else
      let g1 := putHolder h { e with reason := if avail < e.cost then g.poolTag else g.rateTag } g
      if e.reserving then g1 else lumpScan avail r g1

/-- R96: the fill of the bypass bucket in one host cycle and its cap, in 2^-16 ticket. -/
def bypFill (c : AgentCfg) : Int := if c.fMax = 0 then 0 else ((c.bypRate * 256000 / c.fMax : Nat) : Int)
def bypCap (c : AgentCfg) : Int := ((c.bypRate * 4000 * 256 : Nat) : Int)

/-- BYPASS_DECISION (R96). An entry that has failed its check is not granted: its holder's next request answers it.
Log 33 DEDUCED. -/
def bypDecide (c : AgentCfg) (g : Agent) : Agent :=
  match holderOrder ((waitingOf g).filter (fun h => !g.badHolders.contains h.1)) with
  | [] => g
  | (h, e) :: _ =>
    let cost : Int := (65536 * e.cost : Nat)
    if cost ≤ g.bucket ∨ g.bucket = bypCap c then
      putHolder h (holderClear e)
        { g with bucket := g.bucket - cost, bypGranted := wrapAdd 32 g.bypGranted e.cost, pulse := some (h, 0, e.cost) }
    else putHolder h { e with reason := 9 } g

/-- Every waiting holder reports one reason. -/
def allReason (r : Nat) (g : Agent) : Agent :=
  { g with holders := tadj holder0 (fun _ e => if e.wait then { e with reason := r } else e) g.holders }

/-- R81: the status that takes the line: Reclaimed, then Expired, then Refused, the lowest holder first. Log 31 DEDUCED. -/
def statusDue (g : Agent) : Option (Nat × Nat) :=
  let first := fun (st : Nat) (f : Holder → Bool) => (g.holders.find? (fun h => f h.2)).map (fun h => (h.1, st))
  match (if g.engRst then none else first 1 (fun e => e.reclaimed)) with
  | some x => some x
  | none => match first 2 (fun e => e.expired) with
    | some x => some x
    | none => first 3 (fun e => e.refused)

/-- R80: a holder once its status takes the line. Log 31 DEDUCED. -/
def statusGiven (st : Nat) (e : Holder) : Holder :=
  if st = 1 then { e with reclaimed := false }
  else { holderClear e with expired := e.expired && st != 2, refused := e.refused && st != 3 }

/-- R62, R81, R94, R96: the decision of one host cycle; `hold` is the active hold and `out` the hold outputs. A grant made by
hand takes the line after every other status (R102). Log 36 DESIGN CHOICE. -/
def grantDecide (c : AgentCfg) (hold : Nat) (out : Bool) (g : Agent) : Agent :=
  match statusDue g with
  | some (h, st) =>
    let g1 := if st = 1 then allReason (if hold = 0 then 15 else hold) g else g
    putHolder h (statusGiven st (holderOf g1 h)) { g1 with pulse := some (h, st, 0) }
  | none =>
    match g.handGrants with
    | (h, n) :: r => { (if hold = 0 then g else allReason hold g) with handGrants := r, pulse := some (h, 0, n) }
    | [] =>
    if g.engRst || waitingOf g = [] then g
    else if hold ≠ 0 then allReason hold g
    else if out then allReason 15 g
    else if g.byp then bypDecide c g
    else
      let l := waitingOf g
      let res := l.filter (fun h => h.2.reserving)
      lumpScan (poolOf g) (holderOrder (if res = [] then l else res)) g

/-! ### The lease -/

/-- R73: whether lease `b` stands ahead of lease `a`: the array's first, then ascending holder address. -/
def leaseAhead (m : Tab AgentCfg) (a b : Nat) : Bool :=
  let x := (tget agentCfg0 a m).isArray
  let y := (tget agentCfg0 b m).isArray
  b != a && (tget agentCfg0 b m).lease && (y || (!x && decide (b < a)))

/-- R72: σ_die in 2^-24 ticket per ns per ns. -/
def slopeDie (s : State) : Nat := s.tk.slopeSV * 2 ^ 24 / (1000 * 2 ^ s.pb.cap.qSel)

/-- R73: the slope left to a lease after those ahead of it. -/
def slopeLeft (s : State) (a : Nat) : Nat :=
  slopeDie s - sumN ((s.tk.agents.filter (fun b => leaseAhead s.pb.agents a b.1)).map (fun b => b.2.took))

/-- R73: the slope left to lump grants. -/
def slopeLump (s : State) : Nat :=
  slopeDie s - sumN ((s.tk.agents.filter (fun b => (tget agentCfg0 b.1 s.pb.agents).lease)).map (fun b => b.2.took))

/-- R54, R73, R96, R235: the granted rate after one host cycle of `ps` picoseconds. `hold` is the active hold: under one a
rate may fall and may not rise; under a hand hold it stays. Log 26 DEDUCED. -/
def leaseMove (c : AgentCfg) (slope ps hold : Nat) (out : Bool) (g : Agent) : Agent :=
  if out || g.engRst then { g with rateQ := 0, took := 0 }
  else if g.handHold then { g with took := 0 }
  else if g.byp then
    let want := 65536 * min g.reqRate c.bypRate
    let up := 65536 * c.bypRate * ps / 1024000
    { g with took := 0, igniting := false,
             rateQ := if want ≤ g.rateQ then want else if hold ≠ 0 then g.rateQ else min want (g.rateQ + up) }
  else if g.target ≤ g.rateQ then { g with rateQ := g.target, took := 0, igniting := false }
  else if hold ≠ 0 then { g with took := 0 }
  else
    let rise := min (g.target - g.rateQ) (slope * ps / 1000)
    { g with rateQ := g.rateQ + rise, took := ceilDiv (rise * 1000) (max 1 ps),
             igniting := g.igniting && decide (g.rateQ + rise < g.target) }

/-- R55: the integral of the granted rate over a host cycle of `ps` picoseconds in which it goes from `old` to `new`: a fall
is a step at the start of the cycle (R54), a rise runs at `slope` until it reaches `new`, and then the rate stays.
Log 27 DEDUCED. -/
def leaseArea (slope ps old new : Nat) : Nat :=
  new * ps - (if old < new then 500 * (new - old) * (new - old) / slope else 0)

/-- R55: of what the accumulator and a cycle's integral come to: the whole tickets charged, the 16-bit fraction carried, and the
part below its LSB. Log 27 DEDUCED. -/
def leaseCharge (area : Nat) (g : Agent) : Nat × Nat × Nat :=
  let x := 256000 * g.acc + g.accRest + area
  (x / 16777216000, x % 16777216000 / 256000, x % 256000)

/-- R56, R65, R77: TL_WAIT_REASON, in the order of R77: a hold; the hold outputs, on the terms of a lump holder; bypass; the pool
tag where the pool or the lease ceiling bounds the target; ignition or the slope while the rate rises; the rate tag.
Log 25 DESIGN CHOICE. -/
def leaseReason (c : AgentCfg) (hold : Nat) (out : Bool) (g : Agent) : Nat :=
  if 65536 * min g.reqRate c.maxLease ≤ g.rateQ then 0
  else if hold ≠ 0 then hold
  else if out then 15
  else if g.byp then 9
  else if g.engRst then 15
  else if g.poolBound then g.poolTag
  else if g.rateQ < g.target then (if g.igniting then 10 else 2)
  else g.rateTag

/-- One host cycle of an Agent's lease: movement, then the charge of the cycle; the tickets charged. Log 27 DEDUCED. -/
def leaseCycle (c : AgentCfg) (slope ps hold : Nat) (out : Bool) (g : Agent) : Agent × Nat :=
  if !c.lease then (g, 0)
  else
    let g1 := leaseMove c slope ps hold out g
    let q := leaseCharge (leaseArea (if g.byp then 64 * c.bypRate else slope) ps g.rateQ g1.rateQ) g
    let g0 : Agent := { g1 with acc := q.2.1, accRest := q.2.2 }
    let g2 : Agent := if g.byp then { g0 with bypGranted := wrapAdd 32 g.bypGranted q.1 }
      else { g0 with spent := wrapAdd 32 g.spent q.1, winAll := g.winAll + q.1 }
    ({ g2 with tlReason := leaseReason c hold out g2 }, q.1)

/-! ### Counters of one host cycle -/

/-- R364: the class of a host cycle: stalled with a reason, busy or idle. -/
def engStall (c : AgentCfg) (g : Agent) : Nat :=
  if g.engRst then 0 else if g.tkReason ≠ 0 then g.tkReason else if c.lease then g.tlReason else 0

def engAdd (r : Nat) (rst busy : Bool) (e : EngCount) : EngCount :=
  if r ≠ 0 then { e with stall := tmod 0 r (fun x => wrapAdd 48 x 1) e.stall, overlap := wrapInc 48 busy e.overlap }
  else if busy && !rst then { e with busy := wrapAdd 48 e.busy 1 }
  else { e with idle := wrapAdd 48 e.idle 1 }

/-- R135: the slot of a context in a Booth's sample: 0 to 3 by first appearance, 4 for overflow. -/
def ctxSlot (b : Booth) (ctx : Nat) : Booth × Nat :=
  if ctx = 4095 then ({ b with overflow := true }, 4)
  else match b.ctxs.findIdx? (· == ctx) with
    | some i => (b, i)
    | none => if b.ctxs.length < 4 then ({ b with ctxs := b.ctxs ++ [ctx] }, b.ctxs.length)
      else ({ b with overflow := true }, 4)

/-- R134, R135, R367: one host cycle of one engine at its Booth: tap counts, busy and stalled cycles by context slot.
Log 50 DEDUCED. -/
def boothCycle (ctx : Nat) (taps : List (Nat × Nat)) (busy stalled : Bool) (b : Booth) : Booth :=
  if taps = [] ∧ !busy ∧ !stalled then b
  else
    let x := ctxSlot b ctx
    let c := if x.2 = 4 then 4095 else ctx
    let sl := tget actSlot0 x.2 x.1.slots
    let sl' : ActSlot := { ctx := c, taps := taps.foldl (fun t p => tset 0 p.1 (min 255 (tget 0 p.1 t + p.2)) t) sl.taps }
    { x.1 with slots := tset actSlot0 x.2 sl' x.1.slots,
               busy := if busy && !stalled then tmod 0 c (· + 1) x.1.busy else x.1.busy,
               stall := if stalled then tmod 0 c (· + 1) x.1.stall else x.1.stall }

/-- R369: the operation counters of the array's lease Agent in one host cycle. -/
def opCycle (stalled : Bool) (tkts : Nat) (o : ObsSt) : ObsSt :=
  { o with opCyc := wrapAdd 48 o.opCyc 1, opStall := wrapInc 48 stalled o.opStall, opTkt := wrapAdd 48 o.opTkt tkts,
           opReset := false }

/-- R62, R93: the pulse of the last decision is driven; a grant whose pulse meets the engine in reset is reclaimed. -/
def grantPulse (a : Nat) (g : Agent) (s : State) : Agent × State :=
  match g.pulse with
  | none => (g, s)
  | some (h, st, cost) =>
    if st = 0 && g.engRst then
      let e := holderOf g h
      (putHolder h { e with reclaimed := true }
        { g with pulse := none, ret := if g.byp then g.ret else wrapAdd 32 g.ret cost },
       emit (.gnt a h st) { s with tk := { s.tk with reclaims := wrapAdd 8 s.tk.reclaims 1 } })
    else ({ g with pulse := none }, emit (.gnt a h st) s)

/-- R62: the wait of every waiting holder is one host cycle longer. -/
def holdersAge (g : Agent) : Agent :=
  { g with holders := tadj holder0 (fun _ e => if e.wait then { e with w := e.w + 1 } else e) g.holders }

/-- R65: TK_WAIT_REASON. Log 25 DESIGN CHOICE. -/
def tkReasonOf (g : Agent) : Nat :=
  match holderOrder (waitingOf g) with
  | [] => 0
  | (_, e) :: _ => e.reason

/-- R96, Table 12-5: the checks of the entries that a decision reads, those of the waiting holders: `ecc` gives what they find,
and an injection meets the first in order. Log 33 DEDUCED. -/
def decisionEcc (agent : Nat) (ecc : List (Nat × Nat)) (s : State) : State :=
  match holderOrder (waitingOf (agentOf s agent)) with
  | [] => s
  | (h, _) :: _ =>
    let i := injCheck (0x6000 + agent) s
    (ecc.filter (fun e => (holderOf (agentOf s agent) e.1).wait)).foldl (fun x e => holderCheck false agent e.1 e.2 x)
      (holderCheck true agent h i.1 i.2)

/-- R67: an Agent's check of its own pool, before it grants from it. Log 39 DEDUCED. -/
def poolCheck (agent : Nat) (s : State) : State :=
  let g := agentOf s agent
  if !g.byp && (decide ((agentMap s agent).poolCeil < poolOf g) || decide (derivedMax < poolOf g)) then bypEnter false agent 1 s
  else s

/-- GRANT_DECISION (R62): one host cycle of `ps` picoseconds at an Agent, with ENG_BUSY, the context tag and the increments
of the engine's taps (R133), TL_REQ_RATE, and what the checks of the holder entries find. -/
def execGrantDecision (agent ps : Nat) (busy : Bool) (ctx : Nat) (taps : List (Nat × Nat)) (req : Nat) (s0 : State)
    (ecc : List (Nat × Nat) := []) : Host.Outcome State Fault Refusal :=
  let u := fresh s0
  if !agentHere u agent then done u
  else
    let s := poolCheck agent (decisionEcc agent ecc u)
    let c := agentMap s agent
    let p := grantPulse agent (epochRoll s.time.count (agentOf s agent)) s
    let g1 := holdersAge { p.1 with
      reqRate := req, bucket := min (bypCap c) (p.1.bucket + bypFill c), wdCyc := if p.1.wdRun then p.1.wdCyc + 1 else 0 }
    let hold := activeHold s agent g1
    let out := fabricHeld s
    let g2 := grantDecide c hold out g1
    let l := leaseCycle c (slopeLeft s agent) ps hold out g2
    let g3 : Agent := { l.1 with tkReason := tkReasonOf l.1 }
    let r := engStall c g3
    let g4 : Agent := { g3 with eng := engAdd r g3.engRst busy g3.eng }
    let b0 := tget booth0 (agent / 64) p.2.tk.booths
    let b1 := boothCycle ctx taps (busy && !g3.engRst) (decide (r ≠ 0)) b0
    let s1 := putAgent agent g4 p.2
    done { s1 with
      tk := { s1.tk with booths := tset booth0 (agent / 64) b1 s1.tk.booths,
                         ctxOverflow := wrapInc 8 (b1.overflow && !b0.overflow) s1.tk.ctxOverflow },
      obs := if c.isArray then opCycle (decide (r ≠ 0)) l.2 s1.obs else s1.obs }

/-! ### Ageing, hints and expiry -/

/-- R71, R82: the decision of the host cycle would grant a holder: the grant is the arrival that its timers wait for.
Log 31 DEDUCED. -/
def grantsNow (s : State) (a h : Nat) : Bool :=
  let g := agentOf s a
  match (grantDecide (agentMap s a) (activeHold s a g) (fabricHeld s) (holdersAge { g with pulse := none })).pulse with
  | some (x, st, _) => x == h && st == 0
  | none => false

/-- RESERVE_AGE (R63): a waiting holder's AGE has reached TKT_AGENT_CTRL.RESERVE_AGE. -/
def execReserveAge (agent holder : Nat) (s0 : State) : Host.Outcome State Fault Refusal :=
  let s := fresh s0
  let g := agentOf s agent
  let e := holderOf g holder
  if agentHere s agent && e.wait && decide (bits (areg s 0x2008) 3 0 ≤ ageOf e.w) then
    done (putAgent agent (putHolder holder { e with reserving := true } g) s)
  else done s

/-- DESCHED_HINT (R70): AGE has reached the DESCHED_AGE of the class, and no hint has been sent for this wait. A grant of the
same cycle wins (R71). -/
def execDeschedHint (agent holder : Nat) (s0 : State) : Host.Outcome State Fault Refusal :=
  let s := fresh s0
  let g := agentOf s agent
  let e := holderOf g holder
  let lim := bits (tget 0 (2 * e.cls + 1) s.tk.cost) 3 0
  if agentHere s agent && e.wait && !e.descSent && decide (lim ≠ 0 ∧ lim ≤ ageOf e.w) && !grantsNow s agent holder then
    done (emit (.desched agent holder) (putAgent agent (putHolder holder { e with descSent := true } g) s))
  else done s

/-- R91: whether at the last sample edge a holder's request had waited, and its Booth and domain been stopped, for DRAIN_US. An
Agent in bypass does not wait for the quota. Log 31 DEDUCED. -/
def expiryDue (s : State) (a h : Nat) : Bool :=
  let g := agentOf s a
  let e := holderOf g h
  let drain := bits (areg s 0x2080) 9 0
  match (tget boothDom0 (a / 64 * 4 + (agentMap s a).dom) s.tk.bds).stopUp with
  | none => false
  | some t => agentHere s a && e.wait && !handHeld s g && !g.byp && decide (drain ≠ 0) &&
      decide (t + 4 * drain ≤ s.time.edgeQ ∧ e.since + 4 * drain ≤ s.time.edgeQ)

/-- FORCED_EXPIRY (R91): status Expired; one fault for each stop in which a request expired. A grant of the same host cycle wins
(R82). Log 7 DESIGN CHOICE, log 31 DEDUCED. -/
def execForcedExpiry (agent holder : Nat) (s0 : State) : Host.Outcome State Fault Refusal :=
  let s := fresh s0
  if expiryDue s agent holder && !grantsNow s agent holder then
    let g := agentOf s agent
    let bd := agent / 64 * 4 + (agentMap s agent).dom
    let told := (tget boothDom0 bd s.tk.bds).stopTold
    let s1 := putAgent agent (putHolder holder (statusGiven 2 (holderOf g holder) |> fun e => { e with expired := true }) g) s
    done (reportIf (!told) 0x2004 0 { s1 with tk := { s1.tk with
      forcedExpiry := wrapAdd 8 s1.tk.forcedExpiry 1,
      bds := tmod boothDom0 bd (fun x => { x with stopTold := true }) s1.tk.bds } })
  else done s

/-! ### Engine reset and the GIVE watchdog -/

/-- ENG_RST_ASSERT (R92, R93): WAIT into RECLAIMED for every holder; the lease stops; the slew credit is cleared. -/
def execEngRstAssert (agent : Nat) (s0 : State) : Host.Outcome State Fault Refusal :=
  let s := fresh s0
  let g := agentOf s agent
  if !agentHere s agent || g.engRst then done s
  else
    let n := (waitingOf g).length
    let g1 : Agent := { g with
      engRst := true, rateQ := 0, target := 0, igniting := false, took := 0, rcLeft := g.rcLeft - g.credit, credit := 0,
      holders := tadj holder0 (fun _ e => { holderClear e with reclaimed := e.wait }) g.holders }
    let s1 := putAgent agent g1 s
    done { s1 with tk := { s1.tk with reclaims := wrapAdd 8 s1.tk.reclaims n } }

/-- ENG_RST_RELEASE (R94): Reclaimed statuses follow from the next decision on. -/
def execEngRstRelease (agent : Nat) (s0 : State) : Host.Outcome State Fault Refusal :=
  let s := fresh s0
  if agentHere s agent then done (putAgent agent { agentOf s agent with engRst := false } s) else done s

/-- GIVE_WATCHDOG_EXPIRY (R95): no GIVE for the host cycles of the watchdog while it runs; a GIVE that has arrived wins (R82). -/
def execGiveWatchdogExpiry (agent : Nat) (s0 : State) : Host.Outcome State Fault Refusal :=
  let s := fresh s0
  if agentHere s agent && (agentOf s agent).wdRun && decide ((agentMap s agent).wd ≤ (agentOf s agent).wdCyc) && !fabricHeld s then done (bypEnter false agent 3 s) else done s

end Sys2Proof.Machine
end

