-- ==== Sys2Proof/Machine/Office.lean ====
section
/-! DEFINITION. The Ticket Office and the Booths: the grant budget of a sample (R60, R88, R89, R97), refills (R57, R58,
R61, R74, R76), the split (R59), GIVEs (R54, R64, R75), reports (R61, R67, R68), the latch of TKT_SEL (R79, R366) and
failed Booths (R100). -/

namespace Sys2Proof.Machine

open Sys2Proof

/-! ### Who takes part -/

/-- Agents of a Booth. -/
def boothAgents (s : State) (b : Nat) : List Nat := (s.pb.agents.filter (fun a => a.1 / 64 = b)).map Prod.fst
/-- Agents of a Booth and domain, by its key Booth × 4 + domain. -/
def bdAgents (s : State) (k : Nat) : List Nat :=
  (s.pb.agents.filter (fun a => a.1 / 64 = k / 4 ∧ a.2.dom = k % 4)).map Prod.fst
/-- The Booths and the Booths with domains that the agent map names. -/
def boothKeys (s : State) : List Nat := (s.pb.agents.map (fun a => a.1 / 64)).eraseDups
def bdKeys (s : State) : List Nat := (s.pb.agents.map (fun a => a.1 / 64 * 4 + a.2.dom)).eraseDups
/-- R96, R98: the Office counts and serves an Agent. Log 34 DEDUCED. -/
def served (s : State) (a : Nat) : Bool := !(agentOf s a).byp && !(tget officeAgent0 a s.tk.office).rejoin
def boothFailed (s : State) (b : Nat) : Bool := (tget booth0 b s.tk.booths).failed

/-! ### The grant budget (R60, R88, R97) -/

/-- Nominal BCLK cycles of a sample (Table 2-4). -/
def nomCycles (pSel : Nat) : Nat := periodNs pSel
/-- R88: L_s. -/
def lifeSpan (pSel : Nat) : Nat := max 1 (4000 / periodNs pSel)

/-- R97: the bypass charge of a Booth and domain in tickets. -/
def bypCharge (s : State) (k : Nat) : Nat :=
  ceilDiv (sumN (((bdAgents s k).filter (fun a => (agentOf s a).byp)).map (fun a => (agentMap s a).bypRate)) *
    nomCycles s.time.pSel) 256

/-- R60: tickets in pools and in flight, and the slew credit that the Agents report carrying (R88). Log 37 DEDUCED. -/
def carryIn (s : State) (k : Nat) : Nat :=
  sumN (((bdAgents s k).filter (served s)).map (fun a =>
    diff32 (tget officeAgent0 a s.tk.office).sent (tget officeAgent0 a s.tk.office).repSpent))
/-- Log 37 DEDUCED. -/
def creditIn (s : State) (k : Nat) : Nat :=
  sumN (((bdAgents s k).filter (served s)).map (fun a => (tget officeAgent0 a s.tk.office).credit))

/-- R88, R89: the budget of one Booth and domain at a sample edge; `quota` and `tag` are the allocation's.
Log 37 DEDUCED. -/
def budget (quota tag charge carry credit span at4 : Nat) (x : BoothDom) : BoothDom :=
  let gr := (0 :: x.granted).take 16
  let un := (0 :: x.uncredited).take 16
  let q := quota - charge
  let out := sumN ((gr.drop 1).take (span - 1)) - sumN ((un.drop 1).take (span - 1))
  let g := min q (q * span - out)
  { x with quota := quota, gk := g, send := g - carry - credit, sent := 0, credited := 0, shared := 0, bypCharge := charge,
           granted := gr, uncredited := un, tag := tag, held := 0,
           stopUp := if g = 0 then some (x.stopUp.getD at4) else none, stopTold := decide (g = 0) && x.stopTold }

/-- The Office and the Booths at a sample edge: budgets, the slope of R72, slew credit of stopped domains, context slots,
the class table swap (R52), Agents that are counted again (R98). -/
def officeEdge (s : State) : State :=
  let span := lifeSpan s.time.pSel
  let bds := (bdKeys s).foldl (fun t k =>
    tset boothDom0 k (budget (tget 0 k s.core.app.cap.quota) (tget 1 k s.core.app.cap.tag) (bypCharge s k) (carryIn s k)
      (creditIn s k) span s.time.edgeQ (tget boothDom0 k t)) t) s.tk.bds
  let stopped := (s.pb.agents.filter (fun a => decide ((tget boothDom0 (a.1 / 64 * 4 + a.2.dom) bds).gk = 0))).map Prod.fst
  let core := s.pb.law.rails.find? (fun r => r.2.core)
  let v := match core with
    | some r => tget 0 r.1 s.law.railV
    | none => 0
  let full := min (min s.pb.cap.dieSlew (s.cap.mSlew.getD 96)) (bits (areg s 0x2004) 6 0)
  let slew := match s.core.app.law.slewPct with
    | some p => max 4 (full * p / 100)
    | none => full
  let addCtx := fun (f : Booth → Tab Nat) (t : Tab Nat) => s.tk.booths.foldl (fun u b =>
    (f b.2).foldl (fun w p => tset 0 p.1 (wrapAdd 48 (tget 0 p.1 w) p.2) w) u) t
  { s with
    tk := { s.tk with
      i := 0, bds := bds, slopeSV := slew * v, cost := if s.tk.swap then s.tk.shadow else s.tk.cost, swap := false,
      agents := tmodAll agent0 stopped (fun _ g => { g with rcLeft := g.rcLeft - g.credit, credit := 0 }) s.tk.agents,
      office := tadj officeAgent0 (fun _ o => { o with rejoin := false }) s.tk.office,
      booths := tadj booth0 (fun _ b => { b with ctxs := [], overflow := false, busy := [], stall := [] }) s.tk.booths },
    obs := { s.obs with busy := addCtx Booth.busy s.obs.busy, stall := addCtx Booth.stall s.obs.stall } }

/-! ### A refill boundary -/

/-- C(m) of R58. -/
def refillSum (q n m : Nat) : Nat := if n = 0 then 0 else q * min (32 * m) n / n

/-- Length of refill `i` in cycles. -/
def refillLen (n i : Nat) : Nat := min 32 (n - 32 * i)

/-- R58: the tickets that the Office sends to a Booth and domain at boundary `i`: what C(i+1) reaches, less what has gone. -/
def refillAmount (n i : Nat) (x : BoothDom) : Nat :=
  if n ≤ 32 * i then 0 else refillSum (x.send + x.credited) n (i + 1) - x.sent

/-- R89, R103: the grant-budget share of refill `i`; the shares of a sample come to the budget and the returns credited. -/
def budgetShare (n i : Nat) (x : BoothDom) : Nat :=
  if n ≤ 32 * i then 0 else
    refillSum (x.gk + x.credited) n (i + 1) - x.shared

/-- R73, R89: the lease ceilings of a Booth and domain: the share goes to the leases first, the array's before the others,
each up to the rate that it was last reported to request. The ceilings in 1/256 ticket per ns, and the share left.
Log 29 DEDUCED. -/
def leaseCeils (s : State) (k share len : Nat) : List (Nat × Nat) × Nat :=
  let ls := (bdAgents s k).filter (fun a => (agentMap s a).lease && served s a)
  let ord := ls.filter (fun a => (agentMap s a).isArray) ++ ls.filter (fun a => !(agentMap s a).isArray)
  ord.foldl (fun (x : List (Nat × Nat) × Nat) a =>
    let want := min (agentMap s a).maxLease (tget officeAgent0 a s.tk.office).req
    let c := if len = 0 then 0 else min want (x.2 * 256 / len)
    (x.1 ++ [(a, c)], x.2 - ceilDiv (c * len) 256)) ([], share)

/-- R74: RC(j). -/
def lumpCeil (rc g step : Nat) : Nat := min rc (g + 2 * step) + step

/-- R74: STEP_lump in tickets per refill per refill: 1,024 σ_lump. -/
def stepLump (s : State) : Nat := slopeLump s / 16384

/-- R59: the weight of an Agent from its last report. -/
def weightOf (b : Booth) (a : Nat) : Nat := max 1 (tget agentRep0 a b.reps).demand

/-- The REFILL message of one Booth and the tickets it carries. -/
def refillMsg (s : State) (rcs : List (Nat × Nat)) (b : Nat) : RefillMsg :=
  let n := nomCycles s.time.pSel
  let i := s.tk.i
  let len := refillLen n i
  let ks := (bdKeys s).filter (fun k => k / 4 = b)
  let bd := fun k => tget boothDom0 k s.tk.bds
  let lc := fun k => leaseCeils s k (budgetShare n i (bd k)) len
  { refill := s.tk.j, sample := s.time.edgeN, len := len,
    amount := tbuild 0 (ks.map (· % 4)) (fun d => refillAmount n i (bd (b * 4 + d))),
    rc := tget 0 b rcs,
    share := tbuild 0 (ks.map (· % 4)) (fun d => (lc (b * 4 + d)).2),
    pace := tbuild allOnes (ks.map (· % 4)) (fun d =>
      match tlook (b * 4 + d) s.core.app.cap.pace with
      | some p => p * len / 65536
      | none => allOnes),
    lease := ks.foldl (fun t k => (lc k).1.foldl (fun u p => tset 0 p.1 p.2 u) t) [],
    poolTag := tbuild 1 (ks.map (· % 4)) (fun d => (bd (b * 4 + d)).tag) }

/-- R59, R61, R64: what an Agent reports at a boundary. Its demand counts the grants and charges of the ceiling windows that have
closed since the last report, and the costs of its waiting holders. Log 28 DEDUCED. -/
def agentReport (a k : Nat) (g : Agent) : AgentRep :=
  { agent := a, recv := g.recv, spent := g.spent, ret := g.ret, wins := g.closed,
    demand := min derivedMax (sumN (g.closed.map WinRec.all) + sumN ((waitingOf g).map (fun h => h.2.cost))),
    credit := g.credit, req := g.reqRate, retNow := g.retSample, retK := k }

/-- R76: a lease whose granted rate is below the idle threshold, with a target above it. -/
def ignites (s : State) (a : Nat) (g : Agent) : Bool :=
  let lim := (agentMap s a).maxLease * bits (areg s 0x2004) 20 16 * 65536 / 100
  (agentMap s a).lease && !g.byp && !g.igniting && decide (g.rateQ < lim ∧ lim < g.target)

/-- R134: the activity records of a Booth at the end of a window. Log 50 DEDUCED. -/
def boothRecords (b sample window : Nat) (x : Booth) : List Emit :=
  if x.failed then [] else
    (x.slots.filter (fun p => p.2.taps ≠ [])).map (fun p => .act b p.1 p.2.ctx sample window p.2.taps)

/-- R79, R366: the values that TKT_SEL.LATCH latches at a boundary. -/
def latchAgent (s : State) (a h : Nat) : TkLatch :=
  let g := agentOf s a
  let c := agentMap s a
  { sent := (tget officeAgent0 a s.tk.office).sent, recv := g.recv, spent := g.spent, ret := g.ret,
    entry := holderWord (holderOf g h),
    state := wordOf [(31, 28, g.tkReason), bit 27 g.byp, bit 26 c.lease, (25, 24, c.dom), (23, 0, poolOf g)],
    fault := wordOf [(31, 28, g.bypEntries), (27, 24, g.bypCause), (5, 0, g.causesSeen), bit 0 (handHeld s g)],
    bypGranted := g.bypGranted, eng := g.eng }

/-- TKT_SEL.LATCH at a boundary (R79), of what TKT_SEL selects then (R12). -/
def latchDone (s : State) : State :=
  if s.tk.latchReq then
    let sel := wreg s 0x200C
    { s with tk := { s.tk with latchReq := false, latched := true, lat := latchAgent s (bits sel 19 8) (bits sel 7 0) } }
  else s

/-- R134: the activity records of the window that a boundary ends, which the last boundary began. -/
def windowRecords (s : State) : List Emit :=
  match s.tk.win with
  | some (k, i) => s.tk.booths.flatMap (fun p => boothRecords p.1 (k % 4) i p.2)
  | none => []

/-- R61: the reports: the Booths latch what arrived and forward it, and every Agent sends its own. Samples are counted by their
edges, whatever a count step does to their numbers. -/
def refillReports (s : State) : State :=
  let k := if s.tk.i = 0 then s.time.edgeN - 1 else s.time.edgeN
  let bs := boothKeys s
  let ags := s.pb.agents.map Prod.fst
  let rep := fun a => agentReport a k (agentOf s a)
  let booths := tmodAll booth0 bs (fun _ b =>
    { b with reps := b.inbox.foldl (fun t r => tins r.agent r t) b.reps, inbox := [], missed := b.missed + 1, slots := [] })
    s.tk.booths
  let up := fun b => !(boothFailed s b)
  { s with
    out := s.out ++ windowRecords s
    tk := { s.tk with
      booths := booths,
      toOffice := bs.foldl (fun t b => if up b then chanPush b (tget booth0 b s.tk.booths).inbox t else t) s.tk.toOffice,
      toBoothUp := ags.foldl (fun t a => chanPush a (rep a) t) s.tk.toBoothUp,
      chans := ags.foldl (fun t a => chanSend 3 a (rep a).retNow t)
        (bs.foldl (fun t b => if up b then
          chanSend 1 b (sumN ((tget booth0 b s.tk.booths).inbox.map AgentRep.retNow)) t else t) s.tk.chans),
      agents := tmodAll agent0 ags (fun _ g =>
        { g with closed := [], grantedNow := 0, retSample := 0,
                 reqAt := tset 0 s.tk.j g.reqRate (g.reqAt.filter (fun p => decide (s.tk.j ≤ p.1 + 8))) }) s.tk.agents } }

/-- R57 to R61, R74: the Office's part of a boundary: ceilings, REFILL messages, ignitions. -/
def refillSend (s : State) : State :=
  let n := nomCycles s.time.pSel
  let bs := (boothKeys s).filter (fun b => !boothFailed s b)
  let step := stepLump s
  let rc := lumpCeil s.tk.rc (if 3 ≤ s.tk.j then tget 0 (s.tk.j - 3) s.tk.g else 0) step
  let wt := fun b => sumN (((boothAgents s b).filter (served s)).map (weightOf (tget booth0 b s.tk.booths)))
  let rcs := offer rc (bs.map (fun b => (b, wt b, allOnes)))
  let msg := refillMsg s rcs
  let ign := (s.pb.agents.map Prod.fst).filter (fun a => ignites s a (agentOf s a))
  { s with tk := { s.tk with
      rc := rc, g := s.tk.g.filter (fun p => decide (s.tk.j ≤ p.1 + 8)),
      toBooth := bs.foldl (fun t b => chanPush b (msg b) t) s.tk.toBooth,
      chans := bs.foldl (fun t b => chanSend 0 b (sumN ((msg b).amount.map Prod.snd)) t) s.tk.chans,
      bds := (bdKeys s).foldl (fun t k => if bs.contains (k / 4) then
        tmod boothDom0 k (fun x => { x with sent := x.sent + refillAmount n s.tk.i x,
                                             shared := x.shared + budgetShare n s.tk.i x }) t else t) s.tk.bds,
      agents := tmodAll agent0 ign (fun _ g => { g with igniting := true }) s.tk.agents,
      ignitions := wrapAdd 32 s.tk.ignitions ign.length } }

/-- The boundary while the hold outputs are driven: no ticket message is sent, and the refills have no history (R74). -/
def refillIdle (s : State) : State :=
  { s with
    out := s.out ++ windowRecords s
    tk := { s.tk with
      rc := 0, g := [], booths := tadj booth0 (fun _ b => { b with missed := 0, slots := [] }) s.tk.booths,
      agents := tadj agent0 (fun _ g => { g with wdRun := false, wdCyc := 0 }) s.tk.agents } }

/-! ### Hand operations (R102) -/

/-- R102: the privilege that an operation requires, and whether it requires a hold. -/
def opPriv (op : Nat) : Nat := if 1 ≤ op ∧ op ≤ 7 then 2 else 1
def opHeld (op : Nat) : Bool := decide (3 ≤ op ∧ op ≤ 7)

/-- R102: DONE is set with a status. -/
def handDone (st : Nat) (s : State) : State :=
  raise 2 2 { s with tk := { s.tk with cmdDone := true, cmdStatus := st } }

/-- The event of a hand operation that took effect (Table 13-1). -/
def handEvent (op n : Nat) (s : State) : State :=
  if op = 3 ∨ op = 5 then event 0xE002 (n : Int) s else event 0xE003 (op : Int) s

/-- R102: ADD_POOL and GRANT_HOLDER move SENT and RECV together. -/
def handSent (a n : Nat) (s : State) : State :=
  { s with tk := { s.tk with
      office := tmod officeAgent0 a (fun o => { o with sent := wrapAdd 32 o.sent n }) s.tk.office,
      handAdded := wrapAdd 32 s.tk.handAdded n } }

/-- R98: the Agent reads and checks every holder entry before the resync; an injection meets the first. Log 33 DEDUCED. -/
def restoreCheck (a : Nat) (s : State) : State :=
  let i := injCheck (0x6000 + a) s
  holderCheck true a (((agentOf s a).holders.map Prod.fst).headD 0) i.1 i.2

/-- R98: a cause of bypass that persists, or the fourth entry. Log 35 DEDUCED. -/
def restoreRefused (s : State) (a : Nat) : Bool :=
  let g := agentOf s a
  !g.byp || boothFailed s (a / 64) || g.badHolders ≠ [] || decide (4 ≤ g.bypEntries)

/-- R98: RESTORE as the Office judges it; DONE waits for the RESYNC. -/
def handRestore (a : Nat) (s : State) : State :=
  if !(agentOf s a).byp then handDone 6 s
  else
    let s1 := restoreCheck a s
    if restoreRefused s1 a then handDone 6 s1
    else handEvent 8 0 (putAgent a { agentOf s1 a with resyncWait := true } s1)

/-- GRANT_HOLDER: the counters of the grant of a pending request, whose pulse takes the line in its turn. In bypass RECV, SPENT
and SENT have stopped, and the bypass bucket bears the cost (R96, R103). Log 36 DESIGN CHOICE. -/
def handGrant (a h : Nat) (s : State) : State :=
  let g := agentOf s a
  let e := holderOf g h
  let g1 := putHolder h (holderClear e) { g with handGrants := g.handGrants ++ [(h, e.cost)] }
  if g.byp then
    putAgent a { g1 with bucket := g.bucket - (65536 * e.cost : Nat), bypGranted := wrapAdd 32 g.bypGranted e.cost } s
  else
    handSent a e.cost (putAgent a { g1 with
      recv := wrapAdd 32 g.recv e.cost, spent := wrapAdd 32 g.spent e.cost, epGrant := g.epGrant + e.cost } s)

/-- Table 3-5: an operation at its boundary. Log 36 DESIGN CHOICE. -/
def handRun (c : AgentCmd) (s : State) : State :=
  let a := c.agent
  let g := agentOf s a
  let e := holderOf g c.holder
  let ok := fun (n : Nat) (x : State) => handDone 0 (handEvent c.op n x)
  if !agentHere s a || decide (10 ≤ c.op) then handDone 5 s
  else if c.priv ≠ 2 && opPriv c.op = 2 then handDone 4 s
  else if opHeld c.op && !handHeld s g then handDone 1 s
  else match c.op with
    | 0 => ok 0 s
    | 1 => ok 0 (putAgent a { g with handHold := true } s)
    | 2 => ok 0 (putAgent a { g with handHold := false } s)
    | 3 =>
      if g.byp then ok 0 s
      else if (agentMap s a).poolCeil < diff32 (tget officeAgent0 a s.tk.office).sent g.spent + c.count then handDone 2 s
      else ok c.count (handSent a c.count (putAgent a { g with recv := wrapAdd 32 g.recv c.count } s))
    | 4 =>
      let n := if g.byp then 0 else min c.count (poolOf g)
      let s1 := putAgent a { g with spent := wrapAdd 32 g.spent n } s
      ok 0 { s1 with tk := { s1.tk with handDiscard := wrapAdd 32 s1.tk.handDiscard n } }
    | 5 =>
      if !e.wait then handDone 3 s else ok e.cost (handGrant a c.holder s)
    | 6 =>
      if !e.wait then handDone 3 s
      else ok 0 (putAgent a (putHolder c.holder { holderClear e with reclaimed := e.reclaimed, expired := true } g) s)
    | 7 => ok 0 (putAgent a (putHolder c.holder (holderClear e) g) s)
    | 8 => handRestore a s
    | _ => ok 0 (bypEnter false a 5 s)

/-- An operation that waits for its boundary takes effect (R102). Log 36 DESIGN CHOICE. -/
def handBoundary (s : State) : State :=
  match s.tk.cmd with
  | none => s
  | some c => handRun c { s with tk := { s.tk with cmd := none } }

/-- REFILL (R57): a refill boundary. -/
def execRefill (s0 : State) : Host.Outcome State Fault Refusal :=
  let s := fresh s0
  if !clocked s || !s.pb.valid then done s
  else
    let s1 := handBoundary (latchDone s)
    let o := (s1.pb.agents.map Prod.fst).find? (fun a =>
      decide (s1.fault.inj.map Inject.checker = some (0x8000 + a)))
    let i := match o with
      | some a => injCheck (0x8000 + a) s1
      | none => (0, s1)
    let s2 := if i.1 = 1 then reportInj true 0x2008 0 i.2 else if i.1 = 2 then reportInj true 0x2007 0 i.2 else i.2
    let s3 := if fabricHeld s2 then refillIdle s2 else refillSend (refillReports s2)
    let s4 := trcCapture ((Config.freeWord s3.free).toNat % 16384) [1] (trcAgent s3)
      (if trcSources s3 [1] = [] then s3 else { s3 with free := s3.free + 1 })
    done { s4 with tk := { s4.tk with i := s4.tk.i + 1, j := s4.tk.j + 1, win := some (s4.time.k, s4.tk.i) } }

/-! ### The split -/

/-- R59: the room below an Agent's pool ceiling. Log 28 DEDUCED. -/
def roomOf (s : State) (a : Nat) : Nat :=
  let o := tget officeAgent0 a s.tk.office
  (agentMap s a).poolCeil - diff32 o.sent o.repSpent

/-- R59, R78, R89: the GIVEs of one REFILL message, and what each domain leaves to the Booth. Log 28 DEDUCED. -/
def splitRefill (s : State) (b : Nat) (m : RefillMsg) : List (Nat × GiveMsg) × List (Nat × Nat) :=
  let bo := tget booth0 b s.tk.booths
  let ags := (boothAgents s b).filter (served s)
  let w := weightOf bo
  let rcs := offer m.rc (ags.map (fun a => (a, w a, allOnes)))
  let dom := fun d =>
    let mine := ags.filter (fun a => (agentMap s a).dom = d)
    let t := offerTwice (tget 0 d m.amount + (tget boothDom0 (b * 4 + d) s.tk.bds).held)
      (mine.map (fun a => (a, w a, roomOf s a)))
    let sh := offer (tget 0 d m.share) (mine.map (fun a => (a, w a, allOnes)))
    let pc := if tget allOnes d m.pace = allOnes then [] else
      offer (tget allOnes d m.pace) (mine.map (fun a => (a, w a, allOnes)))
    let tag := tget 1 d m.poolTag
    (mine.map (fun a =>
      let slew := tget 0 a rcs
      let pace := tget allOnes a pc
      let share := tget 0 a sh
      (a, ({ refill := m.refill, sample := m.sample, tickets := tget 0 a t.1, rc := min share (min slew pace),
             lease := tget 0 a m.lease, poolTag := tag,
             rateTag := if share < min slew pace then tag else if pace < slew then 6 else 2 } : GiveMsg))),
     (b * 4 + d, t.2))
  let all := (List.range 4).map dom
  (all.flatMap Prod.fst, all.map Prod.snd)

/-- REFILL_MESSAGE (R59): the message at the head of the Booth's channel arrives `late` cycles after its boundary. -/
def execRefillMessage (booth late : Nat) (s0 : State) : Host.Outcome State Fault Refusal :=
  let s := fresh s0
  match tget [] booth s.tk.toBooth with
  | [] => done s
  | m :: r =>
    let s1 : State := { s with tk := { s.tk with toBooth := tset [] booth r s.tk.toBooth,
                                                 chans := chanRecv 0 booth (sumN (m.amount.map Prod.snd)) s.tk.chans } }
    let p := splitRefill s1 booth m
    let s2 : State := { s1 with tk := { s1.tk with
      toAgent := p.1.foldl (fun t q => chanPush q.1 q.2 t) s1.tk.toAgent,
      chans := p.1.foldl (fun t q => chanSend 2 q.1 q.2.tickets t) s1.tk.chans,
      office := p.1.foldl (fun t q => tmod officeAgent0 q.1 (fun o => { o with sent := wrapAdd 32 o.sent q.2.tickets }) t)
        s1.tk.office,
      bds := p.2.foldl (fun t q => tmod boothDom0 q.1 (fun x =>
        { x with held := if m.sample = s.time.edgeN then q.2 else 0 }) t) s1.tk.bds } }
    done (lateMessage late s2)

/-! ### A GIVE -/

/-- R54: the rate that a lease may ask of the GIVE of a refill, as sampled at its boundary, in 2^-24 ticket per ns. -/
def leaseAsk (c : AgentCfg) (refill : Nat) (g : Agent) : Nat := 65536 * min (tget 0 refill g.reqAt) c.maxLease

/-- R54: the rate that the lease ceiling and the pool can cover, in 2^-24 ticket per ns. The lump reservations are the costs of
the holders that are reserving. Log 26 DEDUCED. -/
def leaseCover (lease : Nat) (g : Agent) : Nat :=
  let res := sumN ((g.holders.filter (fun h => h.2.wait && h.2.reserving)).map (fun h => h.2.cost))
  min (65536 * lease) ((poolOf g - res) * 2 ^ 19)

/-- R54: the lease's target rate in 2^-24 ticket per ns. -/
def leaseTarget (c : AgentCfg) (m : GiveMsg) (g : Agent) : Nat := min (leaseAsk c m.refill g) (leaseCover m.lease g)

/-- R64, R75, R84: an Agent when a GIVE arrives; `held` says that it is under a hand hold. -/
def giveAgent (c : AgentCfg) (held : Bool) (m : GiveMsg) (g : Agent) : Agent :=
  let keep := match holderOrder (waitingOf g) with
    | [] => false
    | (_, e) :: _ => e.reason == 2
  let cr := if keep then min g.rcLeft derivedMax else 0
  let g1 : Agent := { g with
    recv := wrapAdd 32 g.recv m.tickets, rcLeft := m.rc + cr, credit := cr,
    poolTag := m.poolTag, rateTag := m.rateTag,
    closed := g.closed ++ [openWindow g],
    winRefill := m.refill, winSample := m.sample, winLump := 0, winAll := 0, leaseCeil := m.lease, wdRun := true, wdCyc := 0 }
  if !c.lease || held || g.engRst then g1
  else
    let t := leaseTarget c m g1
    { g1 with target := t, poolBound := decide (leaseCover m.lease g1 < leaseAsk c m.refill g1), rateQ := min g1.rateQ t, igniting := g1.igniting && decide (g1.rateQ < t) }

/-- GIVE (R64): the GIVE at the head of the Agent's channel. In bypass it is dropped: RECV has stopped. -/
def execGive (agent late : Nat) (s0 : State) : Host.Outcome State Fault Refusal :=
  let s := fresh s0
  match tget [] agent s.tk.toAgent with
  | [] => done s
  | m :: r =>
    let s1 : State := { s with tk := { s.tk with toAgent := tset [] agent r s.tk.toAgent,
                                                 chans := chanRecv 2 agent m.tickets s.tk.chans } }
    if (agentOf s1 agent).byp then done (lateMessage late s1)
    else
      let g := giveAgent (agentMap s1 agent) (handHeld s1 (agentOf s1 agent)) m (agentOf s1 agent)
      let s2 := putAgent agent g s1
      let ign := ignites s2 agent g
      let s3 := if ign then putAgent agent { g with igniting := true }
          { s2 with tk := { s2.tk with ignitions := wrapAdd 32 s2.tk.ignitions 1 } }
        else s2
      done (poolCheck agent (lateMessage late s3))

/-! ### Reports -/

/-- AGENT_REPORT (R61): the report at the head of the Agent's channel reaches its Booth. -/
def execAgentReport (agent late : Nat) (s0 : State) : Host.Outcome State Fault Refusal :=
  let s := fresh s0
  match tget [] agent s.tk.toBoothUp with
  | [] => done s
  | m :: r =>
    done (lateMessage late { s with tk := { s.tk with
      toBoothUp := tset [] agent r s.tk.toBoothUp,
      chans := chanRecv 3 agent m.retNow s.tk.chans,
      booths := tmod booth0 (agent / 64) (fun b => { b with inbox := b.inbox ++ [m] }) s.tk.booths } })

/-- The element at `i` of a list of sample counts advanced by `n`. -/
def histAdd (i n : Nat) (l : List Nat) : List Nat :=
  if i < 16 then
    let p := l ++ List.replicate (i + 1 - l.length) 0
    p.set i (p.getD i 0 + n)
  else l

/-- R68, R74, R88: the grants and returns of one Agent's report, which the Office counts whatever has become of the Agent.
Log 28 DEDUCED. -/
def officeCounts (m : AgentRep) (s : State) : State :=
  let k := m.agent / 64 * 4 + (agentMap s m.agent).dom
  let now := decide (m.retK = s.time.edgeN)
  { s with tk := { s.tk with
      g := m.wins.foldl (fun t w => tset 0 w.refill (tget 0 w.refill t + w.lump) t) s.tk.g,
      bds := tmod boothDom0 k (fun x =>
        { x with granted := m.wins.foldl (fun l w => histAdd (s.time.edgeN - w.sample) w.all l) x.granted,
                 credited := if now then x.credited + m.retNow else x.credited,
                 uncredited := if now then x.uncredited else histAdd (s.time.edgeN - m.retK) m.retNow x.uncredited }) s.tk.bds } }

/-- R60, R61: one Agent's report as the Office takes it: its counters while it is served (R96), and what it granted.
Log 28 DEDUCED. -/
def officeRep (m : AgentRep) (s : State) : State :=
  let t := officeCounts m s
  if served s m.agent then
    { t with tk := { t.tk with
      office := tmod officeAgent0 m.agent (fun o =>
        { o with repSpent := m.spent, repRecv := m.recv, repRet := m.ret, demand := m.demand, credit := m.credit,
                 req := m.req }) t.tk.office } }
  else t

/-- R67: the Office's check of an Agent's counters. Log 39 DEDUCED. -/
def officeBad (s : State) (a : Nat) : Bool :=
  let o := tget officeAgent0 a s.tk.office
  let fl := diff32 o.sent o.repRecv
  let pl := diff32 o.repRecv o.repSpent
  decide (derivedMax < fl ∨ derivedMax < pl ∨ (agentMap s a).poolCeil < fl + pl)

/-- R67, R100: a channel of the Booth, to the Office or to one of its Agents, whose counts differ by more than any tickets on the
network. Log 38 PRESUMED, log 39 DEDUCED. -/
def boothBad (s : State) (b : Nat) : Bool :=
  let bad := fun (kind i : Nat) =>
    let c := tget chan0 (chanKey kind i) s.tk.chans
    decide (derivedMax < diff32 c.tksSent c.tksRecv)
  bad 0 b || bad 1 b || (boothAgents s b).any (fun a => bad 2 a || bad 3 a)

/-- BOOTH_REPORT_SUMMARY (R61): the summary at the head of the Booth's channel reaches the Office. -/
def execBoothReportSummary (booth late : Nat) (s0 : State) : Host.Outcome State Fault Refusal :=
  let s := fresh s0
  match tget [] booth s.tk.toOffice with
  | [] => done s
  | l :: r =>
    let s1 : State := { s with tk := { s.tk with
      toOffice := tset [] booth r s.tk.toOffice,
      chans := chanRecv 1 booth (sumN (l.map AgentRep.retNow)) s.tk.chans,
      booths := tmod booth0 booth (fun b => { b with missed := 0 }) s.tk.booths } }
    if boothFailed s1 booth then done (lateMessage late (l.foldl (fun x m => officeCounts m x) s1))
    else
      let s2 := l.foldl (fun x m => officeRep m x) s1
      let bad := (l.map AgentRep.agent).filter (fun a => served s2 a && officeBad s2 a)
      let s3 := bad.foldl (fun x a => bypEnter false a 1 x) (lateMessage late s2)
      done (if boothBad s3 booth then boothFail false booth s3 else s3)

/-- BOOTH_REPORT_TIMEOUT (R100): no summary since the fourth boundary back: missing at three consecutive boundaries. -/
def execBoothReportTimeout (booth : Nat) (s0 : State) : Host.Outcome State Fault Refusal :=
  let s := fresh s0
  if decide (4 ≤ (tget booth0 booth s.tk.booths).missed) && (boothKeys s).contains booth && !fabricHeld s then
    done (boothFail false booth s)
  else done s

/-- R44, R98: the RESYNC message crosses the channels of the Agent's Booth and of the Agent; a GIVE that was still on its way
has arrived in bypass before it. Log 35 DEDUCED. -/
def resyncChans (s : State) (agent : Nat) : Tab Chan :=
  let t := (tget [] agent s.tk.toAgent).foldl (fun t m => chanRecv 2 agent m.tickets t) s.tk.chans
  let b := agent / 64
  chanRecv 2 agent 0 (chanSend 2 agent 0 (chanRecv 0 b 0 (chanSend 0 b 0 t)))

/-- RESYNC (R98): SENT reaches an Agent whose RESTORE waits; the Agent leaves bypass with an empty pool. A cause that has come to
persist meanwhile refuses the RESTORE. A lease restarts from a rate of 0. Log 35 DEDUCED. -/
def execResync (agent : Nat) (s0 : State) : Host.Outcome State Fault Refusal :=
  let s := fresh s0
  let g := agentOf s agent
  if !g.resyncWait then done s
  else if restoreRefused s agent then done (handDone 6 (putAgent agent { g with resyncWait := false } s))
  else
    let o := tget officeAgent0 agent s.tk.office
    let g1 : Agent := { g with
      byp := false, resyncWait := false, recv := o.sent, spent := o.sent, causesSeen := 0, bucket := 0, rcLeft := 0, credit := 0,
      winLump := 0, winAll := 0, rateQ := 0, target := 0, igniting := false, took := 0 }
    let s1 := putAgent agent g1 s
    done (handDone 0 { s1 with tk := { s1.tk with
      toAgent := tset [] agent [] s1.tk.toAgent,
      chans := resyncChans s1 agent,
      office := tset officeAgent0 agent { o with repSpent := o.sent, repRecv := o.sent, repRet := g.ret, rejoin := true }
        s1.tk.office } })

end Sys2Proof.Machine
end

