-- ==== Sys2Proof/Machine/Thermal.lean ====
section
/-! DEFINITION. Thermal sites (R248, R249), the thresholds in force (R251, R253, R263), the throttle handshake, its grace and
enforcement (R257 to R261), and the coolant inputs (R270 to R272, R396). -/

namespace Sys2Proof.Machine

open Sys2Proof

/-! ### Thresholds -/

/-- R207, R251: the lower of a design copy and a management copy; 0 Warning entry, 1 Warning release, 2 Throttle entry,
3 Throttle release, 4 Shutdown. -/
def thrCopy (m : ThermSt) (which : Nat) (design : Int) : Int :=
  if m.mgmtSet.contains which then min design (tget 0 which m.mgmt) else design

/-- R263: the Shutdown entry in force: the lowest of the wired threshold, the limits section's and management's, and never
below 90.0 °C. -/
def shutEff (par : Params) (c : ThermCfg) (m : ThermSt) : Int := max 1440 (min par.curtWired (thrCopy m 4 c.shut))

/-- R251: the effective thresholds; a release is limited to half a degree below its entry. -/
def thrEff (par : Params) (c : ThermCfg) (m : ThermSt) : ThrEff :=
  let w := thrCopy m 0 c.warn
  let t := thrCopy m 2 c.thr
  { warn := w, warnRel := min (thrCopy m 1 c.warnRel) (w - 8), thr := t, thrRel := min (thrCopy m 3 c.thrRel) (t - 8),
    shut := shutEff par c m }

/-- The thresholds of the block. -/
def thrNow (s : State) : ThrEff := thrEff s.par s.pb.therm s.therm

/-- R253: the thermal target from THM_TARGET. -/
def thmTargetOf (e : ThrEff) (reg : Nat) : Int := clampI 800 (e.thr - 16) (signedOf 16 (bits reg 15 0))

/-- R253: a value of THM_TARGET outside its range is replaced by the nearest limit. -/
def writeTarget (w : Nat) (s : State) : State := putReg 0x8010 (twos 16 (thmTargetOf (thrNow s) w)) s

/-- R253: THM_TARGET once a lowered Throttle threshold has moved its limit. -/
def targetKeep (s : State) : State := writeTarget (wreg s 0x8010) s

/-! ### Sites -/

/-- R248, R11: a reading with its trim offset and gain, in 1/16 °C, a signed 16-bit value. One at a limit lies outside the range of
R249, whose fault records it. Log 65 PRESUMED. -/
def siteTrim (c : SiteCfg) (raw : Int) : Int := clampI (-32768) 32767 (roundEven (raw * c.gain) 65536 + c.off)

/-- Table 9-1: CAUSE bits. -/
def causeTimeout : Nat := 1
def causeParity : Nat := 2
def causeRange : Nat := 4
def causeJump : Nat := 8

/-- R249: the causes that a trimmed reading gives. -/
def readingCause (old : Option Int) (y : Int) : Nat :=
  (if y < -640 ∨ 2400 < y then causeRange else 0) +
    (match old with
     | some p => if y + 320 < p then causeJump else 0
     | none => 0)

/-- Log 69 DEDUCED. -/
def putSite (i : Nat) (x : SiteSt) (s : State) : State :=
  { s with therm := { s.therm with sites := tset siteSt0 i x s.therm.sites } }

/-- R249: a site takes causes; a cause that it did not have declares it broken. Log 69 DEDUCED. -/
def siteBreak (inj : Bool) (i c : Nat) (s : State) : State :=
  let x := tget siteSt0 i s.therm.sites
  if x.cause ||| c = x.cause then s
  else raise 7 2 (reportInj inj 0x7001 (i : Int) (putSite i { x with cause := x.cause ||| c } s))

/-- THERMAL_SITE_READ (R248): a raw reading in 1/16 °C, and whether it passed the network's parity check. -/
def execThermalSiteRead (site : Nat) (raw : Int) (parityOk : Bool) (s0 : State) : Host.Outcome State Fault Refusal :=
  let s := fresh s0
  match tlook site s.pb.therm.sites with
  | none => done s
  | some c =>
    if !clocked s then done s
    else
      let i := injParity (0x9000 + site) s
      let s1 := i.2
      let x := tget siteSt0 site s1.therm.sites
      if !parityOk || i.1 then
        let inj := parityOk && i.1
        let s2 := putSite site { x with parity := true } { s1 with therm := { s1.therm with
          parityDiscard := wrapAdd 16 s1.therm.parityDiscard 1 } }
        done (if x.parity then siteBreak inj site causeParity s2 else reportInj inj 0x7002 (site : Int) s2)
      else
        let y := siteTrim c raw
        let s2 := putSite site { x with reading := some y, readId := x.readId + 1, since := s1.time.up, parity := false } (arrived (srcSite site) s1)
        done (siteBreak false site (readingCause x.reading y) s2)

/-- SITE_TIMEOUT (R249): no reading has been accepted for 24 µs. -/
def execSiteTimeout (site : Nat) (s0 : State) : Host.Outcome State Fault Refusal :=
  let s := fresh s0
  let x := tget siteSt0 site s.therm.sites
  if (tlook site s.pb.therm.sites).isSome && clocked s && images s &&
      decide (x.since + 24 ≤ s.time.up) then
    done (siteBreak false site causeTimeout s)
  else done s

/-! ### The throttle handshake -/

/-- THR_LVL as driven (R258, R309): 15 while the hold outputs are driven. -/
def thrLevel (s : State) : Nat := if holdOut s then 15 else s.therm.level

/-- THR_ACK (R258): ACK_LVL takes the level shown; one that reaches THR_LVL stops the grace timer. -/
def execThrAck (s0 : State) : Host.Outcome State Fault Refusal :=
  let s := fresh s0
  if !s.start.blkUp then done s
  else
    let a := thrLevel s
    done { s with therm := { s.therm with
      ackLvl := a, exceeds := decide (a < s.therm.level),
      grace := if s.therm.level ≤ a then none else s.therm.grace,
      enfDue := s.therm.enfDue && decide (a < s.therm.level) } }

/-- R260: (256 − L × ENF_STEP), the numerator of the enforcement cap. Log 66 DEDUCED. -/
def enfNum (s : State) : Nat := 256 - s.therm.level * bits (areg s 0x8014) 31 28

/-- R260: enforcement begins: P_ref is the P_ctl of the sample before its edge. -/
def enfBegin (force : Bool) (s : State) : State :=
  let p := s.core.app.est.pCtl
  raise 7 1 { s with therm := { s.therm with
    enforcing := true, grace := none, enfDue := false, pRef := p,
    enfHost := s.core.app.therm.host, cEnf := (roundEven ((p * enfNum s : Nat) : Int) 256).toNat,
    enfEntries := wrapAdd 8 s.therm.enfEntries 1, forceEnf := wrapInc 8 force s.therm.forceEnf } }

/-- R260: every quota applied at the starting edge is limited. -/
def enfQuota (s : State) : State :=
  let n := enfNum s
  let cut := fun (o : CoreOut) =>
    { o with cap := { o.cap with quota := tadj 0 (fun _ q => q * n / 256) o.cap.quota } }
  { s with core := { s.core with app := cut s.core.app, out := cut s.core.out } }

/-- R260 in a sample whose budgets stand already: each budget under its limited quota. -/
def enfBudget (s : State) : State :=
  let n := enfNum s
  let span := lifeSpan s.time.pSel
  let f := fun (x : BoothDom) =>
    let q := x.quota * n / 256
    let out := sumN ((x.granted.drop 1).take (span - 1)) - sumN ((x.uncredited.drop 1).take (span - 1))
    let g := min x.gk (min (q - x.bypCharge) ((q - x.bypCharge) * span - out))
    { x with quota := q, gk := g, send := x.send - (x.gk - g) }
  { s with tk := { s.tk with bds := tadj boothDom0 (fun _ x => f x) s.tk.bds } }

/-- The cap that the sample in progress works under. -/
def enfImage (s : State) : State :=
  { s with core := { s.core with im := { s.core.im with
    enf := some s.therm.cEnf, enfHost := s.therm.enfHost } } }

/-- GRACE_EXPIRY (R259): sent before the edge at which the timer expires, enforcement begins at that edge; sent after it,
enforcement begins in the sample that the edge started. Log 7 DESIGN CHOICE. -/
def execGraceExpiry (s0 : State) : Host.Outcome State Fault Refusal :=
  let s := fresh s0
  match s.therm.grace with
  | none => done s
  | some g =>
    if !running s then done s
    else if g ≤ s.time.k then done (enfImage (enfBudget (enfBegin false s)))
    else if g = s.time.k + 1 then done { s with therm := { s.therm with enfDue := true } }
    else done s

/-- G of R259 in samples. -/
def graceSamples (s : State) : Nat := ceilDiv (bits (areg s 0x8014) 13 0 * 1000) (periodNs s.time.pSel)

/-- The level that O_k applies, and the acknowledgement under it (R258). Log 66 DEDUCED. -/
def levelEdge (s : State) : State :=
  let l := s.core.app.therm.level
  { s with therm := { s.therm with level := l, ackLvl := min s.therm.ackLvl l } }

/-- R259, R261: enforcement and grace at an edge that applies a level. `forced` is the forced start of the sample that has
ended. -/
def enfEdge (forced : Bool) (s : State) : State :=
  let t := s.therm
  let ex := decide (t.ackLvl < t.level)
  let s1 : State := { s with therm := { t with exceeds := ex } }
  if t.level = 0 then
    { s1 with therm := { s1.therm with enforcing := false, grace := none, enfDue := false, cEnf := 0 } }
  else if t.enforcing then
    { s1 with therm := { s1.therm with
      cEnf := (roundEven ((t.pRef * enfNum s : Nat) : Int) 256).toNat, enfHost := s.core.app.therm.host } }
  else if forced then enfQuota (enfBegin true s1)
  else if t.enfDue then enfQuota (enfBegin false s1)
  else if ex && !t.exceeds && t.grace.isNone then
    if graceSamples s = 0 then enfQuota (enfBegin true s1)
    else { s1 with therm := { s1.therm with grace := some (s.time.k + graceSamples s) } }
  else s1

/-- The throttle side of a sample edge; `old` is the thermal state applied before it, and `forced` the forced start that the
sample latched. -/
def thermEdge (old : Nat) (forced : Bool) (s : State) : State :=
  raiseIf (old != s.core.app.therm.state) 7 0 (enfEdge forced (levelEdge s))

/-! ### Coolant -/

/-- R270: the heartbeat watchdog at the LIVE edge: it starts as if an edge had been accepted there. Log 68 DEDUCED. -/
def coolStart (s : State) : State :=
  { s with therm := { s.therm with wdRun := true, hbUp := some s.time.up, lastHb := none, hbRun := none } }

/-- COOL_HB_EDGE (R396): an edge at an instant in ns. Before LIVE it starts nothing. Log 68 DEDUCED. -/
def execCoolHbEdge (ns : Nat) (s0 : State) : Host.Outcome State Fault Refusal :=
  let s := fresh s0
  if !s.start.live || !s.start.blkUp then done s
  else
    let ok := match s.therm.lastHb with
      | none => true
      | some t => decide (t + 400000 ≤ ns ∧ ns ≤ t + 600000)
    if ok then
      done { s with therm := { s.therm with
        lastHb := some ns, hbUp := some s.time.up, hbOk := true, wdRun := true, hbRun := some (s.therm.hbRun.getD ns) } }
    else done { s with port := { s.port with hbBad := wrapAdd 8 s.port.hbBad 1 } }

/-- COOL_HB_EXPIRY (R271): HB_TO has passed without an accepted edge. The next edge is accepted whatever its spacing. HB_TO is longer
than a tick, so an expiry in the tick interval of an accepted edge is one that the edge has met in its cycle, and the edge wins
(R82). Log 7 DESIGN CHOICE. -/
def execCoolHbExpiry (s0 : State) : Host.Outcome State Fault Refusal :=
  let s := fresh s0
  if !s.therm.wdRun || !s.start.blkUp || (clocked s && s.therm.hbUp == some s.time.up) then done s
  else
    let s1 : State := { s with therm := { s.therm with
      coolFault := true, hbOk := false, wdRun := false, lastHb := none, hbRun := none,
      hbLosses := wrapAdd 8 s.therm.hbLosses 1 } }
    done (raise 7 3 (report 0x9001 0 s1))

/-- COOL_FAULT_CLOSE (R271): one second of edges, each within HB_TO of the one before. -/
def execCoolFaultClose (s0 : State) : Host.Outcome State Fault Refusal :=
  let s := fresh s0
  match s.therm.hbRun, s.therm.lastHb with
  | some a, some b =>
    if a + 1000000000 ≤ b then done { s with therm := { s.therm with coolFault := false } } else done s
  | _, _ => done s

/-- R272: the pair reads dry. Log 68 DEDUCED. -/
def leakDry (p n : Bool) : Bool := !p && n

/-- LEAK_STATE (R272): the filtered pair changes; a leak state runs LEAK_FILT, a dry one ends it. Log 68 DEDUCED. -/
def execLeakState (p n : Bool) (s0 : State) : Host.Outcome State Fault Refusal :=
  let s := fresh s0
  let new := p != s.therm.leakP || n != s.therm.leakN || !s.therm.leakFault
  if !s.start.blkUp then done s
  else done { s with therm := { s.therm with
    leakP := p, leakN := n, leakRun := !leakDry p n && (s.therm.leakRun || new) } }

/-- LEAK_FILT_EXPIRY (R272). LEAK_ACTION is the limits section's. -/
def execLeakFiltExpiry (s0 : State) : Host.Outcome State Fault Refusal :=
  let s := fresh s0
  if !s.therm.leakRun || !s.start.blkUp then done s
  else
    let n := wrapAdd 8 s.therm.leakEvents 1
    let act := s.pb.cap.leakAction
    let s1 : State := { s with therm := { s.therm with
      leakRun := false, leakFault := true, leakEvents := n, leakHold := s.therm.leakHold || act == 1 } }
    let s2 := raise 7 4 (alert 0x41 [s.therm.leakP.toNat + 2 * s.therm.leakN.toNat, n] s1)
    done (report (if act = 1 then 0x9003 else 0x9002) 0 s2)

end Sys2Proof.Machine
end

