-- ==== Sys2Proof/Machine/Curtain.lean ====
section
/-! DEFINITION. The Safety Curtain: thresholds (R263, R268), reads of the sensor pairs (R265), trips (R266, R267, R269),
rail-off frames (R407), and the redirection of an injection into its path (R342). -/

namespace Sys2Proof.Machine

open Sys2Proof

/-! ### Thresholds -/

/-- R263: the threshold in force; without a valid image it is the wired one. -/
def curtThr (s : State) : Int := if s.pb.valid then shutEff s.par s.pb.therm s.therm else s.par.curtWired

/-- R268: the restart temperature: the wired 85.0 °C, which the limits section may lower. Log 67 DEDUCED. -/
def curtRestart (s : State) : Int :=
  if s.pb.valid then max 800 (min (min 1360 s.pb.therm.restart) (curtThr s - 160)) else 1360

/-- R268: the cooling time in ms: the wired 2 s, which the limits section may lengthen. -/
def curtCoolMs (s : State) : Nat := if s.pb.valid then clampN 2000 60000 s.pb.therm.coolMs else 2000

/-- Cycles of the Curtain oscillator in a second at its fastest rate (R268). -/
def curtHz : Nat := 27500000

/-- R269: trips within the last 3,600 s, 0 to 4. Log 67 DEDUCED. -/
def tripsHour (c : CurtSt) : Nat := (c.times.filter (fun t => decide (c.cyc ≤ t + 3600 * curtHz))).length

/-! ### Sensors and pairs -/

/-- R265: one sensor after a read: its last reading, its reads without a conversion, and whether it has failed.
Log 67 DEDUCED. -/
def sensRead (i : Nat) (r : Option Int) (c : CurtSt) : CurtSt :=
  let fail := fun (b : Bool) => if b then (if c.failed.contains i then c.failed else c.failed ++ [i])
    else c.failed.filter (· != i)
  match r with
  | some y => { c with reading := tset 0 i y c.reading, noConv := terase i c.noConv,
                       failed := fail (decide (y < -640 ∨ 2560 < y)) }
  | none =>
    let n := min 2 (tget 0 i c.noConv + 1)
    { c with noConv := tset 0 i n c.noConv, failed := fail (c.failed.contains i || n == 2) }

/-- R265: the pair value; none when both sensors have failed. Log 67 DEDUCED. -/
def pairValue (c : CurtSt) (p : Nat) : Option Int :=
  let ok := fun i => !c.failed.contains i
  let v := fun i => tget (0 : Int) i c.reading
  if ok (2 * p) && ok (2 * p + 1) then some (max (v (2 * p)) (v (2 * p + 1)))
  else if ok (2 * p) then some (v (2 * p))
  else if ok (2 * p + 1) then some (v (2 * p + 1))
  else none

/-- R265: a pair after a read: its run of reads on which its sensors differ, and whether it has just reached four. -/
def pairDiffer (c : CurtSt) (p : Nat) : Nat × Bool :=
  let n := tget 0 p c.disRun
  if c.failed.contains (2 * p) || c.failed.contains (2 * p + 1) then (if 4 ≤ n then n else 0, false)
  else if ((tget (0 : Int) (2 * p) c.reading) - tget (0 : Int) (2 * p + 1) c.reading).natAbs ≤ 128 then (0, false)
  else (min 4 (n + 1), n == 3)

/-- The disagreement counts of every pair, and whether a pair disagrees for the fourth read. -/
def pairsDiffer (c : CurtSt) : CurtSt × Bool :=
  (List.range 8).foldl (fun (x : CurtSt × Bool) p =>
    let d := pairDiffer c p
    ({ x.1 with disRun := tset 0 p d.1 x.1.disRun,
                disagree := if d.2 then tmod 0 p (fun n => wrapAdd 8 n 1) x.1.disagree else x.1.disagree }, x.2 || d.2)) (c, false)

/-- R265: a pair value at or above the threshold; a pair without a sensor counts as above. -/
def pairAbove (c : CurtSt) (thr : Int) (p : Nat) : Bool :=
  match pairValue c p with
  | some v => decide (thr ≤ v)
  | none => true

/-- R268: every pair value is below the restart temperature. -/
def allCool (c : CurtSt) (restart : Int) : Bool :=
  (List.range 8).all (fun p => match pairValue c p with
    | some v => decide (v < restart)
    | none => false)

/-! ### A trip -/

/-- R266, R407: RAIL_OFF to every rail, once. -/
def railOff (s : State) : State := friSend 3 63 0 s

/-- R407: what a trip does on the Fast Rail Interface: three frames at once, and the telemetry phase is abandoned, its round
incomplete (Table 15-15). -/
def railOffAll (s : State) : State :=
  if !clocked s then s
  else
    let s1 := railOff (railOff (railOff s))
    let s2 := match s1.tel.phase with
      | some t => telEnd false t s1
      | none => s1
    { s2 with port := { s2.port with off := List.range 32 } }

/-- R252: the thermal state is Shutdown from a trip until the restart, whose start sequence begins with Normal.
Log 67 DEDUCED. -/
def thermShut (s : State) : State :=
  let f := fun (o : CoreOut) => { o with therm := { o.therm with state := 3 } }
  { s with core := { s.core with app := f s.core.app, out := f s.core.out } }

/-- R266, R269: the Curtain trips on a pair: its outputs, its trip record, torn stores, the class S fault. A fourth trip within
3,600 s of the earliest of the three before it sets Lockout. Log 67 DEDUCED. -/
def curtTrip (p : Nat) (s : State) : State :=
  if s.curt.tripped then s
  else
    let c := s.curt
    let v := (pairValue c p).getD ((Config.freeWord s.free).toNat % 65536 : Nat)
    let lock := ((c.times.drop 2).take 1).any (fun t => decide (c.cyc ≤ t + 3600 * curtHz))
    let more : List (Nat × Int) := if lock then [(0x8006, 0)] else []
    let c1 : CurtSt := { c with
      tripped := true, tripPair := p, trips := wrapAdd 16 c.trips 1, times := (c.cyc :: c.times).take 4,
      coolFrom := none, lockout := c.lockout || lock, lockCause := if lock && !c.lockout then 2 else c.lockCause }
    let s1 := thermShut (bookTorn (marginTorn { s with curt := c1, free := s.free + 1 }))
    let s2 := railOffAll (emit (.curtain true false) s1)
    let s3 := raise 7 0 (raiseIf (decide (tripsHour c1 = 3)) 8 2 s2)
    reportAll ((0x8001, (p : Int) * 65536 + v) :: more) s3

/-- R267: Lockout from a failure of a checker or of the self-test. -/
def curtLock (cause code : Nat) (s : State) : State :=
  if s.curt.lockout then s
  else report code 0 { s with curt := { s.curt with lockout := true, lockCause := cause } }

/-! ### A read -/

/-- R342: an injection's inversion of one channel of a pair in this read. -/
def curtFlip (s : State) (n : Nat) : Bool :=
  match s.fault.inj with
  | some j => j.checker == 0xB000 + n && j.mask.testBit 0
  | none => false

/-- R341, R342: the check of the pair under injection has been made: LEFT falls, and two reads after it reaches 0 the
redirection ends. -/
def curtCheck (s : State) : State :=
  match s.fault.underTest with
  | none => s
  | some n =>
    match s.fault.inj with
    | some _ => (injCheck (0xB000 + n) s).2
    | none =>
      if 2 ≤ s.fault.redirect then { s with fault := { s.fault with redirect := s.fault.redirect - 1 } }
      else { s with fault := { s.fault with redirect := 0, underTest := none, curtDone := true } }

/-- What the channels of every pair found in a read, against the read before (R266, R267, R342): pairs that trip, pairs whose
checker has failed, and whether the pair under injection showed its failure. -/
def curtJudge (s : State) (old new : CurtSt) : List Nat × List Nat × Bool :=
  let twice := fun (f : CurtSt → List Nat) p => (f old).contains p && (f new).contains p
  let under := fun p => match s.fault.underTest with
    | some n => n / 2 == p
    | none => false
  let trips := (List.range 8).filter (fun p =>
    if under p then
      (if s.fault.underTest.getD 0 % 2 = 0 then twice CurtSt.checker p else twice CurtSt.primary p)
    else twice CurtSt.primary p && twice CurtSt.checker p)
  let bad := (List.range 8).filter (fun p => twice CurtSt.split p)
  (trips, bad.filter (fun p => !under p), bad.any under)

/-- The Curtain's registers after a read. -/
def curtSense (readings : List (Option Int)) (split : List Nat) (thr restart : Int) (flip : Nat → Bool) (c : CurtSt) : CurtSt :=
  let c1 := (List.range 16).foldl (fun x i => sensRead i (readings.getD i none) x) { c with cyc := c.cyc + 50 }
  let c2 := (pairsDiffer c1).1
  let ch0 := fun p => pairAbove c2 thr p != flip (2 * p)
  let ch1 := fun p => (pairAbove c2 thr p != split.contains p) != flip (2 * p + 1)
  { c2 with
    primary := (List.range 8).filter ch0, checker := (List.range 8).filter ch1,
    split := (List.range 8).filter (fun p => ch0 p != ch1 p),
    coolFrom := if allCool c2 restart then some (c.coolFrom.getD c2.cyc) else none }

/-- CURTAIN_READ (R265): a reading or no conversion for each of the 16 sensors, and the pairs whose checker channel differs from
the primary. -/
def execCurtainRead (readings : List (Option Int)) (split : List Nat) (s0 : State) : Host.Outcome State Fault Refusal :=
  let s := fresh s0
  if !s.start.aoUp then done s
  else
    let old := s.curt
    let new := curtSense readings split (curtThr s) (curtRestart s) (curtFlip s) old
    let failed := new.failed.any (fun i => !old.failed.contains i)
    let differ := (List.range 8).any (fun p => (pairDiffer { new with disRun := old.disRun } p).2)
    let j := curtJudge s old new
    let s1 := curtCheck { s with curt := new }
    let s2 : State := { s1 with fault := { s1.fault with curtInjSeen := s1.fault.curtInjSeen || j.2.2 } }
    let s3 := reportAll ((if failed then [(0x8002, 0)] else []) ++ (if differ then [(0x8003, 0)] else [])) s2
    let s4 := raiseIf (failed || differ) 8 0 s3
    let s5 := match j.1.head? with
      | some p => curtTrip p s4
      | none => s4
    done (match j.2.1.head? with
      | some p => curtLock 3 0x8004 (curtTrip p s5)
      | none => s5)

/-- RAIL_OFF_REPEAT (R407): while the Curtain's outputs stay asserted and the block supply is up. -/
def execRailOffRepeat (s0 : State) : Host.Outcome State Fault Refusal :=
  let s := fresh s0
  if (s.curt.tripped || s.curt.lockout) && clocked s then done (railOff s) else done s

/-- R268: the cooling time has passed since every pair value fell below the restart temperature. -/
def curtCooled (s : State) : Bool :=
  match s.curt.coolFrom with
  | some c => decide (c + curtCoolMs s * (curtHz / 1000) ≤ s.curt.cyc)
  | none => false

end Sys2Proof.Machine
end

