-- ==== Sys2Proof/Machine/Image.lean ====
section
/-! DEFINITION. The Playbill image as the loader reads it: header (R313), sections and items (R314, R315), calibration (R316),
signature block (R317), the order of the checks (R319), the content rules (R449 and the rules that R319 names) and the slot
table (R113 to R117). -/

namespace Sys2Proof.Machine

open Sys2Proof

/-- A rejection (R319): REASON, SECT_TYPE, DETAIL and the byte offset. -/
structure Bad where
  reason : Nat
  sect : Nat
  detail : Nat
  off : Nat
  deriving DecidableEq, Repr

/-- Where an image is read from: the word at a byte offset of the image, and the offset of the calibration section. -/
structure Src where
  rd : Nat → Nat
  cal : Nat

/-- The first failure of a list of checks. -/
def firstBad (l : List (Option Bad)) : Option Bad := l.findSome? id

/-- A check that fails where a condition does not hold. -/
def need (ok : Bool) (reason sect detail off : Nat) : Option Bad := if ok then none else some ⟨reason, sect, detail, off⟩

/-! ### Words and bytes -/

def srcWords (rd : Nat → Nat) (off n : Nat) : List Nat := (List.range n).map (fun i => rd (off + 4 * i))
def srcByte (rd : Nat → Nat) (off : Nat) : Nat := rd (off / 4 * 4) / 256 ^ (off % 4) % 256
def srcBytes (rd : Nat → Nat) (off n : Nat) : List Nat := (List.range n).map (fun i => srcByte rd (off + i))

/-- An image in flash, read by its own header. -/
def flashSrc (t : Tab Nat) : Src := ⟨flashWord t, flashWord t 28⟩
/-- An image in a host stream: the calibration section follows the image directly (R322). -/
def streamSrc (ws : List Nat) : Src := ⟨fun o => at' 0 ws (o / 4), at' 0 ws 2⟩

/-! ### Header, sections and items -/

/-- R319 step 1. The version accepted is 3 with a minor of at most 2 (R1, R5). -/
def headerBad (build : Nat) (rd : Nat → Nat) : Option Bad :=
  let len := rd 8
  let cal := rd 28
  firstBad [
    need (rd 0 == 0x4B504C42) 0x10 0 0 0,
    need (rd 4 == 0x00030040) 0x10 0 0 4,
    need (rd 60 == crc32c (bytesOfWords (srcWords rd 0 15))) 0x10 0 0 60,
    need (len % 4 == 0 && decide (268 ≤ len ∧ len ≤ cal)) 0x11 0 0 8,
    need (rd 24 == len - 204) 0x11 0 0 24,
    need (cal % 4096 == 0 && decide (cal + 65536 ≤ 0x800000)) 0x11 0 0 28,
    need (bits (rd 12) 31 24 == 3 && decide (bits (rd 12) 23 16 ≤ 2)) 0x12 0 0 12,
    need ((rd 20).testBit build) 0x13 0 0 20]

/-- One item of a section: TYPE, ITEM, offset of its data and its length in words. -/
structure Item where
  type : Nat
  item : Nat
  off : Nat
  len : Nat
  deriving DecidableEq, Repr

/-- Table 11-6: the items of a section; none for a type that 3.2 does not know. -/
def knownItems (type : Nat) : List Nat :=
  match type with
  | 1 => [1, 2, 3]
  | 3 => [1, 2, 3, 4, 5, 6, 7, 8]
  | 4 => [1, 2, 3, 4, 5]
  | 5 => [1, 2, 3]
  | 6 => [1]
  | 7 => [1, 2, 3, 4]
  | 8 => [1, 2, 3, 4, 5, 6]
  | 9 => [1, 2, 3, 4]
  | 10 => [1, 2]
  | 11 => [1]
  | _ => []

/-- Items without defaults in the manual (R314): their absence rejects the image. A Lite build has no correction network.
Log 91 PRESUMED. -/
def neededItems (build type : Nat) : List Nat :=
  match type with
  | 1 => [1, 2, 3]
  | 3 => [2, 3, 4]
  | 4 => [1, 2, 3, 4, 5]
  | 5 => [1, 2]
  | 6 => [1]
  | 7 => [1, 2, 3, 4]
  | 8 => if build = 2 then [1, 2, 4, 5, 6] else [1, 2, 3, 4, 5, 6]
  | 9 => [1, 2, 3]
  | 10 => [1, 2]
  | _ => []

/-- The items of a body from `off` to `stop`: the first failure, and the items found. Log 92 DEDUCED. -/
def itemWalk (rd : Nat → Nat) (type stop : Nat) : Nat → Nat → List Item → Option Bad × List Item
  | 0, _, acc => (none, acc)
  | f + 1, off, acc =>
    if stop ≤ off then (none, acc)
    else
      let w0 := rd off
      let n := rd (off + 4)
      let i := bits w0 7 0
      if stop < off + 8 + 4 * n then (some ⟨0x20, type, i, off⟩, acc)
      else if (knownItems type).contains i then itemWalk rd type stop f (off + 8 + 4 * n) (acc ++ [⟨type, i, off + 8, n⟩])
      else if w0.testBit 31 then (some ⟨0x22, type, i, off⟩, acc)
      else itemWalk rd type stop f (off + 8 + 4 * n) acc

/-- R319 step 2 for the sections from `off` on; `least` is the least TYPE that may follow. Types ascend strictly, so 256 sections
bound it. -/
def sectWalk (build : Nat) (rd : Nat → Nat) (sig : Nat) : Nat → Nat → Nat → List Item → Option Bad × List Item
  | 0, _, _, acc => (none, acc)
  | f + 1, off, least, acc =>
    if sig ≤ off then (none, acc)
    else
      let type := bits (rd off) 31 24
      let len := rd (off + 4)
      let body := off + 16
      let known := knownItems type ≠ []
      if sig < body + len ∨ len % 4 ≠ 0 then (some ⟨0x20, type, 0, off + 4⟩, acc)
      else if type < least ∨ type = 2 then (some ⟨0x23, type, 0, off⟩, acc)
      else if ¬known ∧ (rd off).testBit 23 = true then (some ⟨0x22, type, 0, off⟩, acc)
      else if rd (off + 8) ≠ crc32c (bytesOfWords (srcWords rd body (len / 4))) then (some ⟨0x21, type, 0, off + 8⟩, acc)
      else if ¬known then sectWalk build rd sig f (body + len) (type + 1) acc
      else
        let w := itemWalk rd type (body + len) (len / 8 + 1) body []
        let lack := (neededItems build type).find? (fun i => w.2.all (fun x => x.item ≠ i))
        match w.1, lack with
        | some b, _ => (some b, acc)
        | none, some i => (some ⟨0x23, type, i, body⟩, acc)
        | none, none => sectWalk build rd sig f (body + len) (type + 1) (acc ++ w.2)

/-- The sections of an image: what fails, and the items. Sections 1 and 3 to 9 must be present (R315). -/
def sections (build : Nat) (rd : Nat → Nat) : Option Bad × List Item :=
  let sig := rd 24
  let w := sectWalk build rd sig 256 64 0 []
  match w.1, [1, 3, 4, 5, 6, 7, 8, 9].find? (fun t => w.2.all (fun x => x.type ≠ t)) with
  | some b, _ => (some b, w.2)
  | none, some t => (some ⟨0x23, t, 0, sig⟩, w.2)
  | none, none => (none, w.2)

/-- R319 step 3. -/
def signBad (rd : Nat → Nat) : Option Bad :=
  let sig := rd 24
  firstBad [need (rd sig == 0x4B534947) 0x30 0 0 sig, need (rd (sig + 4) % 65536 == 1) 0x30 0 0 (sig + 4)]

/-- The data of an item; nothing where it is absent. -/
def itemData (rd : Nat → Nat) (l : List Item) (type item : Nat) : List Nat :=
  match l.find? (fun x => x.type = type && x.item = item) with
  | some x => srcWords rd x.off x.len
  | none => []
def itemHere (l : List Item) (type item : Nat) : Bool := l.any (fun x => x.type = type && x.item = item)
def itemOff (l : List Item) (type item : Nat) : Nat :=
  ((l.find? (fun x => x.type = type && x.item = item)).map Item.off).getD 0

/-- Items of a calibration body by number: every item is known there, so the walk is its own. -/
def calWalk (rd : Nat → Nat) (stop : Nat) : Nat → Nat → List Item → List Item
  | 0, _, acc => acc
  | f + 1, off, acc =>
    let n := rd (off + 4)
    if stop < off + 8 + 4 * n then acc
    else calWalk rd stop f (off + 8 + 4 * n) (acc ++ [⟨2, bits (rd off) 7 0, off + 8, n⟩])

/-- PART_ID (R316). -/
def calPart (x : Src) : Nat :=
  let len := x.rd (x.cal + 4)
  let d := itemData x.rd (calWalk x.rd (x.cal + 16 + len) (len / 8 + 1) (x.cal + 16) []) 2 1
  at' 0 d 0 + 2 ^ 32 * at' 0 d 1

/-- R319 step 4, R316. -/
def calBad (x : Src) : Option Bad :=
  let len := x.rd (x.cal + 4)
  firstBad [
    need (bits (x.rd x.cal) 31 24 == 2 && (x.rd x.cal).testBit 23) 0x50 2 0 x.cal,
    need (len % 4 == 0 && decide (len ≤ 65520)) 0x50 2 0 (x.cal + 4),
    need (x.rd (x.cal + 8) == crc32c (bytesOfWords (srcWords x.rd (x.cal + 16) (len / 4)))) 0x50 2 0 (x.cal + 8),
    need (calPart x != 0 && calPart x != 2 ^ 64 - 1) 0x50 2 1 (x.cal + 16)]

/-- R319 steps 1 to 4, as READ makes them. -/
def readBad (build : Nat) (x : Src) : Option Bad :=
  firstBad [headerBad build x.rd, (sections build x.rd).1, signBad x.rd, calBad x]

/-! ### VERIFY (R317) -/

/-- The bytes of a list of words, high byte first. -/
def bigBytes (l : List Nat) : List Nat := l.flatMap (fun w => (bytesOfWord w).reverse)

/-- Key digest, signature, image version. Log 88 DEDUCED. -/
def verifyBad (digest : List Nat) (minVer : Nat) (rd : Nat → Nat) : Option Bad :=
  let sig := rd 24
  let key := srcBytes rd (sig + 8) 97
  let hash := Config.sha384 (srcBytes rd 0 sig)
  firstBad [
    need (Config.sha384 key == bigBytes digest) 0x31 0 0 (sig + 8),
    need (Config.ecdsa hash key (srcBytes rd (sig + 108) 48) (srcBytes rd (sig + 156) 48)) 0x32 0 0 (sig + 108),
    need (decide (minVer ≤ rd 16)) 0x33 0 0 16]

/-! ### The content -/

/-- Entries of `n` words. -/
def chunks (n : Nat) : Nat → List Nat → List (List Nat)
  | 0, _ => []
  | f + 1, l => if l.length < n ∨ n = 0 then [] else l.take n :: chunks n f (l.drop n)
def entries (n : Nat) (l : List Nat) : List (List Nat) := chunks n (l.length + 1) l

/-- The table of the entries that a test keeps, by their index. -/
def entryTab {α : Type} (l : List (List Nat)) (ok : List Nat → Bool) (f : List Nat → α) : Tab α :=
  (l.zipIdx.filter (fun x => ok x.1)).map (fun x => (x.2, f x.1))

/-- Table 6-2. -/
def loopOf (w : List Nat) : LoopCfg :=
  let a := at' 0 w 0
  { kind := bits a 30 27, inst := bits a 26 16, group := bits a 15 12, runLog2 := bits a 11 10, esShift := bits a 9 5,
    eScale := bits (at' 0 w 1) 31 16, duMax := bits (at' 0 w 1) 15 0, ssUp := bits (at' 0 w 2) 31 16,
    ssDown := bits (at' 0 w 2) 15 0, uMin := bits (at' 0 w 3) 31 16, uMax := bits (at' 0 w 3) 15 0 }
/-- R169: a gain table of 34 words: 33 KP and 33 KI mantissas, two per word, then the exponents. -/
def gainOf (w : List Nat) : GainTab :=
  let m := fun n => bits (at' 0 w (n / 2)) (16 * (n % 2) + 15) (16 * (n % 2))
  { kp := (List.range 33).map m, ki := (List.range 33).map (fun i => m (33 + i)),
    kpExp := signedOf 8 (bits (at' 0 w 33) 15 8), kiExp := signedOf 8 (bits (at' 0 w 33) 7 0) }
/-- Table 6-3. -/
def regionOf (w : List Nat) : RegionCfg :=
  let a := at' 0 w 0
  { modes := bits a 30 28, opLo := bits a 27 22, opHi := bits a 21 16, tset := bits a 5 0,
    tLo := signedOf 16 (bits (at' 0 w 1) 31 16), tHi := signedOf 16 (bits (at' 0 w 1) 15 0) }
/-- Table 4-3. -/
def slotOf (w : List Nat) : SlotDesc :=
  let a := at' 0 w 0
  let b := at' 0 w 1
  let c := at' 0 w 2
  { thread := bits a 31 30, start := bits a 27 14, budget := bits a 13 0, perLog2 := bits b 31 27, phase := bits b 26 7,
    predA := if c.testBit 31 then some (bits c 30 25) else none,
    predB := if c.testBit 24 then some (bits c 23 18) else none, entry := bits c 14 0 }
/-- Table 13-4; the severity of a fault code is its class's (R346). -/
def codeOf (w : List Nat) : CodeRow :=
  let a := at' 0 w 0
  let code := bits a 31 16
  { code := code, sev := if faultClass code = 0 then bits a 15 14 else classSev (faultClass code),
    binMode := bits a 13 12, binShift := bits a 4 0, binLo := signedOf 32 (at' 0 w 1), rate := bits (at' 0 w 2) 15 0,
    name0 := at' 0 w 3, name1 := at' 0 w 4 }

/-- Words of a list by their index, without the zeros. -/
def wordTab (l : List Nat) : Tab Nat := (l.zipIdx.filter (fun x => x.1 ≠ 0)).map (fun x => (x.2, x.1))

/-- R116: the routine of a slot: from its entry point to the next entry point, or to the end of the item. Log 45 DEDUCED. -/
def routineOf (prog : List Nat) (entriesOf : List Nat) (entry : Nat) : List CoreInsn :=
  let stop := minN prog.length (prog.length :: entriesOf.filter (fun e => decide (entry < e)))
  ((prog.drop entry).take (stop - entry)).map Config.instruction

/-- Items of the limits section that are absent take their defaults (R314). Log 91 PRESUMED. -/
def limitDefaults (l : List Item) (p : Playbill) : Playbill :=
  let c := p.cap
  let c1 : CapCfg := if itemHere l 3 1 then c else { c with
    dieCeil := 1250000,
    die := [(1, 32000), (2, 1500000), (3, 1375000), (4, 1300000), (5, 1250000), (6, 1250000)],
    pkg := [(2, 7200000), (3, 6600000), (4, 6300000), (5, 6000000), (6, 6000000)] }
  let c2 : CapCfg := if itemHere l 3 6 then c1 else { c1 with pSel := 2, qSel := 2, holdPct := 90, dieSlew := 24 }
  let v0 : Nat := (p.law.ops.headD (0, 0)).2
  let leak := sumI ((p.model.zones.map Prod.fst).map (fun z => leakPower p.model z p.therm.thr (v0 : Int))) / 65536
  let fl := (sumN (c2.floor.map Prod.snd) + leak.toNat) / 500 * 500
  let c3 : CapCfg := if itemHere l 3 7 then c2 else { c2 with
    pkgFloor := min fl c2.dieCeil, pkgUnmanaged := 0, orphanDie := allOnes, orphanPkg := allOnes, auth := 0, modeAllow := 7, leakAction := 0 }
  let d := thermCfg0
  let th : ThermCfg := if itemHere l 3 5 then p.therm else { p.therm with
    warn := d.warn, warnRel := d.warnRel, thr := d.thr, thrRel := d.thrRel, shut := d.shut, restart := d.restart,
    coolMs := d.coolMs }
  { p with cap := c3, therm := th }

/-- What an image and its calibration section give: the items whose layout the manual states are read here, the others are
free values. Log 10 DESIGN CHOICE. -/
def imageContent (x : Src) (l : List Item) : Playbill :=
  let rd := x.rd
  let d := itemData rd l
  let img := srcWords rd 0 (rd 8 / 4)
  let cal := srcWords rd x.cal (4 + rd (x.cal + 4) / 4)
  let p := Config.playbill img cal
  let cals := calWalk rd (x.cal + 16 + rd (x.cal + 4)) (rd (x.cal + 4) / 8 + 1) (x.cal + 16) []
  let slots := (entries 3 (d 9 1)).map slotOf
  let prog := d 9 2
  let mt := d 3 4
  let map := ((d 1 2).drop 1).zipIdx.filter (fun w => w.1.testBit 31 && w.1.testBit 30)
  let law : LawCfg := { p.law with
    loops := entryTab (entries 4 (d 7 1)) (fun w => (at' 0 w 0).testBit 31) loopOf,
    gains := (p.law.gains.map Prod.fst).zip ((entries 34 (d 7 2)).map gainOf),
    regions := entryTab (entries 2 (d 7 3)) (fun w => (at' 0 w 0).testBit 31) regionOf,
    seedL := if itemHere l 10 1 then p.law.seedL else 0, seed := if itemHere l 10 1 then p.law.seed else [],
    tt := wordTab ((d 10 2).take 512) }
  limitDefaults l { p with
    model := { p.model with measured := p.model.measured.filter (fun r => (tget railCfg0 r p.law.rails).iface == 0) },
    valid := true, version := rd 16, minor := bits (rd 12) 23 16, partId := calPart x, law := law,
    pkg := { p.pkg with dieId := bits (at' 0 (d 1 2) 0) 4 0, map := map.map (fun w => (w.2, bits w.1 2 0)) },
    marginOffset := at' 0 (d 1 3) 0, bookOffset := at' 0 (d 1 3) 1, calOffset := rd 28,
    cap := { p.cap with
      matched := (entries 2 (mt.take (mt.length - 1))).map (fun w =>
        (bits (at' 0 w 0) 31 16, bits (at' 0 w 0) 5 0, bits (at' 0 w 1) 23 0)),
      kappaMax := bits (at' 0 mt (mt.length - 1)) 15 0 },
    cost := wordTab ((d 6 1).take 512), scenes := wordTab ((d 7 4).take 512),
    codes := ((entries 5 (d 11 1)).map codeOf).filter (fun r => knownCode r.code),
    slots := slots.zipIdx.map (fun s => (s.2, s.1)), progLen := prog.length,
    code := slots.zipIdx.map (fun s => (s.2, routineOf prog (slots.map SlotDesc.entry) s.1.entry)),
    guardBase := if itemHere cals 2 5 then p.guardBase else 40, trimDefault := if itemHere cals 2 5 then p.trimDefault else 8,
    regs := p.regs ++ (entries 2 (d 3 8)).map (fun w => (at' 0 w 0, at' 0 w 1)),
    srEn := itemHere l 9 4 && p.srEn, seed := if itemHere l 9 4 ∧ p.seed ≠ 0 then p.seed else 1 }

/-! ### Calibration limits (R316) -/

/-- A calibration value at the nearest limit, with the count of those replaced so far. -/
def calNear (lo hi x : Int) (n : Nat) : Int × Nat := if lo ≤ x ∧ x ≤ hi then (x, n) else (clampI lo hi x, n + 1)

/-- R316: the calibration fields whose ranges the manual states, at their nearest limits, and how many were replaced.
Log 92 DEDUCED. -/
def calLimited (p : Playbill) : Playbill × Nat :=
  let z := p.model.zones.foldl (fun (a : Tab ZoneCfg × Nat) (q : Nat × ZoneCfg) =>
    let v := calNear 1024 16384 (q.2.kappa : Int) a.2
    (a.1 ++ [(q.1, { q.2 with kappa := v.1.toNat })], v.2)) (([], 0) : Tab ZoneCfg × Nat)
  let r := p.law.rails.foldl (fun (a : Tab RailCfg × Nat) (q : Nat × RailCfg) =>
    let v := calNear 1 100 (q.2.slew : Int) a.2
    (a.1 ++ [(q.1, { q.2 with slew := v.1.toNat })], v.2)) (([], z.2) : Tab RailCfg × Nat)
  let g := calNear 0 200 (p.guardBase : Int) r.2
  let t := calNear (-24) 32 p.trimDefault g.2
  ({ p with model := { p.model with zones := z.1 }, law := { p.law with rails := r.1 }, guardBase := g.1.toNat,
            trimDefault := t.1 }, t.2)

/-! ### Content checks -/

/-- R449: the range of INST of a loop kind (Table 6-1). -/
def instOk (kind inst : Nat) : Bool :=
  match kind with
  | 0 => decide (2 ≤ inst ∧ inst ≤ 6)
  | 1 => decide (2 ≤ inst ∧ inst ≤ 6)
  | 2 => decide (inst ≤ 31)
  | 3 => decide (inst ≤ 63)
  | 4 => inst == 0
  | 5 => decide (inst ≤ 3)
  | _ => decide (inst ≤ 255)

/-- A value in a range of whole numbers. -/
def inR (lo hi x : Nat) : Bool := decide (lo ≤ x ∧ x ≤ hi)
def inI (lo hi x : Int) : Bool := decide (lo ≤ x ∧ x ≤ hi)

/-- Numbers that ascend strictly. -/
def ascending : List Nat → Bool
  | a :: b :: r => decide (a < b) && ascending (b :: r)
  | _ => true

/-- R449: fields outside their ranges, as (section, item) with whether they hold. `loops` and `regions` are all descriptors and
entries, valid or not, and `codes` all rows of the code table; `scenes` is the length of the Scene table.
Log 51 DESIGN CHOICE. -/
def rangeChecks (par : Params) (p : Playbill) (loops : List LoopCfg) (regions : List RegionCfg) (scenes : Nat)
    (codes : List CodeRow) : List (Nat × Nat × Bool) :=
  let c := p.cap
  let t := p.therm
  let m := p.model
  [(1, 2, inR 0 23 p.pkg.dieId),
   (3, 1, inR 1000 2500000 c.dieCeil && inR 16 65535 (tget 32000 1 c.die) &&
     [2, 3, 4, 5, 6].all (fun n => inR 1000 2500000 (tget 1250000 n c.die) && inR 10000 60000000 (tget 6000000 n c.pkg))),
   (3, 2, inR 1 64 p.law.ops.length && inR 0 63 p.law.opCeil),
   (3, 3, [0, 1, 2, 3].all (fun d => (domOrder c).contains d && inR 0 c.dieCeil (tget 0 d c.floor) &&
     inR 1000 c.dieCeil (tget c.dieCeil d c.ceil))),
   (3, 4, inR 1 32 c.matched.length),
   (3, 5, inI 960 1920 t.warn && inI (t.warn - 320) (t.warn - 8) t.warnRel && inI 1120 1952 t.thr &&
     inI (t.thr - 320) (t.thr - 8) t.thrRel && inI 1440 par.curtWired t.shut && inI 800 (min 1360 (t.shut - 160)) t.restart &&
     inR 2000 60000 t.coolMs),
   (3, 6, inR 0 6 c.pSel && inR 0 6 c.qSel && inR 50 100 c.holdPct && inR 4 96 c.dieSlew),
   (3, 7, (c.orphanDie == allOnes || inR 1000 c.dieCeil c.orphanDie) &&
     (c.orphanPkg == allOnes || inR 10000 60000000 c.orphanPkg) && inR 0 c.dieCeil c.pkgFloor && inR 0 2000000 c.pkgUnmanaged && inR 0 1 c.auth && inR 0 1 c.leakAction),
   (4, 1, p.therm.sites.all (fun s => inR 0 63 s.2.region && decide (s.2.neighbours.length ≤ 4))),
   (4, 2, p.dets.all (fun d => inR 0 31 d.2.rail && inR 0 63 d.2.region && inR 1 127 d.2.d1 && inR 1 127 d.2.d2 &&
     inR 1 127 d.2.d3)),
   (5, 2, p.agents.all (fun a => decide (a.1 < 4096) && inR 0 3 a.2.dom && inR 0 15 a.2.clkDom)),
   (7, 1, loops.all (fun l => inR 0 6 l.kind && instOk l.kind l.inst && decide (l.eScale ≠ 0) && decide (l.duMax ≠ 0) &&
     decide (l.uMin ≤ l.uMax))),
   (7, 2, p.law.gains.all (fun g => (g.2.kp ++ g.2.ki).all (fun w => decide (w < 32768)))),
   (7, 3, decide (regions.length ≤ 64) && regions.all (fun r => decide (r.opLo ≤ r.opHi) && decide (r.tLo < r.tHi))),
   (7, 4, decide (scenes ≤ 512)),
   (8, 1, m.feats.all (fun f => inR 0 15 f.2.shift) && m.taps.all (fun t => inR 0 4095 t.1 && inR 0 65535 t.2.weight)),
   (8, 2, inI (-640) 960 m.t0 && inI 16 256 m.dT && inI 1200 2800 m.v0 && inI 20 200 m.dV),
   (8, 3, m.zones.all (fun z => inR 0 200000 z.2.corrLim)),
   (8, 4, m.feats.all (fun f => inI 0 262144 f.2.lo && inI 0 262144 f.2.hi)),
   (8, 5, inI 160 1120 m.coolant && inI 0 32768 m.gain && inR 16 1024 m.warmup),
   (11, 1, decide (codes.length ≤ 512) && codes.all (fun r => decide (r.binMode ≤ 2)))]

/-- The effective Shutdown entry of an image (R251, R263). -/
def imageShut (par : Params) (p : Playbill) : Int := max 1440 (min par.curtWired p.therm.shut)

/-- Gain tables that the image uses: table set × 16 + group (R169). -/
def gainsUsed (p : Playbill) : List Nat :=
  (0 :: p.law.regions.map (fun r => r.2.tset)).flatMap (fun s => p.law.loops.map (fun l => s * 16 + l.2.group))

/-- R132, Table 5-1: the taps, features and zones of a build. Log 51 DESIGN CHOICE. -/
def modelFits (build : Nat) (m : ModelCfg) : Bool :=
  decide (m.taps.length ≤ at' 256 [4096, 1024, 256] build ∧ m.feats.length ≤ at' 16 [64, 64, 16] build ∧
    m.zones.length ≤ at' 4 [16, 16, 4] build)

/-- Cross-section and cross-entry rules, as (reason, section, item, holds). `netWords` is the length of the correction network's
item, which weight memory must hold (R132), and `codes` all rows of the code table. Log 51 DESIGN CHOICE. -/
def crossChecks (par : Params) (p : Playbill) (netWords : Nat) (codes : List CodeRow) : List (Nat × Nat × Nat × Bool) :=
  let n := p.law.ops.length
  let sceneOk := fun i => let w := tget 0 (2 * i) p.scenes
    !(w.testBit 31 && bits w 29 28 != 3) || decide (bits w 27 22 < n)
  let arr := p.agents.filter (fun a => a.2.isArray)
  let m := p.marginOffset
  let b := p.bookOffset
  [(0x11, 1, 3, m % 4096 == 0 && decide (0x800000 ≤ m) && b % 2 ^ 20 == 0 && decide (0x800000 ≤ b) &&
     (decide (m + 4096 ≤ b) || decide (b + 2 ^ 20 ≤ m))),
   (0x25, 1, 2, p.pkg.map.any (fun d => decide (d.2 ≤ 1))),
   (0x25, 3, 2, ascending (p.law.ops.map Prod.fst) && decide (p.law.opCeil < n) &&
     (List.range 16).any (fun d => (tlook d p.law.fixed).isNone)),
   (0x25, 3, 4, ascending (p.cap.matched.map (fun e => e.1)) && p.cap.matched.all (fun e => decide (e.2.1 < n))),
   (0x25, 3, 5, decide (p.therm.warn + 16 ≤ p.therm.thr) && decide (p.therm.thr + 16 ≤ imageShut par p)),
   (0x25, 4, 1, decide (p.therm.sites.length ≤ at' 64 [512, 256, 64] par.build) && p.agents.all (fun a => a.2.dom != 0 || p.therm.sites.any (fun t => t.2.region == a.1 / 64))),
   (0x25, 4, 2, p.dets.all (fun d => decide (d.2.d1 < d.2.d2 ∧ d.2.d2 < d.2.d3) && (tlook d.2.rail p.law.rails).isSome &&
     p.booths.contains d.2.region)),
   (0x25, 5, 2, decide (arr.length ≤ 1) && arr.all (fun a => a.2.lease) &&
     decide (p.agents.length ≤ at' 256 [4096, 1024, 256] par.build)),
   (0x25, 7, 1, decide (p.law.loops.length ≤ at' 256 [1024, 1024, 256] par.build) && p.law.loops.all (fun l =>
     (l.2.kind != 2 || (tget railCfg0 l.2.inst p.law.rails).core) &&
     (l.2.kind != 3 || p.therm.sites.any (fun t => t.2.region == l.2.inst)))),
   (0x25, 7, 2, (gainsUsed p).all (fun g => (tlook g p.law.gains).isSome)),
   (0x25, 7, 4, (List.range 256).all sceneOk),
   (0x25, 8, 1, p.model.taps.all (fun t => (tlook t.2.feature p.model.feats).isSome) &&
     p.model.feats.all (fun f => (tlook f.2.zone p.model.zones).isSome &&
       (tlook (tget zoneCfg0 f.2.zone p.model.zones).rail p.law.rails).isSome)),
   (0x25, 8, 1, modelFits par.build p.model),
   (0x25, 8, 2, p.model.feats.all (fun f => (tget zoneCfg0 f.2.zone p.model.zones).leakHere)),
   (0x25, 8, 3, decide (netWords ≤ memWords par.build 4)),
   (0x25, 8, 5, decide (p.model.tiles.length ≤ at' 4 [64, 32, 4] par.build)),
   (0x25, 8, 6, decide (p.model.measured.length ≤ 12)),
   (0x25, 11, 1, decide ((codes.map CodeRow.code).eraseDups.length = codes.length))]

/-- R320: an initial value may go to a plain read-write register only. -/
def initialOk (off : Nat) : Bool := (regRow off).isSome || decide (0xE000 ≤ off ∧ off ≤ 0xE01C ∧ off % 4 = 0)

/-! ### The slot table (R115 to R117) -/

/-- E_s of R115. -/
def latestEnd (pSel : Nat) : Nat := 98 * periodNs pSel / 100 - 10

/-- R114: whether two slots co-run. -/
def coRun (a b : SlotDesc) : Bool :=
  let e := 2 ^ min a.perLog2 b.perLog2
  a.phase % e == b.phase % e

/-- Table 4-5: the threads on which a class may run. -/
def classThread (c : InsnClass) (t : Nat) : Bool :=
  match c with
  | .table => decide (t ≤ 1)
  | .vec => t == 1
  | .reduce => t == 1
  | .interp => t == 1
  | .vmem => t == 1
  | .gather => t == 1
  | .array => t == 2
  | _ => true

/-- Static loops open at each instruction: the deepest nesting, and whether a skip or a loop leaves the routine. -/
def nestOf (l : List CoreInsn) : Nat × Bool :=
  let n := l.length
  let r := l.zipIdx.foldl (fun (a : List Nat × Nat × Bool) i =>
    let was := (a.1.map (· - 1)).filter (fun x => decide (0 < x))
    match i.1.act with
    | .loopN _ len =>
      ((len + 1) :: was, max a.2.1 (was.length + 1), a.2.2 || decide (n < i.2 + 1 + len))
    | .skipIf _ m => (was, a.2.1, a.2.2 || decide (n < i.2 + 1 + m))
    | _ => (was, a.2.1, a.2.2)) (([], 0, false) : List Nat × Nat × Bool)
  (r.2.1, r.2.2)

/-- R105, R116, Table 4-5: an instruction that a thread may issue: its class, its registers, its operation and its count. -/
def insnLegal (thread : Nat) (i : CoreInsn) : Bool :=
  let r := fun (l : List Nat) => l.all (fun x => decide (x < 32))
  classThread (insnClass i) thread &&
  match i.act with
  | .scalar op rd ra rb => decide (op ≤ 21) && r [rd, ra, rb]
  | .mulWide _ rd ra rb => r [rd + 1, ra, rb]
  | .selectS rd rc ra rb => r [rd, rc, ra, rb]
  | .loadW rd ra _ => r [rd, ra]
  | .storeW rs ra _ => r [rs, ra]
  | .tableW rd ra _ => r [rd, ra]
  | .skipIf ra _ => r [ra]
  | .loopN c _ => decide (1 ≤ c ∧ c ≤ 65535)
  | .vector op _ _ _ _ => decide (op ≤ 9)
  | .reduceV op _ _ _ => decide (op ≤ 2)
  | .arrayM _ _ _ m n b _ => decide (1 ≤ m ∧ 1 ≤ n ∧ 1 ≤ b)
  | _ => true

/-- R117: whether an item of it fails for a slot. -/
def slotFails (build : Nat) (p : Playbill) (item i : Nat) (d : SlotDesc) : Bool :=
  let here := fun (x : Option Nat) => match x with
    | some j => (tlook j p.slots).isSome
    | none => true
  let code := tget [] i p.code
  let finish := fun (x : SlotDesc) => x.start + x.budget
  match item with
  | 1 => d.thread == 3 || (d.thread == 2 && build == 2) || d.budget == 0 || decide (20 < d.perLog2) ||
      decide (2 ^ d.perLog2 ≤ d.phase) || !here d.predA || !here d.predB || decide (progSize build ≤ d.entry)
  | 2 => decide (d.start < 10) || decide (latestEnd p.cap.pSel < finish d)
  | 3 => decide (d.budget < worstCase build code)
  | 4 => p.slots.any (fun x => decide (i < x.1) && x.2.thread == d.thread && coRun x.2 d &&
      decide (d.start < finish x.2) && decide (x.2.start < finish d))
  | 5 => p.slots.any (fun x =>
      let pair := fun (q s : Nat × SlotDesc) => (s.2.predA == some q.1 || s.2.predB == some q.1) && coRun q.2 s.2 &&
        decide (s.2.start < finish q.2)
      decide (i ≤ x.1) && (pair (i, d) x || pair x (i, d)))
  | 6 => code.any (fun k => !insnLegal d.thread k) || decide (progSize build < d.entry + code.length) ||
      decide (4 < (nestOf code).1) || (nestOf code).2
  | _ => false

/-- R117: the lowest item that fails and its lowest slot. -/
def slotsBad (build off : Nat) (p : Playbill) : Option Bad :=
  firstBad ((List.range 6).map (fun n =>
    ((p.slots.find? (fun s => slotFails build p (n + 1) s.1 s.2)).map
      (fun s => ⟨0x40, 9, (n + 1) * 256 + s.1 % 256, off + 12 * s.1⟩ : _ → Bad)))
    ++ [need (decide (p.slots.length ≤ 64)) 0x40 9 0x7FF off])

/-- R319 step 6: the content of an image. Log 51 DESIGN CHOICE. -/
def contentBad (par : Params) (x : Src) (l : List Item) (p : Playbill) : Option Bad :=
  let codes := (entries 5 (itemData x.rd l 11 1)).map codeOf
  let at0 := fun (c : Nat × Nat × Bool) => need c.2.2 0x24 c.1 c.2.1 (itemOff l c.1 c.2.1)
  firstBad ((rangeChecks par p ((entries 4 (itemData x.rd l 7 1)).map loopOf) ((entries 2 (itemData x.rd l 7 3)).map regionOf)
      (itemData x.rd l 7 4).length codes).map at0
    ++ (crossChecks par p (itemData x.rd l 8 3).length codes).map (fun c => need c.2.2.2 c.1 c.2.1 c.2.2.1 (itemOff l c.2.1 c.2.2.1))
    ++ (entries 2 (itemData x.rd l 3 8)).zipIdx.map (fun w => need (initialOk (at' 0 w.1 0)) 0x24 3 8 (itemOff l 3 8 + 8 * w.2))
    ++ [slotsBad par.build (itemOff l 9 1) p])

end Sys2Proof.Machine
end

