-- ==== Sys2Proof/Machine/Start.lean ====
section
/-! DEFINITION. The start of the block (R304 to R312, R319 to R321, R325, R326): what a cold and a warm start clear and keep, the
supplies and reset pins, the stages up to SETTLE, and the Curtain's release (R268). -/

namespace Sys2Proof.Machine

open Sys2Proof

/-! ### What a start clears and keeps (R305) -/

/-- The context energy counters and EST_E_ATTR, which a warm start keeps. Log 95 DEDUCED. -/
def keptOut (o : CoreOut) : CoreOut :=
  { coreOut0 with est := { estOut0 with ctxE := o.est.ctxE, eAttr := o.est.eAttr } }

/-- R334: the record at a start: closed into FAULT_PREV, which a cold start clears with the counters. Log 95 DEDUCED. -/
def faultStart (cold : Bool) (f : FaultSt) : FaultSt :=
  let g := closeRecord f (faultStatus f)
  if cold then { faultSt0 with held := f.held }
  else { faultSt0 with held := f.held, prevCode := g.prevCode, prevStatus := g.prevStatus, prevTick := g.prevTick,
                       nN := g.nN, nC := g.nC, nD := g.nD, nS := g.nS, nInj := g.nInj, nL := g.nL }

/-- The start registers: what the always-on supply holds stays, and a warm start keeps the keys and counts itself.
Log 95 DEDUCED. -/
def startClear (cold : Bool) (t : StartSt) : StartSt :=
  let u : StartSt := { startSt0 with
    aoUp := t.aoUp, blkUp := t.blkUp, porstLow := t.porstLow, hrstLow := t.hrstLow, causeCode := t.causeCode,
    curtPend := t.curtPend, coldDue := cold || t.coldDue, bclkAbsent := t.bclkAbsent }
  if cold then u
  else { u with keyDigest := t.keyDigest, keyMinVer := t.keyMinVer, keyLocked := t.keyLocked, starts := t.starts }

/-- R305: the state as a cold or a warm start leaves it. The leak pair is a pair of input levels: a leak state that stands
runs its filter anew. Log 64 DEDUCED, log 95 DEDUCED. -/
def clearState (cold : Bool) (s : State) : State :=
  let z := State.reset
  let th := { thermSt0 with leakP := s.therm.leakP, leakN := s.therm.leakN,
                            leakRun := s.therm.leakRun || (s.therm.leakFault && !leakDry s.therm.leakP s.therm.leakN) }
  let base : State := { z with
    par := s.par, curt := s.curt, flash := s.flash, out := s.out, free := s.free, pending := s.pending, therm := th,
    fault := faultStart cold s.fault, start := startClear cold s.start }
  if cold then base
  else { base with
    time := { s.time with hiLatch := [], begun := false },
    tel := { telSt0 with eMeas := s.tel.eMeas, coolant := s.tel.coolant },
    core := { coreSt0 with out := keptOut s.core.out, app := keptOut s.core.app },
    cap := { capSt0 with mDie := s.cap.mDie, mPkg := s.cap.mPkg, mAllow := s.cap.mAllow, mSlew := s.cap.mSlew,
                         mHold := s.cap.mHold, auth := s.cap.auth, authSet := s.cap.authSet, ramp := s.cap.ramp,
                         next := s.cap.next, val := s.cap.val, prev := s.cap.prev },
    margin := { marginSt0 with trim := s.margin.trim, lastDown := s.margin.lastDown, source := s.margin.source,
                               stores := s.margin.stores, storing := s.margin.storing, done := s.margin.done,
                               status := s.margin.status },
    therm := { th with mgmt := s.therm.mgmt, mgmtSet := s.therm.mgmtSet, mgmtLvl := s.therm.mgmtLvl },
    zilt := { ziltSt0 with placed := s.zilt.placed, id := s.zilt.id, level := s.zilt.level, parent := s.zilt.parent,
                           budget := s.zilt.budget },
    mgmt := { mgmtSt0 with next := s.mgmt.next, held := s.mgmt.held },
    book := { s.book with clearReq := false } }

/-- R309: SAFE_FREQ to every domain that has another target. Log 58 DESIGN CHOICE. -/
def holdLoads (s : State) : List Emit :=
  ((List.range 16).filter (fun d => clockOf s d != s.par.safeFreq)).map (fun d => .load d s.par.safeFreq)

/-- A reset: the state cleared, and the hold outputs driven. -/
def resetTo (cold : Bool) (s : State) : State := clearState cold (emitAll (holdLoads s) s)

/-! ### Beginning a start -/

/-- R323: an interrupted PROGRAM leaves the flash torn: its spans erased, and the words that had arrived programmed.
Log 87 DESIGN CHOICE. -/
def loaderTorn (s : State) : State :=
  if s.start.ldBusy && s.start.ldOp == 2 then
    let ws := s.start.ldGot
    let n := at' 0 ws 2 / 4
    let cal := at' 0 ws 7
    let t := flashErase 0 (ceilDiv (at' 0 ws 2) 4096 * 4096) s.flash
    let u := if 8 ≤ ws.length then flashErase cal 65536 t else t
    { s with flash := flashProgram cal (ws.drop n) (flashProgram 0 (ws.take n) u) }
  else if s.start.ldBusy && s.start.ldOp == 3 then
    let cal := flashWord s.flash 28
    { s with flash := flashWrite cal 65536 s.start.ldGot s.flash }
  else s

/-- R306: the first stage, or RESET while a reset pin is low; under Lockout no start takes place (R325). -/
def beginStart (cold : Bool) (cause : Nat) (s : State) : State :=
  let t := s.start
  if s.curt.lockout then { s with start := { t with state := 15 }, fault := { s.fault with safe := true, safeEarly := true } }
  else if t.porstLow || t.hrstLow || !t.blkUp then { s with start := { t with causeCode := cause } }
  else
    { s with start := { t with state := 1, causeCode := cause, curtPend := false, warm := !cold,
                               starts := if cold then 0 else wrapAdd 16 t.starts 1 } }

/-- A warm start from a running block (R304): causes 2 and 3. -/
def warmStart (cause : Nat) (s : State) : State := beginStart false cause (resetTo false s)

/-- R324, R326: a flash store runs. -/
def storeRuns (s : State) : Bool := !s.margin.done || s.book.storing.isSome || s.book.storeWait

/-! ### Supplies and pins -/

/-- R445, R446: the test port is not reset with the block: its instruction stays; a memory self-test that ran is ended.
Log 109 DEDUCED. -/
def tapKeep (old s : State) : State :=
  { s with
    start := { s.start with testMode := old.start.testMode },
    port := { s.port with ir := old.port.ir, mbistDone := old.port.mbistDone || old.port.mbistBusy,
                          mbistResult := if old.port.mbistBusy then 0xFFFFFFFF#32 else old.port.mbistResult } }

/-- PORST_N_ASSERT (R304). Under Lockout it changes nothing (R337). -/
def execPorstNAssert (s0 : State) : Host.Outcome State Fault Refusal :=
  let s := fresh s0
  if !s.start.aoUp || s.curt.lockout || s.start.porstLow then done s
  else
    let s1 := tapKeep s (resetTo true (loaderTorn (bookTorn (marginTorn s))))
    done { s1 with start := { s1.start with porstLow := true, causeCode := 0, curtPend := false } }

/-- PORST_N_RELEASE (R304). -/
def execPorstNRelease (s0 : State) : Host.Outcome State Fault Refusal :=
  let s := fresh s0
  if !s.start.aoUp || !s.start.porstLow then done s
  else done (beginStart true 0 { s with start := { s.start with porstLow := false } })

/-- HRST_N_ASSERT (R326): the start or the operation is abandoned, and a store is torn (Table 11-11, R361). After a private
test instruction the state is cleared as at a cold start (R446). -/
def execHrstNAssert (s0 : State) : Host.Outcome State Fault Refusal :=
  let s := fresh s0
  if s.start.hrstLow || s.curt.lockout then done s
  else if !s.start.blkUp || s.start.porstLow then done { s with start := { s.start with hrstLow := true } }
  else
    let s1 := tapKeep s (resetTo s.start.undef (loaderTorn (bookTorn (marginTorn s))))
    done { s1 with start := { s1.start with hrstLow := true, undef := s.start.undef } }

/-- HRST_N_RELEASE (R304, R446). -/
def execHrstNRelease (s0 : State) : Host.Outcome State Fault Refusal :=
  let s := fresh s0
  if !s.start.hrstLow then done s
  else
    let s1 : State := { s with start := { s.start with hrstLow := false, undef := false } }
    if s.start.porstLow || !s.start.blkUp then done s1
    else done (beginStart s.start.undef 1 s1)

/-- BLOCK_SUPPLY_LOSS (R304): what the block supply holds is lost; a store in progress is torn. -/
def execBlockSupplyLoss (s0 : State) : Host.Outcome State Fault Refusal :=
  let s := fresh s0
  if !s.start.blkUp then done s
  else
    let s1 := clearState true (loaderTorn (bookTorn (marginTorn s)))
    done { s1 with start := { s1.start with blkUp := false, bclkAbsent := false },
                   fault := { s1.fault with safe := s.curt.lockout, safeEarly := s.curt.lockout } }

/-- Faults of the Curtain that waited are delivered in the order in which they arose (R330). Log 113 DEDUCED. -/
def deliverHeld (s : State) : State :=
  s.fault.held.foldl (fun x f => report f.1 f.2 x) { s with fault := { s.fault with held := [] } }

/-- BLOCK_SUPPLY_RETURN (R304): a cold start; its cause stays 2 when the Curtain's restart was waiting. After a power cycle it
stands for the return of both supplies. Log 90 DESIGN CHOICE. -/
def execBlockSupplyReturn (s0 : State) : Host.Outcome State Fault Refusal :=
  let s := fresh s0
  if s.start.blkUp then done s
  else
    let s1 : State := { s with start := { s.start with blkUp := true, aoUp := true } }
    done (deliverHeld (beginStart true (if s.start.curtPend then 2 else 0) s1))

/-- ALWAYS_ON_SUPPLY_REMOVAL (R269): a power cycle: nothing but the parameters and the flash is left.
Log 90 DESIGN CHOICE. -/
def execAlwaysOnSupplyRemoval (s0 : State) : Host.Outcome State Fault Refusal :=
  let s := loaderTorn (bookTorn (marginTorn (fresh s0)))
  let z := State.reset
  done { z with
    par := s.par, flash := s.flash, free := s.free, pending := s.pending,
    start := { startSt0 with aoUp := false, blkUp := false, porstLow := s.start.porstLow, hrstLow := s.start.hrstLow } }

/-- CURTAIN_RELEASE (R268, R325): the Curtain releases its outputs, and a warm start with cause 2 follows. While the block
supply is down the start waits for it (R304). -/
def execCurtainRelease (s0 : State) : Host.Outcome State Fault Refusal :=
  let s := fresh s0
  if !s.start.aoUp || !s.curt.tripped || s.curt.lockout || !curtCooled s then done s
  else
    let s1 := emit (.curtain false true) { s with curt := { s.curt with tripped := false, coolFrom := none } }
    if s1.start.blkUp then done (warmStart 2 s1)
    else done { s1 with start := { s1.start with causeCode := 2, curtPend := true } }

/-! ### The stages -/

/-- A stage goes on: its state, its supply and clock, and no Curtain trip (R326). -/
def inStage (s : State) (n : Nat) : Bool := s.start.state == n && clocked s && !s.curt.tripped && !s.start.testMode

def toState (n : Nat) (s : State) : State := { s with start := { s.start with state := n } }

/-- R319, R321: a rejection: what LOAD_STATUS and LOAD_OFFSET record, SAFE_HOLD and the class S fault. -/
def reject (b : Bad) (s : State) : State :=
  let ld := s.start.streaming
  let s1 : State := { s with start := { s.start with
    state := 14, reason := b.reason, sect := b.sect, detail := b.detail, offset := b.off, streaming := false,
    ldBusy := s.start.ldBusy && !ld, ldDone := s.start.ldDone || ld, ldStatus := if ld then 3 else s.start.ldStatus } }
  report 0xC001 0 (raiseIf ld 11 1 s1)

/-- CURTAIN_TEST (R267): the channels that fail to detect the reference within two reads. -/
def execCurtainTest (failed : List Nat) (s0 : State) : Host.Outcome State Fault Refusal :=
  let s := fresh s0
  if !inStage s 1 then done s
  else if failed = [] then done (toState 2 { s with curt := { s.curt with selftestOk := true } })
  else
    let s1 : State := { s with curt := { s.curt with selftestOk := false } }
    done (curtLock 1 0x8005 (emit (.curtain false false) s1))

/-- R408: PING to each rail of the Fast Rail Interface, and SET_SLOT to each measured one, as far as an image names them.
Log 89 DEDUCED. -/
def railGreet (s : State) : State :=
  let rails := (s.pb.law.rails.filter (fun r => r.2.iface = 0)).map Prod.fst
  let s1 := rails.foldl (fun x r => friSend 4 r 0 x) s
  ((s.pb.model.measured.filter (fun r => rails.contains r)).zipIdx).foldl (fun x r => friSend 5 r.1 r.2 x) s1

/-- MEM_INIT (R306, R408): the memories hold nothing since the start began; the frames go out. Log 89 DEDUCED. -/
def execMemInit (s0 : State) : Host.Outcome State Fault Refusal :=
  let s := fresh s0
  if !inStage s 2 then done s
  else
    let rails := safeRailList s
    let s1 := rails.foldl (fun x r => friSend 1 r s.par.safeVolt x) (railGreet s)
    done (toState 3 { s1 with
      port := { s1.port with cueReady := true },
      law := { s1.law with railV := rails.foldl (fun t r => tset 0 r s.par.safeVolt t) s1.law.railV } })

/-- PING_REPEAT (R408): every 100 µs until LIVE, to the rails that have not replied. -/
def execPingRepeat (s0 : State) : Host.Outcome State Fault Refusal :=
  let s := fresh s0
  if s.start.live || !clocked s || s.start.state < 3 || 8 < s.start.state then done s
  else done (((s.pb.law.rails.filter (fun r => r.2.iface = 0 && !s.port.replied.contains r.1)).map Prod.fst).foldl
    (fun x r => friSend 4 r 0 x) s)

/-- DISCOVER (R310, R311): whether the flash answers with a valid table, its SFDP minor revision, log2 of its density, 4 KiB
erase, and whether 1-1-4 may be used. -/
def execDiscover (valid : Bool) (rev density : Nat) (erase4k quad : Bool) (s0 : State) : Host.Outcome State Fault Refusal :=
  let s := fresh s0
  if !inStage s 3 then done s
  else if !valid then done (reject ⟨0x01, 0, 0, 0⟩ s)
  else if density < 27 || !erase4k then
    done (reject ⟨0x02, 0, 0, 0⟩ { s with start := { s.start with density := density, sfdpRev := rev } })
  else done (toState 4 { s with start := { s.start with
    flashOk := true, density := density, sfdpRev := rev, mode := if quad then 2 else 1, addr4 := decide (27 < density) } })

/-- R245: how a margin record stands: 0 accepted, 1 erased, 2 wrong, 3 of another part or with a trim out of range. -/
def marginSource (w : List Nat) (part : Nat) : Nat :=
  let t := signedOf 8 (bits (at' 0 w 4) 31 24)
  if w.all (· == allOnes) then 1
  else if at' 0 w 0 ≠ 0x4B4D5247 ∨ at' 0 w 1 ≠ 0x00010040 ∨ at' 0 w 15 ≠ crc32c (bytesOfWords (w.take 15)) then 2
  else if at' 0 w 2 + 2 ^ 32 * at' 0 w 3 ≠ part ∨ t < -24 ∨ 32 < t then 3 else 0

/-- R245, R354: what a cold start takes from the margin record and the stored book. Log 84 DEDUCED. -/
def coldRead (p : Playbill) (s : State) : State :=
  let w := flashWords s.flash p.marginOffset 16
  let src := marginSource w p.partId
  let ok := decide (src = 0)
  let st := bookStored s.flash p.bookOffset p.partId
  let h := flashWords s.flash p.bookOffset 12
  let pick := fun a b => max (if ok then at' 0 w a else 0) (if st = 0 then at' 0 h b else 0)
  let opmin := pick 5 4
  let s1 : State := { s with
    start := { s.start with coldDue := false },
    margin := { s.margin with
      trim := if ok then signedOf 8 (bits (at' 0 w 4) 31 24) else p.trimDefault,
      lastDown := if ok then at' 0 w 6 else opmin, source := src, stores := if ok then at' 0 w 8 else 0 },
    book := { s.book with opmin := opmin, pcc := (pick 7 5 + 1) % 2 ^ 32, stores := if st = 0 then at' 0 h 6 else 0 } }
  reportIf (!ok) 0x6003 0 s1

/-- R361: the stored book is checked at every start. Log 84 DEDUCED. -/
def bookCheck (p : Playbill) (s : State) : State :=
  let st := bookStored s.flash p.bookOffset p.partId
  let s1 : State := { s with book := { s.book with stored := st } }
  if 2 ≤ st then event 0xE00B (st : Int) s1 else s1

/-- The image of the start in progress. -/
def startSrc (s : State) : Src := if s.start.streaming then streamSrc s.start.ldGot else flashSrc s.flash

/-- The content of the image of the start in progress, its calibration within its limits, and how many were replaced. -/
def startContent (s : State) : Playbill × Nat :=
  let x := startSrc s
  calLimited (imageContent x (sections s.par.build x.rd).2)

/-- The end of READ or of a host stream: the image's record and book regions are read; `next` is the stage that follows. -/
def readEnd (next : Nat) (s : State) : State :=
  let p := (startContent s).1
  toState next (bookCheck p (if s.start.coldDue then coldRead p s else s))

/-- READ (R319 steps 1 to 4). KEY_WAIT follows while the security controller's RELEASE is awaited (R318). Log 84 DEDUCED. -/
def execRead (s0 : State) : Host.Outcome State Fault Refusal :=
  let s := fresh s0
  if !inStage s 4 then done s
  else match readBad s.par.build (startSrc s) with
    | some b => done (reject b s)
    | none => done (readEnd (if s.par.secRelease = 1 ∧ s.start.keyLocked = false then 5 else 6) s)

/-- KEY_WAIT_ATTN (R434): KEY_WAIT has lasted 100 ms. -/
def execKeyWaitAttn (s0 : State) : Host.Outcome State Fault Refusal :=
  let s := fresh s0
  if inStage s 5 then done { s with start := { s.start with keyWaitLong := true } } else done s

/-- R317, R318: the digest and the least version that VERIFY compares with. Log 12 DESIGN CHOICE. -/
def verifyNow (s : State) (x : Src) : Option Bad :=
  verifyBad (if s.par.keySource = 0 then s.par.keyDigest else s.start.keyDigest)
    (if s.par.secRelease = 0 then 0 else s.start.keyMinVer) x.rd

/-- VERIFY (R317). -/
def execVerify (s0 : State) : Host.Outcome State Fault Refusal :=
  let s := fresh s0
  if !inStage s 6 then done s
  else match verifyNow s (startSrc s) with
    | some b => done (reject b s)
    | none => done (toState 7 s)

/-- Core memory as the image fills it (R126, R315). Log 16 DESIGN CHOICE. -/
def memLoad (build : Nat) (x : Src) (p : Playbill) (m : CoreMem) : CoreMem :=
  let img := srcWords x.rd 0 (x.rd 8 / 4)
  let fill := fun n => tbuild 0 (List.range (memWords build n)) (Config.memoryWord img n)
  { m with sdata := fill 1, vmem := fill 2, tmem := fill 3, wmem := fill 4, lfsr := p.seed }

/-- R320: one register initial value, as a write at system privilege. -/
def initialWrite (s : State) (w : Nat × Nat) : State :=
  if !mayWrite 1 ((regClass w.1).getD 3) then s
  else if 0xE000 ≤ w.1 ∧ w.1 ≤ 0xE01C then
    { s with port := { s.port with args := tset 0 ((w.1 - 0xE000) / 4) w.2 s.port.args } }
  else if w.1 = 0x6010 then writeHostCap w.2 s
  else if w.1 = 0x6014 then writeHostPref w.2 s
  else putReg w.1 w.2 s

/-- R307, R320: an accepted image takes effect; the initial values are in force at the LIVE edge as if just written.
Log 32 DESIGN CHOICE. -/
def applyImage (x : Src) (p : Playbill) (n : Nat) (s : State) : State :=
  let s1 : State := { s with
    pb := p,
    time := { s.time with pSel := p.cap.pSel },
    core := { s.core with mem := memLoad s.par.build x p s.core.mem, srState := p.seed },
    tk := { s.tk with cost := p.cost, shadow := p.cost },
    law := { s.law with scene := p.scenes },
    cap := { s.cap with auth := if s.cap.authSet then s.cap.auth else p.cap.auth },
    margin := { s.margin with base := p.guardBase, guard := (p.guardBase : Int) + 5 * s.margin.trim },
    book := { s.book with codes := p.codes },
    start := { s.start with partId := p.partId, imageVer := p.version, pbMinor := p.minor, fromHost := s.start.streaming,
                            reason := 0, sect := 0, detail := 0, offset := 0 } }
  let s2 := p.regs.foldl initialWrite s1
  let s3 : State := { s2 with regs := { s2.regs with act := s2.regs.wr } }
  (List.range n).foldl (fun y _ => report 0x4004 0 y) s3

/-- SETTLE begins: sites wait for their first reads; without an accepted tick the block is in holdover (R30, R308).
Log 20 DEDUCED, log 94 DEDUCED. -/
def settle (s : State) : State :=
  let sites := (s.pb.therm.sites.map Prod.fst).foldl (fun t i => tset siteSt0 i { siteSt0 with since := s.time.up } t)
    ([] : Tab SiteSt)
  let s1 : State := { s with start := { s.start with state := 8, settleUp := s.time.up },
                             therm := { s.therm with sites := sites } }
  if s1.time.anyTick then s1 else holdoverEnter s1

/-- CHECK (R319 step 6, R320). Log 89 DEDUCED. -/
def execCheck (s0 : State) : Host.Outcome State Fault Refusal :=
  let s := fresh s0
  if !inStage s 7 then done s
  else
    let x := startSrc s
    let p := startContent s
    match contentBad s.par x (sections s.par.build x.rd).2 p.1 with
    | some b => done (reject b s)
    | none => done (settle (railGreet (applyImage x p.1 p.2 s)))

end Sys2Proof.Machine
end

