-- ==== Sys2Proof/Machine/Faults.lean ====
section
/-! DEFINITION. Closing and leaving the fault record (R334, R336), the error pair (R339), loss and return of BCLK (R390), and
Rehearsal mode (R340 to R342). -/

namespace Sys2Proof.Machine

open Sys2Proof

/-! ### FAULT_CTRL -/

def ctrlSt (n : Nat) (s : State) : State := { s with fault := { s.fault with ctrlSt := n } }

/-- R334: CLOSE; a fault of class D or above that is detected in the same cycle has merged already. Log 94 DEDUCED. -/
def faultClose (merged : Bool) (s : State) : State :=
  if merged then ctrlSt 7 s
  else if !s.fault.isOpen then ctrlSt 1 s
  else if s.fault.cls = 3 then ctrlSt 0 { s with fault := closeRecord s.fault (faultStatus s.fault) }
  else ctrlSt 2 s

/-- A write of FAULT_CTRL. -/
def writeFaultCtrl (merged : Bool) (w : Nat) (s : State) : State :=
  let s1 := if w.testBit 31 then faultClose merged s else s
  if w.testBit 30 then { s1 with fault := { s1.fault with recoverReq := true } } else s1

/-- CLOSE (R334): the privilege, and the codes that are detected in its cycle, which win (R82). -/
def execClose (priv : Nat) (same : List Nat) (s0 : State) : Host.Outcome State Fault Refusal :=
  let s1 := reportAll (same.map (fun c => (c, (0 : Int)))) (fresh s0)
  done (rpWrite priv 0xB028 (writeFaultCtrl (same.any (fun c => decide (3 ≤ faultClass c))) (2 ^ 31)) s1)

/-- RECOVER (R336): judged at the next sample edge. -/
def execRecover (priv : Nat) (s : State) : Host.Outcome State Fault Refusal :=
  done (rpWrite priv 0xB028 (writeFaultCtrl false (2 ^ 30)) (fresh s))

/-- R336, Table 12-3: the status of a RECOVER that is judged now; 0 resumes. -/
def recoverStatus (s : State) : Nat :=
  let f := s.fault
  let l := f.sCodes.map recoverEntry
  if s.curt.tripped || s.curt.lockout || lockout s then 5
  else if !f.isOpen || f.cls == 3 then 1
  else if f.safeEarly then 3
  else if l.contains 5 then 5
  else if l.contains 3 then 3
  else if s.core.bclkRange then 4
  else 0

/-- R336: the record is closed, and the Control Program runs in the sample that begins. The outputs leave the safe state with
the first of its images, one sample later. -/
def resume (s : State) : State :=
  { s with
    fault := { closeRecord s.fault (faultStatus s.fault) with ctrlSt := 0 },
    core := { s.core with running := true, overrunLast := true, overrunRun := 0, resumed := true } }

/-- R336, R338: the edge that applies the first outputs after a resumption: the safe state ends and the pair is healthy.
Log 97 DEDUCED. -/
def resumeEdge (s : State) : State :=
  if s.fault.safe && s.core.running && isLive s then
    { s with fault := { s.fault with safe := false, safeEarly := false, errFault := false } }
  else s

/-- R336: a request is judged at a sample edge. -/
def recoverEdge (s : State) : State :=
  if !s.fault.recoverReq then s
  else
    let s1 : State := { s with fault := { s.fault with recoverReq := false } }
    let st := recoverStatus s1
    if st = 0 then raise 0 1 (resume s1) else ctrlSt st s1

/-! ### The error pair and BCLK -/

/-- ERR_PAIR_MISMATCH (R339). -/
def execErrPairMismatch (s0 : State) : Host.Outcome State Fault Refusal :=
  let s := fresh s0
  if !s.start.blkUp then done s
  else done (report 0xD001 0 { s with fault := { s.fault with errMismatch := true } })

/-- BCLK_ABSENT (R390). -/
def execBclkAbsent (s0 : State) : Host.Outcome State Fault Refusal :=
  let s := fresh s0
  if !s.start.blkUp || s.start.bclkAbsent then done s
  else done { s with start := { s.start with bclkAbsent := true, bclkWas := true },
                     fault := { s.fault with errFault := true } }

/-- BCLK_RETURN (R390): 0x1001 in the first cycle and 0x3004 in the next; faults of the Curtain that waited follow (R330). -/
def execBclkReturn (s0 : State) : Host.Outcome State Fault Refusal :=
  let s := fresh s0
  if !s.start.blkUp || !s.start.bclkAbsent then done s
  else
    let s1 : State := { s with start := { s.start with bclkAbsent := false } }
    done (deliverHeld (report 0x3004 0 (report 0x1001 0 s1)))

/-! ### Rehearsal (R340 to R342) -/

/-- A write of REH_CTRL: EN is in force from the next sample; CURT_ARM waits for it; CURT_INJ_SEEN is cleared.
Log 106 DEDUCED. -/
def writeReh (w : Nat) (s : State) : State :=
  { s with
    regs := { s.regs with wr := tset 0 0xB040 (bits w 31 31 * 2 ^ 31) s.regs.wr },
    fault := { s.fault with armReq := s.fault.armReq || w.testBit 30 && w.testBit 31,
                            curtInjSeen := s.fault.curtInjSeen && !w.testBit 28 } }

/-- EN (R340). Log 104 DESIGN CHOICE. -/
def execEn (priv : Nat) (on : Bool) (s : State) : Host.Outcome State Fault Refusal :=
  done (rpWrite priv 0xB040 (writeReh (on.toNat * 2 ^ 31)) (fresh s))

/-- CURT_ARM (R342): written with EN as it is held. -/
def execCurtArm (priv : Nat) (s0 : State) : Host.Outcome State Fault Refusal :=
  done (rpWrite priv 0xB040 (fun s => writeReh (wreg s 0xB040 + 2 ^ 30) s) (fresh s0))

/-- R342: every lease is at 0. -/
def leasesZero (s : State) : Bool := s.tk.agents.all (fun a => a.2.rateQ == 0)

/-- HOST_IDLE (R342): the longest lifetime of a ticket, 4 µs, has passed since the last grant and the last lease.
Log 106 DEDUCED. -/
def execHostIdle (s0 : State) : Host.Outcome State Fault Refusal :=
  let s := fresh s0
  if s.fault.curtArm && leasesZero s && decide (s.fault.armUp + 16 ≤ max s.time.edgeQ (4 * s.time.up)) && clocked s then
    done { s with fault := { s.fault with hostIdle := true } }
  else done s

/-- Table 12-5: a checker is present. -/
def checkerHere (s : State) (c : Nat) : Bool :=
  let n := c % 4096
  match c / 4096 with
  | 1 => decide (1024 * n < progSize s.par.build)
  | 2 => decide (1024 * n < memWords s.par.build 1)
  | 3 => decide (1024 * n < memWords s.par.build 2)
  | 4 => decide (1024 * n < memWords s.par.build 3)
  | 5 => decide (1024 * n < memWords s.par.build 4)
  | 6 => (tlook n s.pb.agents).isSome
  | 7 => (boothKeys s).contains n
  | 8 => (tlook n s.pb.agents).isSome
  | 9 => (tlook n s.pb.therm.sites).isSome
  | 10 => (tlook n s.pb.mons).isSome
  | 11 => decide (n < 16)
  | _ => false

/-- R341, R342: the status of a GO. -/
def injStatusOf (s : State) (c : Nat) : Nat :=
  if !s.fault.reh then 1
  else if !checkerHere s c then 2
  else if s.fault.inj.isSome then 3
  else if c / 4096 = 11 ∧ s.fault.hostIdle = false then 4
  else 0

/-- A write of INJ_CTRL. The pair under test of a Curtain injection is redirected from now on. -/
def writeInj (w : Nat) (s : State) : State :=
  if !w.testBit 31 then s
  else
    let sel := wreg s 0xB044
    let c := bits sel 31 16
    let st := injStatusOf s c
    let f := { s.fault with injStatus := st }
    if st ≠ 0 then { s with fault := f }
    else
      let g := { f with inj := some ⟨c, bits sel 7 0, max 1 (bits sel 15 8)⟩ }
      { s with fault := if c / 4096 = 11 then { g with underTest := some (c % 16), redirect := 2 } else g }

/-- INJECTION_GO (R341). -/
def execInjectionGo (priv : Nat) (s : State) : Host.Outcome State Fault Refusal :=
  done (rpWrite priv 0xB048 (writeInj (2 ^ 31)) (fresh s))

/-- R342: every Agent is held and every lease steps to 0. -/
def curtArmNow (s : State) : State :=
  { s with
    fault := { s.fault with curtArm := true, hostIdle := false, curtDone := false, armUp := s.time.edgeQ },
    tk := { s.tk with agents := s.tk.agents.map (fun a =>
      (a.1, { a.2 with rateQ := 0, target := 0, igniting := false, took := 0 })) } }

/-- R340, R342: Rehearsal at a sample edge: a hold that has been released ends; EN takes effect; an arming is carried out. A
lease that is not yet at 0 starts the idle time again. Log 106 DEDUCED. -/
def rehEdge (s : State) : State :=
  let f := s.fault
  let f1 := if f.curtDone then { f with curtArm := false, hostIdle := false, curtDone := false } else f
  let on := (wreg s 0xB040).testBit 31
  let f2 := if on then { f1 with reh := true }
    else { f1 with reh := false, inj := none, curtDone := f1.curtDone || f1.curtArm && f1.underTest.isNone }
  let s1 : State := { s with fault := { f2 with armReq := false } }
  let s2 := if f.armReq && on && !s1.fault.curtArm then curtArmNow s1 else s1
  if s2.fault.curtArm && !leasesZero s2 then { s2 with fault := { s2.fault with armUp := s2.time.edgeQ, hostIdle := false } }
  else s2

end Sys2Proof.Machine
end

