-- ==== Sys2Proof/Machine/Package.lean ====
section
/-! DEFINITION. The Die Budget Port (R275 to R290, R298, R419): what each message does, the roles, silence, and what the block
latches and sends at a sample edge. Powers in mW; a port field counts 0.5 W. -/

namespace Sys2Proof.Machine

open Sys2Proof

/-! ### Fields and views -/

/-- R276: a power field: the nearest 0.5 W within 13 bits. Log 75 DEDUCED. -/
def dbpPower (mw : Nat) : Nat := toUnsigned 13 (roundEven (mw : Int) 500)

/-- This die's own ID, its package floor and its ceiling. -/
def ownId (s : State) : Nat := s.pb.pkg.dieId
def ownFloor (s : State) : Nat := min s.pb.cap.pkgFloor s.pb.cap.dieCeil

def dieRec (s : State) (j : Nat) : DieRec := tget dieRec0 j s.pkg.dies
def putDie (j : Nat) (d : DieRec) (s : State) : State :=
  { s with pkg := { s.pkg with dies := tset dieRec0 j d s.pkg.dies } }

/-- R279: a die is alive while a JOIN or REPORT from it has been latched within the last 50 ticks. -/
def dieAlive (s : State) (d : DieRec) : Bool :=
  match d.seen with
  | some u => decide (s.time.up < u + 50)
  | none => false

/-- A die's build: as its JOIN tells it, and before one has been heard as the package map lists it (R278); 7 is unknown.
Log 72 DEDUCED. -/
def dieBuild (s : State) (j : Nat) : Nat :=
  if (dieRec s j).build = 7 then tget 7 j s.pb.pkg.map else (dieRec s j).build

/-- R279: a die is eligible: alive, of Full or Standard build, with a unique ID. -/
def eligible (s : State) (j : Nat) : Bool :=
  if j = ownId s then decide (s.par.build < 2) && !s.pkg.dup
  else dieAlive s (dieRec s j) && decide (dieBuild s j < 2)

/-- The eligible dies in ascending ID. -/
def eligibles (s : State) : List Nat := (List.range 24).filter (eligible s)

/-- R279: the Understudy of a Stage Manager: the lowest eligible ID other than its own, 31 for none. Log 76 DEDUCED. -/
def understudyOf (s : State) (sm : Nat) : Nat := ((eligibles s).filter (· != sm)).headD 31

/-- A role taken; a change sets the cause. -/
def setRole (r : Nat) (s : State) : State := raiseIf (r != s.pkg.role) 9 0 { s with pkg := { s.pkg with role := r } }

/-- R282: a TERM is newer than the latched one. -/
def termNewer (latched t : Nat) : Bool :=
  let d := (t + 256 - latched % 256) % 256
  decide (1 ≤ d ∧ d ≤ 127)

/-- R276: a message that is discarded: DBP_BAD and a class N fault. -/
def dbpReject (s : State) : State := { s with pkg := { s.pkg with bad := wrapAdd 8 s.pkg.bad 1 } }

/-- R279, R282: the TERM of an ALLOC or ROLES: none when it is older. A newer one makes a leader step down; before the block
has taken a role, the first TERM seen is taken. -/
def termSee (t : Nat) (s : State) : Option State :=
  let take := { s with pkg := { s.pkg with term := t, heard := true } }
  if !s.pkg.heard && !s.pkg.joined then some take
  else if t = s.pkg.term then some { s with pkg := { s.pkg with heard := true } }
  else if termNewer s.pkg.term t then some (setRole 0 take)
  else none

/-- The port takes messages once an image gives the die its ID. Log 71 DESIGN CHOICE. -/
def dbpTakes (s : State) : Bool := clocked s && s.pb.valid

/-- The sample number that a SEQ of 8 bits names: the latest one. Log 71 DESIGN CHOICE. -/
def seqSample (k q : Nat) : Nat := k - (k + 256 - q) % 256

/-- R280: something of the Stage Manager has been latched. -/
def sawLeader (src : Nat) (s : State) : State :=
  if src = s.pkg.smId then { s with pkg := { s.pkg with smSeen := s.time.up } } else s

/-! ### Messages -/

/-- DBP_REPORT (R276): a late REPORT is still used (R277). -/
def execDbpReport (src _dst _role payload : Nat) (s0 : State) : Host.Outcome State Fault Refusal :=
  let s := fresh s0
  if !dbpTakes s || src == ownId s then done s
  else
    let d := dieRec s src
    done (sawLeader src (putDie src { d with
      seen := some s.time.up, rptUp := some s.time.up, rptK := some (seqSample s.time.k (bits payload 47 40)),
      power := 500 * bits payload 39 27, demand := 500 * bits payload 26 14, applied := 500 * bits payload 13 1,
      cu := payload.testBit 0 } (arrived (srcDie src) s)))

/-- DBP_ALLOC (R286, R277, R282): a copy whose SEQ is that of the running sample is latched at the next edge; a copy of another
sample is late, and one with an older TERM is discarded. -/
def execDbpAlloc (src dst role payload : Nat) (s0 : State) : Host.Outcome State Fault Refusal :=
  let s := fresh s0
  if !dbpTakes s then done s
  else match termSee (bits payload 39 32) s with
    | none => done (dbpReject s)
    | some s1 =>
      let s2 := sawLeader src (arrived (srcDie src) s1)
      let c := some (500 * bits payload 31 19, payload.testBit 18, bits payload 17 10)
      if dst ≠ ownId s ∧ dst ≠ 31 then done s2
      else if bits payload 47 40 ≠ s.time.k % 256 then
        done { s2 with pkg := { s2.pkg with late := wrapAdd 8 s2.pkg.late 1 } }
      else if role = 2 then done { arrived srcAlloc s2 with pkg := { s2.pkg with smCopy := c } }
      else if role = 1 then done { arrived srcAlloc s2 with pkg := { s2.pkg with usCopy := c } }
      else done s2

/-- DBP_JOIN (R279): the die is alive; a JOIN with this die's own ID reveals a duplicate (R278). Log 72 DEDUCED. -/
def execDbpJoin (src _dst _role payload : Nat) (s0 : State) : Host.Outcome State Fault Refusal :=
  let s := fresh s0
  if !dbpTakes s then done s
  else if src = ownId s then
    done (setRole 0 (report 0xA001 0 { s with pkg := { s.pkg with dup := true } }))
  else
    let d := dieRec s src
    done (putDie src { d with
      seen := some s.time.up, build := bits payload 39 37, floor := 500 * bits payload 33 21,
      ceil := 500 * bits payload 20 8, minor := bits payload 7 0, left := false, departed := false } (arrived (srcDie src) s))

/-- DBP_SLACK (R292). -/
def execDbpSlack (src _dst _role payload : Nat) (s0 : State) : Host.Outcome State Fault Refusal :=
  let s := fresh s0
  if !dbpTakes s then done s
  else done (putDie src { dieRec s src with slack := bits payload 39 24 } (arrived (srcDie src) s))

/-- DBP_ROLES (R282): the roles of the package as its Stage Manager gives them. -/
def execDbpRoles (src _dst _role payload : Nat) (s0 : State) : Host.Outcome State Fault Refusal :=
  let s := fresh s0
  if !dbpTakes s then done s
  else match termSee (bits payload 39 32) s with
    | none => done (dbpReject s)
    | some s1 =>
      let sm := bits payload 31 27
      let us := bits payload 26 22
      let seen := if sm = s1.pkg.smId then s1.pkg.smSeen else s1.time.up
      let s2 : State := { arrived (srcDie src) s1 with pkg := { s1.pkg with smId := sm, usId := us, smSeen := seen } }
      let own := ownId s
      done (setRole (if sm = own ∧ s1.pkg.role = 2 then 2 else if us = own ∧ !s.pkg.dup then 1 else 0) s2)

/-- DBP_LEAVE (R298): what lies above the floor is released at once; the floor stays until Departed. -/
def execDbpLeave (src _dst _role payload : Nat) (s0 : State) : Host.Outcome State Fault Refusal :=
  let s := fresh s0
  if !dbpTakes s then done s
  else
    let f := 500 * bits payload 39 27
    let s1 := putDie src { dieRec s src with left := true, floor := f, applied := f } (arrived (srcDie src) s)
    done { s1 with pkg := { s1.pkg with led := { s1.pkg.led with
      sent := tset [] src [] s1.pkg.led.sent, a := tmod 0 src (min f) s1.pkg.led.a } } }

/-- DBP_BAD (R276): a reserved TYPE or a parity error. -/
def execDbpBad (s0 : State) : Host.Outcome State Fault Refusal :=
  let s := fresh s0
  if !clocked s then done s else done (report 0xA002 0 (dbpReject s))

/-! ### Roles and silence -/

/-- JOIN_PHASE_END (R279): after 200 ticks of JOIN: a member of a running package, or the result of the first election. -/
def execJoinPhaseEnd (s0 : State) : Host.Outcome State Fault Refusal :=
  let s := fresh s0
  if s.pkg.joined || !s.start.live || !clocked s || decide (s.time.up < s.pkg.liveUp + 200) then done s
  else
    let s1 : State := { s with pkg := { s.pkg with joined := true, copyUp := s.time.up, rptUp := s.time.up,
                                                   smSeen := s.time.up } }
    if s.pkg.heard then done (setRole 0 s1)
    else
      let sm := (eligibles s).headD 31
      let us := understudyOf s sm
      let s2 : State := { s1 with pkg := { s1.pkg with
        heard := true, term := 1, smId := sm, usId := us, rolesDue := sm == ownId s } }
      done (setRole (if sm = ownId s then 2 else if us = ownId s then 1 else 0) s2)

/-- TAKEOVER (R280): nothing of the Stage Manager for 50 ticks. The open raises are dropped, and no raise is issued until every
alive die has reported after this edge. -/
def execTakeover (s0 : State) : Host.Outcome State Fault Refusal :=
  let s := fresh s0
  if s.pkg.role ≠ 1 ∨ s.time.up < s.pkg.smSeen + 50 ∨ clocked s = false then done s
  else
    let t := (s.pkg.term + 1) % 256
    let us := ((eligibles s).filter (fun j => j != ownId s && j != s.pkg.smId)).headD 31
    let s1 : State := { s with pkg := { s.pkg with
      term := t, smId := ownId s, usId := us, rolesDue := true, takeovers := wrapAdd 8 s.pkg.takeovers 1,
      barred := some s.time.k, led := { s.pkg.led with sent := [], since := [], stay := [] } } }
    done (report 0xA003 (t : Int) (setRole 2 s1))

/-- MEMBER_SILENCE (R287): no copy for 50 ticks, or a LAST_RPT that has not advanced for 50. -/
def execMemberSilence (s0 : State) : Host.Outcome State Fault Refusal :=
  let s := fresh s0
  if !s.pkg.joined || s.pkg.silence != 0 || !clocked s ||
      decide (s.time.up < s.pkg.copyUp + 50 ∧ s.time.up < s.pkg.rptUp + 50) then done s
  else
    done (raise 9 1 { s with pkg := { s.pkg with
      silence := 1, silentUp := s.time.up, heldAlloc := s.pkg.alloc.getD 0 } })

/-- DIE_SILENCE (R288): the ledger keeps the die's last H, from which the silence model falls. -/
def execDieSilence (die : Nat) (s0 : State) : Host.Outcome State Fault Refusal :=
  let s := fresh s0
  let d := dieRec s die
  let silent := match d.rptUp with
    | some u => decide (u + 50 ≤ s.time.up)
    | none => false
  if s.pkg.role = 2 ∧ silent = true ∧ (tlook die s.pkg.led.held).isNone then
    done { s with pkg := { s.pkg with led := { s.pkg.led with held := tins die (tget 0 die s.pkg.led.h) s.pkg.led.held } } }
  else done s

/-- DONOR_TIMEOUT (R290): a raise that its donors have not made room for within DONOR_TO is withdrawn. -/
def execDonorTimeout (die : Nat) (s0 : State) : Host.Outcome State Fault Refusal :=
  let s := fresh s0
  match tlook die s.pkg.led.since with
  | none => done s
  | some u =>
    if s.pkg.role ≠ 2 ∨ s.time.up < u + bits (areg s 0x901C) 31 16 then done s
    else
      done (report 0xA004 0 { s with pkg := { s.pkg with
        donorTimeouts := wrapAdd 8 s.pkg.donorTimeouts 1,
        led := { s.pkg.led with stay := s.pkg.led.stay ++ [die], since := terase die s.pkg.led.since } } })

/-- R289: the alert of package scope. -/
def pkgEscAlert (s : State) : State :=
  let lim := fun n => (effLimit s.core.im (pkgCopies s.pb.cap s.core.im s.core.im.cap.val n)).1
  let s1 := alert 0x40 (escData 1 s.core.app.cap.yPkg (lim 2) (lim 3)) s
  { s1 with pkg := { s1.pkg with led := { s1.pkg.led with escUp := s.time.up } } }

/-- PKG_ESC_REPEAT (R289). -/
def execPkgEscRepeat (s0 : State) : Host.Outcome State Fault Refusal :=
  let s := fresh s0
  if running s && s.core.app.ledger.esc && s.pkg.role == 2 && decide (s.pkg.led.escUp + 1000 ≤ s.time.up) then
    done (pkgEscAlert s)
  else done s

/-! ### At a sample edge -/

/-- The ticks since the last edge include one divisible by `m`. -/
def tickCrossed (s : State) (m : Nat) : Bool := decide (s.time.count % m < s.time.up - s.time.edgeUp)

/-- R286, R287: the copy that an edge latches, or the decay of a silent member. A copy whose LAST_RPT still stands governs what
the member holds and does not end its silence. Log 72 DEDUCED. -/
def allocEdge (s : State) : State :=
  let fall := fun (p : PkgSt) =>
    if p.silence = 0 then p
    else
      let e := s.time.up - p.silentUp
      { p with silence := if e < 1000 then 1 else if e < 11000 then 2 else 3,
               alloc := some (silenceModel 1000 10000 p.heldAlloc (min p.heldAlloc (ownFloor s)) e) }
  let take := fun (a : Nat) (c : Nat × Bool × Nat) (dup : Bool) (p : PkgSt) =>
    let r := if c.2.2 = p.lastRpt then p.rptUp else s.time.up
    let stuck := decide (r + 50 ≤ s.time.up)
    fall { p with alloc := some a, wait := c.2.1, silence := if stuck then p.silence else 0,
                  heldAlloc := if stuck then a else p.heldAlloc, copyUp := s.time.up, smCopy := none, usCopy := none,
                  rptUp := r, lastRpt := c.2.2, dupDiscard := wrapInc 8 dup p.dupDiscard }
  { s with pkg := match s.pkg.smCopy, s.pkg.usCopy with
    | some c, u => take c.1 c u.isSome s.pkg
    | none, some c => take (min c.1 (s.pkg.alloc.getD c.1)) c false s.pkg
    | none, none => fall s.pkg }

/-- R298: a die that leaves in order holds its allocation at its floor. Log 73 DEDUCED. -/
def leaveEdge (s : State) : State :=
  if s.pkg.leaving = 0 then s
  else { s with pkg := { s.pkg with alloc := some (min (s.pkg.alloc.getD 0) (ownFloor s)) } }

/-- The Stage Manager's ledger as the next image latches it: the sample's result with what the edge has sent. -/
def ledgerEdge (s : State) : State :=
  let a := s.core.app.ledger
  let l := s.pkg.led
  { s with pkg := { s.pkg with led := { a with
    sent := l.sent, stay := l.stay, escUp := l.escUp, held := a.held,
    since := a.since.filter (fun x => !l.stay.contains x.1) } } }

/-- A message to the package. -/
def dbpSend (type dst payload : Nat) (s : State) : State := emit (.dbp type (ownId s) dst s.pkg.role payload) s

/-- R298: the LEAVE of a die that has lowered its allocation. -/
def sendLeave (s : State) : State :=
  if s.pkg.leaving = 1 then
    let s1 := dbpSend 6 31 (numOf [(47, 40, s.time.k), (39, 27, dbpPower (ownFloor s))]) s
    { s1 with pkg := { s1.pkg with leaving := 2 } }
  else s

/-- R276: the REPORT of an edge; the block keeps its own as the others latch it. `demand` is R281's. A die that has latched no
allocation reports 0 as APPLIED (R299). Log 71 DESIGN CHOICE, log 72 DEDUCED. -/
def sendReport (demand : Nat) (s : State) : State :=
  let left := s.pkg.leaving == 2
  let fl := dbpPower (ownFloor s)
  let pw := dbpPower s.core.app.est.pCtl
  let dm := if left then fl else dbpPower demand
  let ap := if left then fl else dbpPower (s.pkg.alloc.getD 0)
  let d := dieRec s (ownId s)
  dbpSend 1 31 (numOf [(47, 40, s.time.k), (39, 27, pw), (26, 14, dm), (13, 1, ap), bit 0 s.core.app.cap.unatt])
    (putDie (ownId s) { d with
      seen := some s.time.up, rptUp := some s.time.up, rptK := some s.time.k, power := 500 * pw, demand := 500 * dm,
      applied := 500 * ap, cu := s.core.app.cap.unatt, build := s.par.build, floor := 500 * fl,
      ceil := 500 * dbpPower s.pb.cap.dieCeil, minor := s.pb.minor, left := left } s)

/-- R276: JOIN for 200 ticks after LIVE, and at each tick divisible by 1,000. -/
def sendJoin (s : State) : State :=
  if (!s.pkg.joined || tickCrossed s 1000) && s.pkg.leaving != 2 then
    dbpSend 3 31 (numOf [(47, 40, s.time.k), (39, 37, s.par.build), (33, 21, dbpPower (ownFloor s)),
      (20, 8, dbpPower s.pb.cap.dieCeil), (7, 0, s.pb.minor)]) s
  else s

/-- R292: SLACK in 1/65,536 from the sync-wait taps over 100 ticks; their counts are in cycles of 1 ns. Log 74 PRESUMED. -/
def slackOf (taps wait : Nat) : Nat := if taps = 0 then 65535 else min 65535 (wait * 65536 / (100000 * taps))

/-- R292: what the sync-wait taps counted in the sample that has ended, and SLACK at each tick divisible by 100.
Log 71 DESIGN CHOICE, log 74 PRESUMED. -/
def sendSlack (s : State) : State :=
  let taps := s.pb.pkg.syncTaps
  let w := s.pkg.syncWait
  if tickCrossed s 100 then
    let x := slackOf taps.length w
    dbpSend 4 31 (numOf [(47, 40, s.time.k), (39, 24, x)])
      (putDie (ownId s) { dieRec s (ownId s) with slack := x } { s with pkg := { s.pkg with syncWait := 0, slack := x } })
  else s

/-- R285, R286: one ALLOC; the Stage Manager remembers what it has sent since the die's last REPORT. The block's own copy is
latched at the next edge like any other. Log 71 DESIGN CHOICE. -/
def sendAlloc (j : Nat) (s : State) : State :=
  let d := dieRec s j
  let l := s.pkg.led
  let sm := s.pkg.role == 2
  let a := if sm then tget 0 j l.a else min (tget 0 j l.t) d.applied
  let w := sm && l.wait.contains j
  let q := (d.rptK.map (· % 256)).getD 0
  let s1 := dbpSend 2 j (numOf [(47, 40, s.time.k), (39, 32, s.pkg.term), (31, 19, a / 500), bit 18 w, (17, 10, q)]) s
  let keep := (tget [] j l.sent).filter (fun x => match d.rptK with
    | some k => decide (k < x.1)
    | none => true)
  let c := some (500 * (a / 500), w, q)
  let own := decide (j = ownId s)
  { s1 with pkg := { s1.pkg with
    smCopy := if own && sm then c else s1.pkg.smCopy, usCopy := if own && !sm then c else s1.pkg.usCopy,
    led := { l with a := tset 0 j a l.a, sent := if sm then tset [] j ((s.time.k, a) :: keep) l.sent else l.sent } } }

/-- R282: ROLES at each role change and at each tick divisible by 1,000, with the Understudy of R279. -/
def sendRoles (s : State) : State :=
  if s.pkg.role == 2 && (s.pkg.rolesDue || tickCrossed s 1000) then
    let us := understudyOf s (ownId s)
    let s1 : State := { s with pkg := { s.pkg with usId := us, rolesDue := false } }
    dbpSend 5 31 (numOf [(47, 40, s.time.k), (39, 32, s.pkg.term), (31, 27, ownId s), (26, 22, us)]) s1
  else s

/-- R280: the new Stage Manager may raise again once every alive die has reported after the takeover edge.
Log 76 DEDUCED. -/
def barEdge (s : State) : State :=
  match s.pkg.barred with
  | none => s
  | some k =>
    let all := s.pkg.dies.all (fun d => !dieAlive s d.2 || (match d.2.rptK with
      | some r => decide (k < r)
      | none => false))
    if all then { s with pkg := { s.pkg with barred := none } } else s

/-- The dies of the package map that the block has heard of and that Departed has not released. -/
def knownDies (s : State) : List Nat :=
  (s.pb.pkg.map.map Prod.fst).filter (fun j => (dieRec s j).seen.isSome && !(dieRec s j).departed)

/-- The Die Budget Port at a sample edge: what it latches, and, once the outputs are live, what it sends. `demand` is R281's for
the sample that has ended. -/
def pkgEdge (demand : Nat) (s : State) : State :=
  let s1 := barEdge (ledgerEdge (leaveEdge (allocEdge s)))
  if holdOut s1 then s1
  else
    let s2 := sendSlack (sendJoin (sendReport demand (sendLeave s1)))
    if 1 ≤ s2.pkg.role then sendRoles ((knownDies s2).foldl (fun x j => sendAlloc j x) s2) else s2

end Sys2Proof.Machine
end

