-- ==== Sys2Proof/Machine/Zilter.lean ====
section
/-! DEFINITION. The fleet tree (R291 to R299): what a package knows of itself, its parent and its children, the interval of
R295, silence (R296), laggards (R297), and the Zilter messages. Powers in W unless named. -/

namespace Sys2Proof.Machine

open Sys2Proof

/-! ### This package's own figures (Table 10-5) -/

/-- Rounding of mW up to W. -/
def wUp (mw : Nat) : Nat := ceilDiv mw 1000

/-- FLOOR_W: the floors of the package's dies and PKG_UNMANAGED. Log 77 DESIGN CHOICE. -/
def floorW (s : State) : Nat := wUp (s.pb.cap.pkgUnmanaged + sumN ((knownDies s).map (fun j => (dieRec s j).floor)))
/-- CEIL_W: the effective package W5 limit. -/
def ceilW (s : State) : Nat := (effLimit s.core.im (pkgCopies s.pb.cap s.core.im s.core.im.cap.val 5)).1 / 1000
/-- DEMAND_W. Log 77 DESIGN CHOICE. -/
def demandW (s : State) : Nat := wUp (s.pb.cap.pkgUnmanaged + sumN ((knownDies s).map (fun j => (dieRec s j).demand)))
/-- R294: the sum of H over the dies, rounded up. -/
def heldW (s : State) : Nat := wUp (sumN (s.pkg.led.h.map Prod.snd))
/-- R292: the lowest SLACK among the compute dies. -/
def slackW (s : State) : Nat := minN 65535 (s.pb.pkg.compute.map (fun j => (dieRec s j).slack))
/-- POWER_W: the mean over the interval of 100 ticks. -/
def powerW (s : State) : Nat := toUnsigned 32 (roundEven (s.zilt.energy : Int) 100)

/-- A parent keeps an entry for itself among its children. -/
def isParent (z : ZiltSt) : Bool := z.placed && (z.level == 0 || decide (z.children ≠ []))
/-- Log 77 DESIGN CHOICE. -/
def ownChild (z : ZiltSt) : Option Child := z.children.find? (fun c => c.id = z.id)

/-- R291: F of this package in W: a parent that is a child of itself has what it allots to itself. A package that leaves in
order lowers it to FLOOR_W (R298). -/
def fleetW (s : State) : Option Nat :=
  let f := match ownChild s.zilt with
    | some c => some c.a
    | none => if s.zilt.placed then s.zilt.f else none
  if s.zilt.leaving = 0 then f else some (min (f.getD (floorW s)) (floorW s))

/-- FLOOR_W as a package reports it: that of its subtree (Table 10-5). -/
def subtreeFloor (s : State) : Nat :=
  if isParent s.zilt then sumN (s.zilt.children.map Child.floor) else floorW s

/-- F that a package with a parent works under: one that leaves in order lowers it to its floor (R298). -/
def fleetIn (s : State) : Nat :=
  let f := s.zilt.f.getD 0
  if s.zilt.leaving = 0 then f else min f (subtreeFloor s)

/-! ### Messages -/

/-- A field of the payload, bytes 16 to 59, low byte first. -/
def zltField (body : List Nat) (byte n : Nat) : Nat := fromLe ((body.drop (byte - 16)).take n)

/-- SEQ of a message sent now. -/
def zltSeq (s : State) : Nat := s.time.count / 100 % 2 ^ 32

/-- A Zilter message: only the Stage Manager sends (R293). The payload is filled to 44 bytes. -/
def zltSend (type dst : Nat) (body : List Nat) (s : State) : State :=
  if s.pkg.role = 2 then emit (.zlt type dst (zltSeq s) s.pkg.term ((body ++ List.replicate 44 0).take 44)) s else s

/-- A block keeps the state of the tree while it is a leader of a placed package (R293). -/
def zltTakes (s : State) (dst : Nat) : Bool := clocked s && s.zilt.placed && decide (1 ≤ s.pkg.role) && dst == s.zilt.id

def putChildren (l : List Child) (s : State) : State := { s with zilt := { s.zilt with children := l } }
def modChild (id : Nat) (f : Child → Child) (s : State) : State :=
  putChildren (s.zilt.children.map (fun c => if c.id = id then f c else c)) s
def childOf (s : State) (id : Nat) : Option Child := s.zilt.children.find? (fun c => c.id = id)

/-- R293, R282: a message of a child is taken with its newest TERM. -/
def childTerm (c : Child) (term : Nat) : Bool := term == c.term || termNewer c.term term

/-- ZLT_REPORT (R294). -/
def execZltReport (src dst seq term : Nat) (body : List Nat) (s0 : State) : Host.Outcome State Fault Refusal :=
  let s := fresh s0
  match childOf s src with
  | none => done s
  | some c =>
    if !zltTakes s dst || !childTerm c term then done s
    else done (modChild src (fun c => { c with
      term := term, power := zltField body 16 4, demand := zltField body 20 4, floor := zltField body 24 4,
      ceil := zltField body 28 4, applied := zltField body 32 4, slack := zltField body 36 2, pkgs := zltField body 38 2,
      laggards := zltField body 40 2, seq := seq, rptUp := s.time.up, silent := false,
      sent := c.sent.filter (fun x => decide (seq < x.1)) }) (arrived (srcChild src) s))

/-- ZLT_ALLOC (R291, R296): the next accepted message ends a silence, unless its LAST_RPT still stands. Log 72 DEDUCED. -/
def execZltAlloc (src dst seq term : Nat) (body : List Nat) (s0 : State) : Host.Outcome State Fault Refusal :=
  let s := fresh s0
  let z := s.zilt
  let ok := match z.parentTerm with
    | some t => term == t || termNewer t term
    | none => true
  if !zltTakes s dst || src != z.parent || z.level == 0 || !ok then done s
  else
    let r := zltField body 24 4
    let fl := zltField body 20 1
    let f := zltField body 16 4
    let up := if r = z.lastRpt then z.rptUp else s.time.up
    let stuck := decide (up + 300 ≤ s.time.up)
    done { arrived srcFleet s with zilt := { z with
      f := some f, fWait := fl.testBit 0, lagHold := fl.testBit 1, parentTerm := some term,
      silence := if stuck then z.silence else 0, heldF := if stuck then f else z.heldF,
      allocUp := s.time.up, rptUp := up, lastRpt := r, lastAlloc := seq } }

/-- A child placed among the others in ascending package ID, up to 128. -/
def childInsert (c : Child) (l : List Child) : List Child :=
  if l.any (fun d => d.id = c.id) then l.map (fun d => if d.id = c.id then c else d)
  else if 128 ≤ l.length then l
  else insertBy (fun a b => decide (a.id ≤ b.id)) c l

/-- ZLT_JOIN (R299): a child starts with no allocation and waits for its floor. What the ledger holds for one that it knows stands
until a REPORT confirms less (R294). -/
def execZltJoin (src dst seq term : Nat) (body : List Nat) (s0 : State) : Host.Outcome State Fault Refusal :=
  let s := fresh s0
  let old := childOf s src
  let stale := match old with
    | some c => !childTerm c term
    | none => false
  if !zltTakes s dst || src == s.zilt.id || stale then done s
  else
    done (putChildren (childInsert { old.getD { child0 with wait := true } with
      id := src, term := term, floor := zltField body 16 4, ceil := zltField body 20 4, pkgs := zltField body 24 2,
      seq := seq, rptUp := s.time.up, left := false, silent := false } s.zilt.children) (arrived (srcChild src) s))

/-- ZLT_LEAVE (R298): what lies above the floor is released at once, and LEAVE_ACK carries it. -/
def execZltLeave (src dst seq term : Nat) (body : List Nat) (s0 : State) : Host.Outcome State Fault Refusal :=
  let s := fresh s0
  match childOf s src with
  | none => done s
  | some c =>
    if !zltTakes s dst || !childTerm c term then done s
    else
      let fl := zltField body 16 4
      let s1 := modChild src (fun c => { c with
        term := term, left := true, floor := fl, applied := fl, a := min c.a fl, h := min c.h fl, sent := [], seq := seq,
        rptUp := s.time.up }) (arrived (srcChild src) s)
      done (zltSend 5 src (leBytes 4 (c.h - fl)) s1)

/-- ZLT_LEAVE_ACK (R298). -/
def execZltLeaveAck (src dst _seq _term : Nat) (_body : List Nat) (s0 : State) : Host.Outcome State Fault Refusal :=
  let s := fresh s0
  if zltTakes s dst && src == s.zilt.parent && s.zilt.leaving == 2 then
    done { s with zilt := { s.zilt with leaving := 3 } }
  else done s

/-- ZLT_BAD (R293, R420): a reserved TYPE, a number of beats other than eight, or, with `crc`, a failed CRC, which alone records a
fault. Log 79 DEDUCED. -/
def execZltBad (s0 : State) (crc : Bool := true) : Host.Outcome State Fault Refusal :=
  let s := fresh s0
  if !clocked s then done s
  else
    let s1 : State := { s with zilt := { s.zilt with bad := wrapAdd 8 s.zilt.bad 1 } }
    done (if crc then report 0xB001 0 s1 else s1)

/-- FMP_TX_TIMEOUT (R420). Log 79 DEDUCED. -/
def execFmpTxTimeout (s0 : State) : Host.Outcome State Fault Refusal :=
  let s := fresh s0
  if !clocked s then done s else done { s with zilt := { s.zilt with txDrop := wrapAdd 8 s.zilt.txDrop 1 } }

/-! ### Silence (R296) -/

/-- PARENT_SILENCE. -/
def execParentSilence (s0 : State) : Host.Outcome State Fault Refusal :=
  let s := fresh s0
  let z := s.zilt
  if !clocked s || !z.placed || z.level == 0 || s.pkg.role == 0 || z.silence != 0 ||
      decide (s.time.up < z.allocUp + 300 ∧ s.time.up < z.rptUp + 300) then done s
  else
    done (raise 9 4 { s with zilt := { z with silence := 1, silentUp := s.time.up, heldF := z.f.getD 0 } })

/-- CHILD_SILENCE: the ledger keeps the child's H, from which the model falls. -/
def execChildSilence (package : Nat) (s0 : State) : Host.Outcome State Fault Refusal :=
  let s := fresh s0
  match childOf s package with
  | none => done s
  | some c =>
    if c.silent || package == s.zilt.id || decide (s.time.up < c.rptUp + 300) then done s
    else done (modChild package (fun c => { c with silent := true, held := c.h }) s)

/-- R296: F of a child whose parent is silent, evaluated at every edge. -/
def zltEdge (s : State) : State :=
  let z := s.zilt
  if z.silence = 0 ∨ z.f.isNone then s
  else
    let e := s.time.up - z.silentUp
    { s with zilt := { z with
      silence := if e < 10000 then 1 else if e < 110000 then 2 else 3,
      f := some (silenceModel 10000 100000 z.heldF (min z.heldF (subtreeFloor s)) e) } }

/-! ### The interval (R295, R297) -/

/-- R294: the ledger entry of a child. -/
def childH (up : Nat) (c : Child) : Nat :=
  if c.silent then silenceModel 10600 100000 c.held (min c.held c.floor) (up - c.rptUp)
  else c.sent.foldl (fun m x => max m x.2) c.applied

/-- The parent's own entry, from its package's figures. -/
def selfChild (s : State) (c : Child) : Child :=
  { c with id := s.zilt.id, term := s.pkg.term, floor := floorW s, ceil := ceilW s, demand := demandW s,
           applied := max c.a (heldW s), power := powerW s, slack := slackW s, pkgs := 1, laggards := 0, sent := [],
           silent := false, rptUp := s.time.up }

/-- The children of a parent at an interval, with H. -/
def intervalChildren (s : State) : List Child :=
  let own := selfChild s ((ownChild s.zilt).getD { child0 with wait := true })
  (childInsert own s.zilt.children).map (fun c => { c with h := childH s.time.up c })

/-- R291: the budget that a parent divides. -/
def parentBudget (s : State) (l : List Child) : Nat :=
  let sum := sumN (l.map Child.ceil)
  if s.zilt.level = 0 then min sum (s.zilt.budget.getD sum) else fleetIn s

/-- R295: the direction of a child against the mean SLACK of `n` children, whose sum is `sum`. Log 77 DESIGN CHOICE. -/
def shiftDir (sum n dead : Nat) (c : Child) : Int :=
  if n * (c.slack + dead) < sum then 1 else if sum + n * dead < n * c.slack then -1 else 0

/-- R295: the changes after scaling; `lag` says that a laggard is open. -/
def shiftScale (lag : Bool) (l : List Int) : List Int :=
  let up := (sumI (l.filter (fun x => decide (0 < x)))).toNat
  let dn := (- sumI (l.filter (fun x => decide (x < 0)))).toNat
  l.map (fun x =>
    if 0 < x ∧ dn < up then x * dn / up
    else if x < 0 ∧ up < dn ∧ lag = false then - (-x * up / dn)
    else x)

/-- R295: the targets lowered in proportion to what lies above the floors until their sum is the budget: (floor, target).
Log 77 DESIGN CHOICE. -/
def lowerTo (b : Nat) (l : List (Nat × Nat)) : List Nat :=
  let sum := sumN (l.map Prod.snd)
  if sum ≤ b then l.map Prod.snd
  else
    let ex := l.map (fun x => x.2 - x.1)
    let e := sumN ex
    let keep := e - (sum - b)
    let part := ex.map (fun x => if e = 0 then 0 else x * keep / e)
    let rest := keep - sumN part
    let give := (List.range ex.length).filter (fun i => decide (part.getD i 0 < ex.getD i 0))
    (List.range l.length).map (fun i =>
      (l.getD i (0, 0)).2 - ex.getD i 0 + part.getD i 0 + (if (give.take rest).contains i then 1 else 0))

/-- R297: the runs of a child that an interval gives the target `t` and the direction `d`, and whether it is a laggard.
Log 77 DESIGN CHOICE. -/
def lagStep (lagN t : Nat) (d : Int) (c : Child) : Child :=
  let lr := if t = c.ceil ∧ d = 1 then c.lagRun + 1 else 0
  let cr := if d = 1 then 0 else c.clearRun + 1
  let isLag := if c.laggard then decide (cr < lagN) else decide (lagN ≤ lr)
  { c with dir := d, lagRun := min lagN lr, clearRun := min lagN cr, laggard := isLag }

/-- R295, R297, R299: one interval of a parent: targets, shifts and laggard runs. A child that waits for admission, or that has
left, is meant to have its floor. Log 77 DESIGN CHOICE. -/
def shiftStep (pct dead lagN b : Nat) (l : List Child) : List (Child × Nat × Int) :=
  let sum := max 1 (sumN (l.map Child.ceil))
  let lag := l.any Child.laggard
  let ds := l.map (shiftDir (sumN (l.map Child.slack)) l.length dead)
  let ch := shiftScale lag (l.zipIdx.map (fun x => ds.getD x.2 0 * ((x.1.ceil * pct / 10000 : Nat) : Int)))
  let one := fun (i : Nat) (c : Child) =>
    let base : Int := ((b * c.ceil / sum : Nat) : Int)
    let t := (min (c.ceil : Int) (max (c.floor : Int) (base + c.delta + ch.getD i 0))).toNat
    ({ c with delta := (t : Int) - base }, if c.admitted && !c.left then t else c.floor, ch.getD i 0)
  let x := l.zipIdx.map (fun c => one c.2 c.1)
  let ts := lowerTo b (x.map (fun y => (y.1.floor, y.2.1)))
  x.zipIdx.map (fun y => (lagStep lagN (ts.getD y.2 0) (ds.getD y.2 0) y.1.1, ts.getD y.2 0, y.1.2.2))

/-- R285 in W: decreases at once, raises within the room in ascending package ID. A child is admitted by the raise that gives it its
whole floor (R299). -/
def childLedger (b : Nat) (l : List (Child × Nat)) : List Child :=
  let room := b - sumN (l.map (fun x => x.1.h))
  (l.foldl (fun (x : List Child × Nat) c =>
    let a0 := min c.1.a c.2
    let n := min c.2 (c.1.h + x.2)
    let up := decide (a0 < n ∧ c.1.floor ≤ n) && !c.1.silent
    let a := if up then n else a0
    (x.1 ++ [{ c.1 with a := a, wait := decide (a < c.2), admitted := c.1.admitted || decide (c.1.floor ≤ a) }],
      if up then x.2 - (n - c.1.h) else x.2)) ([], room)).1

/-- One ALLOC to a child; an allocation sent is remembered until a REPORT after it (R294). `hold` is LAG_HOLD. -/
def allocOut (hold : Bool) (c : Child) (s : State) : State :=
  if c.id = s.zilt.id then s
  else
    let s1 := zltSend 2 c.id (leBytes 4 c.a ++ [c.wait.toNat + 2 * hold.toNat, 0, 0, 0] ++ leBytes 4 c.seq) s
    modChild c.id (fun x => { x with sent := x.sent ++ [(zltSeq s, c.a)] }) s1

/-- The parent's side of an interval. -/
def parentInterval (s : State) : State :=
  let z := s.zilt
  let l := intervalChildren s
  let b := parentBudget s l
  let cfg := areg s 0x904C
  let x := shiftStep (bits cfg 31 27) (bits (areg s 0x9050) 15 0) (max 1 (bits cfg 26 13)) b l
  let opened := (x.filter (fun y => y.1.laggard && !(l.any (fun c => c.id == y.1.id && c.laggard)))).map (fun y => y.1.id)
  let lag := l.any Child.laggard
  let l1 := childLedger b (x.map (fun y => (y.1, y.2.1)))
  let count := sumN (l1.map (fun c => c.laggards + c.laggard.toNat))
  let s1 : State := { s with zilt := { z with
    children := l1, b := b, lagCount := count, laggardOpens := wrapAdd 8 z.laggardOpens opened.length } }
  let s2 := opened.foldl (fun (y : State) (i : Nat) => raise 9 3 (report 0xB002 (i : Int) y)) s1
  let s3 := if z.level = 0 ∧ z.lagCount < count ∧ s.pkg.role = 2 then
      alert 0x42 (leBytes 2 (opened.headD z.id) ++ leBytes 2 count) s2
    else s2
  l1.foldl (fun y c => allocOut (lag && x.any (fun q => q.1.id == c.id && decide (q.2.2 < 0))) c y) s3

/-- The child's side of an interval: JOIN until the first ALLOC, then REPORT, then LEAVE once the floor is in force.
Log 77 DESIGN CHOICE. -/
def childInterval (s : State) : State :=
  let z := s.zilt
  if z.level = 0 then s
  else
    let kids := isParent z
    let sum := fun (f : Child → Nat) => sumN (z.children.map f)
    let fl := subtreeFloor s
    let cl := if kids then sum Child.ceil else ceilW s
    let held := if kids then sum Child.h else heldW s
    let ap := max (fleetIn s) held
    let pkgs := if kids then sum Child.pkgs else 1
    if z.leaving = 1 ∧ ap = fl then
      let s1 := zltSend 4 z.parent (leBytes 4 fl) s
      { s1 with zilt := { s1.zilt with leaving := 2 } }
    else if z.f.isNone then zltSend 3 z.parent (leBytes 4 fl ++ leBytes 4 cl ++ leBytes 2 pkgs ++ [z.level]) s
    else
      zltSend 1 z.parent (leBytes 4 (if kids then sum Child.power else powerW s) ++
        leBytes 4 (if kids then sum Child.demand else demandW s) ++ leBytes 4 fl ++ leBytes 4 cl ++ leBytes 4 ap ++
        leBytes 2 (if kids then minN 65535 (z.children.map Child.slack) else slackW s) ++ leBytes 2 pkgs ++
        leBytes 2 z.lagCount ++ leBytes 4 z.lastAlloc) s

/-- ZILTER_INTERVAL (R295): once in each interval of 100 ticks, at the leaders of a placed package; in holdover it is told as
holdover-timed (R32). -/
def execZilterInterval (s0 : State) : Host.Outcome State Fault Refusal :=
  let s := fresh s0
  if !running s || !s.zilt.placed || s.pkg.role == 0 || s.zilt.interval == some (zltSeq s) then done s
  else
    let s1 := if isParent s.zilt then parentInterval s else s
    let s2 := childInterval s1
    let s3 : State := { s2 with zilt := { s2.zilt with interval := some (zltSeq s), energy := 0 } }
    done (if s.time.holdover then event 0xE009 4 s3 else s3)

end Sys2Proof.Machine
end

