-- ==== Sys2Proof/Machine/Readout.lean ====
section
/-! DEFINITION. What every register of the map reads (chapter 16 and the field tables of the owning chapters), the pairs whose
low word latches the high one (R39, R430), identity words (R432, R433) and the attention tree (R434). -/

namespace Sys2Proof.Machine

open Sys2Proof

/-- A named choice from a Bool. -/
def only (c : Bool) (n : Nat) : Nat := if c then n else 0

/-! ### Identity and attention -/

/-- Table 16-19: ID_CAP0 to ID_CAP3. -/
def idCap (s : State) (i : Nat) : Nat :=
  byBuild s (at' 0 [0x80040800, 0x80080400, 0x8004F000, 0x80040800] i)
    (at' 0 [0x20040400, 0x80080400, 0x4002F000, 0x40040800] i)
    (at' 0 [0x08040100, 0x80080100, 0x10010000, 0x08010200] i)

/-- R434: group `g` has an unmasked cause. -/
def attnGroup (s : State) (g : Nat) : Bool := tget 0 g s.regs.cause &&& wreg s (0x0084 + 8 * g) != 0
/-- R434: HOLD. -/
def attnHold (s : State) : Bool :=
  s.fault.safe || s.start.state == 14 || s.start.state == 15 || (s.start.state == 5 && s.start.keyWaitLong)
/-- ATTN_SUMMARY. -/
def attnSummary (s : State) : Nat :=
  numOf (bit 31 (attnHold s) :: (List.range 15).map (fun g => bit g (attnGroup s g)))
/-- R434: ATTN_N is asserted. -/
def attnAsserted (s : State) : Bool :=
  attnHold s || (s.start.live && (attnSummary s &&& wreg s 0x0044) % 2 ^ 15 != 0)

/-- Identity, capability and attention registers (Table 16-3). -/
def readId (s : State) (off : Nat) : Nat :=
  match off with
  | 0x0000 => numOf [(31, 24, 3), (23, 16, 2), (15, 0, s.par.patch)]
  | 0x0004 => 0x4B5A5452
  | 0x0008 => numOf [bit 4 (s.par.i3cStatic != 0), (3, 3, s.par.secRelease), (2, 2, s.par.keySource), (1, 0, s.par.build)]
  | 0x0020 => idCap s 0
  | 0x0024 => idCap s 1
  | 0x0028 => idCap s 2
  | 0x002C => idCap s 3
  | 0x0040 => attnSummary s
  | 0x0048 => numOf [(31, 16, s.regs.privDenied), (15, 8, s.regs.badAddr), (7, 0, s.regs.lockWrites)]
  | _ => if 0x0080 ≤ off ∧ off % 8 = 0 then tget 0 ((off - 0x0080) / 8) s.regs.cause else wreg s off

/-! ### Time (Tables 1-6 to 1-9) -/

/-- R28, R207: the effective holdover percentage. -/
def holdoverEff (s : State) : Nat :=
  min s.pb.cap.holdPct (min (s.cap.mHold.getD 100) (bits (areg s 0x1004) 23 16))

/-- Time registers; ORD_REJECT reads 0 at user privilege (R426). -/
def readTime (s : State) (priv off : Nat) : Nat :=
  match off with
  | 0x1000 => numOf [bit 11 s.ord.timeout, bit 10 s.ord.lockLen.isSome, bit 9 s.ord.stalled, bit 8 s.time.countSet,
      bit 7 s.time.holdover, bit 6 s.time.locked, (2, 0, s.time.pSel)]
  | 0x1004 => numOf [(30, 24, holdoverEff s), (23, 0, wreg s off)]
  | 0x1008 => numOf [(31, 16, s.time.missed), (15, 8, s.time.epochMis), (7, 0, only (priv != 0) s.time.ordReject)]
  | 0x101C => s.ord.lockLen.getD 0
  | 0x1020 => if s.ord.lockLen.isSome then s.core.app.law.pos.getD allOnes else allOnes
  | _ => 0

/-! ### Tickets (Tables 2-7 to 3-11) -/

/-- R72, R207: the effective die slew. -/
def slewEff (s : State) : Nat := min s.pb.cap.dieSlew (min (s.cap.mSlew.getD 96) (bits (areg s 0x2004) 6 0))

def readTicket (s : State) (off : Nat) : Nat :=
  let t := s.tk
  match off with
  | 0x2000 => numOf [(28, 16, s.pb.agents.length), (15, 9, (boothKeys s).length), (2, 0, s.pb.cap.qSel)]
  | 0x2004 => numOf [(20, 16, bits (wreg s off) 20 16), (14, 8, slewEff s), (6, 0, bits (wreg s off) 6 0)]
  | 0x200C => numOf [bit 30 t.latched, (19, 0, wreg s off)]
  | 0x2010 => t.lat.sent
  | 0x2014 => t.lat.recv
  | 0x2018 => t.lat.spent
  | 0x201C => t.lat.ret
  | 0x2028 => t.lat.state.toNat
  | 0x2030 => tget 0 (2 * bits (wreg s 0x202C) 7 0 + bits (wreg s 0x202C) 8 8) t.cost
  | 0x2034 => numOf [bit 1 t.swap]
  | 0x2038 => numOf [(31, 24, t.lateRefill), (23, 16, t.retClip), (15, 8, t.retConflict), (7, 0, t.reqReplace)]
  | 0x203C => t.ignitions
  | 0x2084 => numOf [(31, 24, t.forcedExpiry), (23, 16, t.oversize), (15, 8, t.ceilRefused), (7, 0, t.reclaims)]
  | 0x2088 => numOf [(28, 16, (t.agents.filter (fun a => a.2.byp)).length), (15, 8, t.bypassEntries),
      (6, 0, (t.booths.filter (fun b => b.2.failed)).length)]
  | 0x208C => t.lat.fault.toNat
  | 0x2090 => t.lat.bypGranted
  | 0x2094 => numOf [bit 30 t.cmdDone, (29, 27, t.cmdStatus), (3, 0, wreg s off)]
  | 0x209C => t.handAdded
  | 0x20A0 => t.handDiscard
  | _ => wreg s off

/-! ### Control core (Tables 4-12 to 4-17) -/

def readCore (s : State) (off : Nat) : Nat :=
  let c := s.core
  let slot := bits (wreg s 0x300C) 5 0
  match off with
  | 0x3000 => numOf [(22, 16, s.pb.slots.length), bit 7 c.frozen, bit 6 (running s && c.running && !c.frozen), bit 5 (holdOut s),
      bit 4 c.overrunLast, bit 3 c.bclkRange]
  | 0x3004 => byBuild s 0x00204007 0x00104007 0x00004003
  | 0x3008 => c.app.flags
  | 0x3010 => if (tlook slot s.pb.slots).isSome then
      numOf [(31, 18, worstCase s.par.build (tget [] slot s.pb.code)), (17, 13, tget 0 slot c.slotFlags),
        (7, 0, tget 0 slot c.slotOverruns)] else 0
  | 0x3014 => numOf [(31, 16, c.overruns), (15, 0, c.eccCorr)]
  | 0x3018 => c.app.satStages
  | 0x301C => numOf [bit 31 c.freezeReq, (15, 0, wreg s off)]
  | 0x3020 => numOf [bit 0 s.pb.srEn]
  | 0x3024 => if s.pb.valid then s.pb.seed else 1
  | 0x3028 => c.srState
  | _ => wreg s off

/-! ### Estimation (Tables 5-7 to 5-16) -/

def readEst (s : State) (off : Nat) : Nat :=
  let o := s.core.app.est
  let z := bits (wreg s 0x4024) 3 0
  let i := bits (wreg s 0x4088) 8 0
  let p := tget sitePlaus0 i o.sites
  let zone := (tlook z s.pb.model.zones).isSome
  let site := (tlook i s.pb.therm.sites).isSome
  match off with
  | 0x4000 => numOf [(31, 16, o.agreeCount), (15, 5, o.disCount), bit 4 (s.pb.valid && s.pb.model.measured == []),
      bit 3 (netRuns s.par.build s.pb.model), bit 2 o.frozen, bit 1 o.unverified, bit 0 o.untrusted]
  | 0x4014 => numOf [bit 30 s.core.estDone, (29, 28, s.core.estStatus), (3, 0, wreg s off)]
  | 0x4018 => o.pEst
  | 0x401C => o.pF
  | 0x4020 => o.pCtl
  | 0x4028 => only zone (tget 0 z o.zoneP)
  | 0x402C => only zone (tget 0 z o.zoneLeak)
  | 0x4030 => only zone (numOf [(31, 16, twos 16 (tget 0 z o.zoneT)), (15, 0, tget 0 z o.zoneV)])
  | 0x4050 => numOf [(31, 16, s.tel.missing), (15, 8, s.tk.ctxOverflow), (7, 0, s.tel.lateAct)]
  | 0x4054 => numOf [(31, 24, o.attrClamp), (23, 16, o.phiReinit)]
  | 0x4080 => numOf [(31, 16, o.updates), (15, 8, o.raises), bit 1 o.warmup, bit 0 o.coldMaj]
  | 0x408C => only site (numOf [(31, 16, twos 16 p.residual), bit 15 p.broken, bit 14 p.causeCold, (13, 8, p.cold),
      (7, 0, p.hot)])
  | 0x4090 => only site (twos 16 (p.pred.getD 0))
  | _ => wreg s off

/-! ### Control laws (Tables 6-8 to 6-15) -/

/-- A Q16 value in the unit of its loop, converted to a signed word (R11). -/
def loopWord (x : Int) : Nat := twos 32 (clampI (-(2 ^ 31)) (2 ^ 31 - 1) (roundEven x 65536))

def readCtl (s : State) (off : Nat) : Nat :=
  let o := s.core.app.law
  let i := bits (wreg s 0x500C) 9 0
  let l := tget loopSt0 i o.loops
  let c := tget loopCfg0 i s.pb.law.loops
  let here := (tlook i s.pb.law.loops).isSome
  let m := s.core.mem.law
  let e := bits (wreg s 0x5088) 7 0
  let op := bits (wreg s 0x5094) 5 0
  match off with
  | 0x5000 => numOf [(31, 24, s.law.sceneLat), (23, 18, o.region.getD 63), (17, 12, s.law.opF), bit 11 s.law.opStep.isSome,
      bit 10 o.ffActive, bit 9 o.sptReady, bit 8 o.ttActive, bit 7 o.cueActive, bit 6 o.ssAny, bit 5 o.noMatch]
  | 0x5004 => numOf [bit 1 s.law.duClip, bit 0 s.law.uSat]
  | 0x5008 => numOf [(31, 16, o.noRegion), (7, 0, wreg s off)]
  | 0x5010 => only here (numOf [bit 31 l.engaged, bit 30 l.soft, bit 29 l.uSat, bit 28 l.duClip, (27, 24, c.kind),
      (23, 18, l.tset)])
  | 0x5014 => only here (if l.engaged || l.used then loopU c l else 0)
  | 0x5018 => only here (loopWord l.r)
  | 0x501C => only here (loopWord l.y)
  | 0x5048 => numOf [(31, 16, o.sptSteps), (15, 0, o.vppMax)]
  | 0x504C => o.peak
  | 0x5050 => o.sptSkip
  | 0x5084 => tget m.fill (bits (wreg s 0x5080) 15 0) m.spt
  | 0x508C => ttWord s.pb.law m e 0
  | 0x5090 => ttWord s.pb.law m e 1
  | 0x5098 => numOf [(31, 16, opVolt s.pb.law op), (11, 0, opFreq s.pb.law op)]
  | 0x50C4 => tget 0 (2 * bits (wreg s 0x50C0) 7 0 + bits (wreg s 0x50C0) 8 8) s.law.scene
  | 0x50C8 => numOf [(31, 16, s.law.sceneInvalid), bit 0 s.law.sceneCmdSt]
  | 0x5104 => numOf [(31, 24, o.cueClamp), (23, 16, o.cueReplace), (15, 8, o.cueDrop), (7, 0, o.cueBad)]
  | 0x5108 => numOf [(31, 24, o.cueExpire), (23, 16, o.hintIgnored), (15, 8, o.cueCtxLimit)]
  | _ => wreg s off

/-! ### Caps (Tables 7-4 to 7-10) -/

/-- LIM_DATA: the copy that LIM_SEL selects; source 0 is the effective limit, and source 7 has no copy. -/
def limData (s : State) : Nat :=
  let w := wreg s 0x6004
  let n := bits w 6 4
  let l := if w.testBit 8 then (if n = 1 then [] else pkgCopies s.pb.cap s.core.im s.core.im.cap.val n)
    else dieCopies s.pb.cap s.core.im n
  if n = 0 ∨ n = 7 ∨ s.pb.valid = false then allOnes
  else if bits w 2 0 = 0 then (effLimit s.core.im l).1
  else ((l.find? (fun p => p.1 = bits w 2 0)).map Prod.snd).getD allOnes

/-- WIN_Y. -/
def winY (s : State) : Nat :=
  let w := wreg s 0x6004
  let n := bits w 6 4
  let o := s.core.app.cap
  if n = 0 ∨ n = 7 then 0
  else if w.testBit 8 then (if n = 1 then 0 else tget 0 n o.yPkg)
  else if n = 1 then min 0xFFFF (sumN (o.w1.map Prod.snd)) else tget 0 n o.y

/-- The ramp that RAMP_INFO and RAMP_START name: the last one commanded, else the one in force. -/
def rampShown (x : CapSt) : Option Ramp := x.next.getLast?.or x.ramp

/-- RAMP_NOW as a command and a register give it. Log 59 DEDUCED. -/
def rampNow (s : State) : Nat := if s.cap.ramp.isSome then s.cap.val.getD allOnes else allOnes

def readCap (s : State) (off : Nat) : Nat :=
  let o := s.core.app.cap
  let d := bits (wreg s 0x6024) 1 0
  let r := rampShown s.cap
  match off with
  | 0x6000 => numOf [(31, 28, o.bindKind), (27, 25, o.bindSrc), (24, 23, o.mode), (22, 21, o.pref), (20, 20, s.cap.auth),
      bit 19 o.ffHeld, bit 18 o.matchShort, bit 17 o.susp, bit 16 o.pacing, bit 15 o.unatt, bit 14 o.esc,
      (13, 12, rampState s.cap s.time.count), (11, 6, o.opTarget), (5, 3, modeAllow s.pb.cap s.core.im)]
  | 0x6008 => limData s
  | 0x600C => winY s
  | 0x6014 => numOf [(31, 1, wreg s off / 2), bit 0 s.cap.hostRefused]
  | 0x6020 => s.pb.cap.domOrder
  | 0x6028 => tget 0 d o.t
  | 0x602C => tget 0 d o.lkfx
  | 0x6030 => tget 0 d s.pb.cap.floor
  | 0x6034 => only s.pb.valid (tget s.pb.cap.dieCeil d s.pb.cap.ceil)
  | 0x6040 => ((r.map Ramp.id).getD 0) % 65536
  | 0x6044 => (r.map Ramp.c1).getD 0
  | 0x6050 => (r.map Ramp.d).getD 0
  | 0x6054 => rampNow s
  | 0x6058 => numOf [(31, 24, o.cuEntries), (23, 16, o.supplyEscs), (15, 8, o.fbCount), (7, 0, o.shorts)]
  | 0x605C => numOf [(31, 16, o.bindChanges), (15, 8, s.cap.refused)]
  | _ => wreg s off

/-! ### Droop and margin (Tables 8-5 to 8-8) -/

def readDroop (s : State) (off : Nat) : Nat :=
  let m := s.margin
  let d := bits (wreg s 0x7010) 10 0
  let dc := tget detCfg0 d s.pb.dets
  let ds := tget detSt0 d m.dets
  let det := (tlook d s.pb.dets).isSome
  let r := bits (wreg s 0x701C) 5 0
  let rs := tget region0 r m.regions
  let a := bits (wreg s 0x7048) 7 0
  let am := tget ageMon0 a m.mons
  match off with
  | 0x7008 => numOf [(31, 24, bits (wreg s off) 31 24), (23, 16, m.base)]
  | 0x700C => numOf [(31, 16, twos 16 m.guard), (15, 8, twos 8 m.trim), (7, 0, m.vdr)]
  | 0x7014 => only det (numOf [bit 31 true, bit 30 ds.stuck, (26, 21, dc.region), (20, 16, dc.rail), (15, 0, ds.trips)])
  | 0x7018 => only det (numOf [(20, 14, dc.d3), (13, 7, dc.d2), (6, 0, dc.d1)])
  | 0x7020 => numOf [(31, 30, regionLevel rs), bit 29 rs.forced, bit 28 (droopHold s r), (15, 0, rs.events)]
  | 0x7024 => numOf [(31, 16, m.winEvents), (15, 8, m.holdLifts), (7, 0, m.drRaises)]
  | 0x7044 => numOf [(31, 24, m.lastS), (23, 16, m.skipped), (15, 8, m.downSteps), (7, 0, m.upSteps)]
  | 0x704C => if !s.pb.valid || (tlook a s.pb.mons).isSome then
      numOf [bit 31 am.exclNext, bit 30 am.failed, (7, 4, am.minCode), (3, 0, am.lastCode)] else 0
  | 0x7060 => numOf [bit 30 m.done, (29, 28, m.status)]
  | 0x7064 => numOf [(31, 30, m.source), (29, 0, m.stores)]
  | _ => wreg s off

/-! ### Temperature and the Curtain (Tables 9-4 to 9-9) -/

/-- Log 115 DESIGN CHOICE. -/
def readTherm (s : State) (off : Nat) : Nat :=
  let t := s.therm
  let o := s.core.app.therm
  let e := thrNow s
  let i := bits (wreg s 0x4088) 8 0
  let x := tget siteSt0 i t.sites
  let here := (tlook i s.pb.therm.sites).isSome
  let c := s.curt
  let p := bits (wreg s 0x808C) 2 0
  let pair := fun (hi lo : Int) => numOf [(31, 16, twos 16 hi), (15, 0, twos 16 lo)]
  match off with
  | 0x8000 => numOf [(31, 30, o.state), (29, 26, thrLevel s), (25, 22, t.ackLvl), bit 21 t.enforcing,
      bit 20 (t.enforcing && t.enfHost), bit 19 t.grace.isSome, bit 18 o.brokenHold, bit 17 t.coolFault, bit 16 t.leakFault,
      (9, 0, (s.pb.therm.sites.filter (fun q => (tget siteSt0 q.1 t.sites).cause != 0)).length)]
  | 0x8004 => numOf [(31, 16, twos 16 o.tTh), (8, 0, o.tSite)]
  | 0x8008 => pair e.warn e.warnRel
  | 0x800C => pair e.thr e.thrRel
  | 0x8010 => twos 16 (thmTargetOf e (wreg s off))
  | 0x801C => numOf [(7, 4, t.mgmtLvl), (3, 0, wreg s off)]
  | 0x8020 => numOf [bit 31 s.pb.therm.subEn, (7, 0, wreg s off)]
  | 0x8024 => only here (numOf [(31, 16, twos 16 (tget 0 i o.used)), bit 15 true, bit 14 (x.cause != 0),
      bit 13 (o.subst.contains i), (12, 8, x.cause)])
  | 0x8028 => only here (twos 16 (x.reading.getD 0))
  | 0x802C => numOf [(31, 16, t.parityDiscard), (15, 8, t.enfEntries), (7, 0, t.forceEnf)]
  | 0x8040 => numOf [(31, 14, wreg s off / 2 ^ 14), (0, 0, s.pb.cap.leakAction)]
  | 0x8044 => numOf [bit 31 t.hbOk, bit 30 t.leakP, bit 29 t.leakN, (15, 8, t.hbLosses), (7, 0, t.leakEvents)]
  | 0x8080 => numOf [bit 31 c.tripped, bit 30 c.lockout, bit 29 c.selftestOk, (28, 26, c.lockCause), (25, 23, c.tripPair),
      (22, 20, tripsHour c), (15, 0, c.trips)]
  | 0x8084 => pair (curtThr s) (curtRestart s)
  | 0x8088 => numOf [(31, 16, curtCoolMs s), (15, 0, twos 16 s.par.curtWired)]
  | 0x8090 => pair (tget 0 (2 * p) c.reading) (tget 0 (2 * p + 1) c.reading)
  | 0x8094 => numOf [(9, 2, tget 0 p c.disagree), bit 1 (c.failed.contains (2 * p + 1)), bit 0 (c.failed.contains (2 * p))]
  | _ => wreg s off

/-! ### Package, fleet and management (Tables 10-9 to 10-11) -/

def readPkg (s : State) (off : Nat) : Nat :=
  let p := s.pkg
  let d := bits (wreg s 0x9010) 4 0
  let sm := p.role == 2
  match off with
  | 0x9000 => numOf [(31, 30, p.role), (29, 22, p.term), (21, 17, p.smId), (16, 12, p.usId), (11, 7, ownId s),
      (6, 5, p.silence), bit 4 p.wait, bit 3 (sm && s.core.app.ledger.esc)]
  | 0x9004 => numOf ((List.range 24).map (fun j => bit j (dieAlive s (dieRec s j))))
  | 0x9008 => p.alloc.getD 0
  | 0x900C => match fleetW s with
    | some f => min (1000 * f) allOnes
    | none => allOnes
  | 0x9014 => only sm (tget 0 d p.led.h)
  | 0x9018 => only sm (tget 0 d p.led.a)
  | 0x901C => numOf [(31, 16, wreg s off / 65536), (15, 0, s.pb.cap.pkgUnmanaged / 1000)]
  | 0x9020 => numOf [(31, 24, p.dupDiscard), (23, 16, p.late), (15, 8, p.bad), (7, 0, p.takeovers)]
  | 0x9024 => numOf [(7, 0, p.donorTimeouts)]
  | _ => wreg s off

/-- Children by their place in the parent's list, the parent's own entry left out. -/
def zltChildren (s : State) : List Child := s.zilt.children.filter (fun c => c.id != s.zilt.id)

/-- Log 115 DESIGN CHOICE. -/
def readZilt (s : State) (off : Nat) : Nat :=
  let z := s.zilt
  let c := (zltChildren s).getD (bits (wreg s 0x9054) 6 0) child0
  match off with
  | 0x9040 => numOf [(31, 30, z.level), bit 29 z.placed, (28, 27, z.silence), bit 26 z.lagHold,
      (21, 14, (zltChildren s).length), (13, 0, z.id)]
  | 0x9044 => z.parent % 2 ^ 14
  | 0x9048 => z.b
  | 0x9058 => numOf [bit 31 c.laggard, bit 30 c.silent, bit 29 c.left, (13, 0, c.id)]
  | 0x905C => c.h
  | 0x9060 => numOf [(31, 16, c.slack)]
  | 0x9064 => numOf [(31, 24, z.laggardOpens), (23, 16, z.bad), (15, 8, z.departures)]
  | _ => wreg s off

def readMgmt (s : State) (off : Nat) : Nat :=
  let m := s.mgmt
  match off with
  | 0x9080 => numOf [(31, 30, m.state), (29, 26, m.held.length)]
  | 0x9084 => m.next.getD 0
  | 0x9088 => m.gapFirst
  | 0x908C => m.gapLen
  | 0x9094 => numOf [(31, 16, m.dupCmds), (15, 8, m.gaps)]
  | _ => wreg s off

/-! ### Start and loader (Tables 11-12 to 11-15) -/

def readStart (s : State) (off : Nat) : Nat :=
  let t := s.start
  match off with
  | 0xA000 => numOf [(31, 28, t.state), (27, 26, t.causeCode), bit 25 t.warm, bit 24 t.fromHost, (23, 16, t.pbMinor),
      (15, 0, t.starts)]
  | 0xA004 => numOf [(31, 24, t.reason), (23, 16, t.sect), (15, 0, t.detail)]
  | 0xA008 => t.offset
  | 0xA00C => t.imageVer
  | 0xA010 => numOf [(31, 27, t.density), (26, 25, t.mode), bit 24 t.addr4, (23, 16, t.sfdpRev)]
  | 0xA014 => numOf [bit 30 t.ldDone, (29, 26, t.ldStatus), (3, 0, wreg s off)]
  | 0xA01C => 0
  | 0xA070 => t.keyMinVer
  | 0xA074 => numOf [bit 30 t.keyLocked, (29, 29, s.par.keySource), (28, 28, s.par.secRelease)]
  | _ => if 0xA040 ≤ off then
      at' 0 (if s.par.keySource = 0 then s.par.keyDigest else t.keyDigest) ((off - 0xA040) / 4) else wreg s off

/-! ### Faults (Tables 12-8 to 12-11) -/

def readFault (s : State) (off : Nat) : Nat :=
  let f := s.fault
  match off with
  | 0xB000 => (faultStatus f).toNat
  | 0xB004 => numOf [(31, 16, f.code), (15, 0, f.cause)]
  | 0xB008 => numOf [(31, 16, f.lastCode)]
  | 0xB014 => f.firstOpmin
  | 0xB018 => f.prevCode.toNat
  | 0xB01C => f.prevStatus.toNat
  | 0xB028 => numOf [(29, 27, f.ctrlSt)]
  | 0xB02C => numOf [(31, 16, f.nN), (15, 0, f.nC)]
  | 0xB030 => numOf [(31, 16, f.nD), (15, 8, f.nS), (7, 0, f.nInj)]
  | 0xB034 => numOf [(7, 0, f.nL)]
  | 0xB040 => numOf [(31, 31, wreg s off / 2 ^ 31), bit 29 f.hostIdle, bit 28 f.curtInjSeen]
  | 0xB048 => numOf [bit 30 f.inj.isSome, (29, 27, f.injStatus), (7, 0, (f.inj.map Inject.left).getD 0)]
  | _ => wreg s off

/-! ### The Prompt Book (Table 13-7) -/

def readBook (s : State) (off : Nat) : Nat :=
  let b := s.book
  match off with
  | 0xC000 => numOf [(31, 19, bookUsed b), (18, 6, bookCap s), (5, 4, b.stored), bit 3 b.storing.isSome]
  | 0xC004 => sevWord b.lost
  | 0xC008 => sevWord b.evict
  | 0xC00C => numOf [(31, 31, wreg s off / 2 ^ 31), bit 30 b.ready, (11, 0, wreg s off)]
  | 0xC010 => pbFindWord s
  | 0xC014 => numOf [bit 29 b.done, (28, 26, b.status)]
  | 0xC018 => b.opmin
  | 0xC01C => b.pcc
  | _ => if 0xC080 ≤ off then at' 0 (bookWindow s) ((off - 0xC080) / 4) else wreg s off

/-! ### Observation (Tables 14-6 to 14-9) -/

/-- The buffer that TRC_SEL selects; none beyond those of the build (R429). -/
def trcSel (s : State) : Option Nat := if bits (wreg s 0xD100) 1 0 < trcBufs s then some (bits (wreg s 0xD100) 1 0) else none

/-- R375: an entry reads through TRC_DATA only while the buffer is idle or done. Log 115 DESIGN CHOICE. -/
def trcRead (b : TraceBuf) (i : Nat) : Nat := if b.state = 0 ∨ b.state = 3 then tget 0 i b.mem else 0

/-- The word of a snapshot record that SNAP_SEL selects. -/
def snapWord (s : State) : Nat :=
  let w := wreg s 0xD18C
  if s.obs.snap.state = 3 ∧ bits w 31 30 ≠ 3 then
    tget 0 (bits w 31 30 * 2 ^ 17 + bits w 29 18 * 32 + bits w 4 0) s.obs.snap.store else 0

def readTrace (s : State) (off : Nat) : Nat :=
  match trcSel s with
  | none => 0
  | some i =>
    let b := tget traceBuf0 i s.obs.bufs
    match off with
    | 0xD104 => numOf [(29, 28, b.state), bit 27 b.freezeOn, (23, 20, b.link), (13, 0, b.post)]
    | 0xD10C => (tget 0 (bits (wreg s 0xD108) 3 0) b.srcs).toNat
    | 0xD110 => b.trig.toNat
    | 0xD114 => b.trig2.toNat
    | 0xD118 => b.thresh.toNat
    | 0xD11C => numOf [(31, 18, b.wrPtr), (17, 4, b.trigIdx)]
    | 0xD120 => numOf [(31, 16, b.lost), (15, 8, b.trigExtra)]
    | _ => wreg s off

def readObs (s : State) (off : Nat) : Nat :=
  let x := s.obs.snap
  match off with
  | 0xD060 => numOf [bit 30 s.obs.latched, bit 29 s.obs.final]
  | 0xD180 => wreg s off
  | 0xD184 => wreg s off
  | 0xD188 => numOf [(29, 28, x.state), (27, 27, bits (wreg s off) 27 27), bit 26 x.timed, (25, 23, x.status)]
  | 0xD190 => snapWord s
  | 0xD194 => numOf [(31, 16, x.snaps)]
  | _ => if 0xD104 ≤ off ∧ off ≤ 0xD124 then readTrace s off else wreg s off

/-! ### Ports (Tables 15-7 and 15-16) -/

def readPort (s : State) (off : Nat) : Nat :=
  let p := s.port
  match off with
  | 0xE020 => 0
  | 0xE024 => numOf [(31, 16, p.echoSeq), (15, 8, p.echoCode), bit 4 p.posted.isSome, bit 3 p.overrun, (2, 0, p.result)]
  | 0xE080 => numOf [bit 31 s.start.bclkWas, bit 30 s.start.aoclkBad, (26, 16, p.bclkPerTick), (7, 0, p.aoPerTick)]
  | 0xE084 => numOf [(31, 24, p.eid), (23, 17, p.da.getD 0), bit 16 p.da.isSome]
  | 0xE088 => s.par.ianaPen
  | 0xE08C => numOf [(31, 24, p.friMiss), (23, 16, p.friCrc), (15, 8, p.avsErr), (7, 0, p.hbBad)]
  | 0xE090 => numOf [(31, 24, s.zilt.txDrop), (23, 16, p.mctpDrop), (15, 0, p.friCoalesce)]
  | _ => if off ≤ 0xE01C then tget 0 ((off - 0xE000) / 4) p.args else tget 0 ((off - 0xE040) / 4) p.res

/-! ### The whole map -/

/-- R427: the context whose counters a Ctx register shows: that of RP_CTX at user privilege, the selector's otherwise. -/
def ctxOf (s : State) (priv ctx sel : Nat) : Nat := if priv = 0 then ctx % 4096 else bits (wreg s sel) 11 0

/-- The values whose low word latches the high one, by the offset of the low word. -/
def wideValue (s : State) (priv ctx lo : Nat) : Option Nat :=
  let l := s.tk.lat
  let r := bits (wreg s 0xD018) 3 0
  let oc := ctxOf s priv ctx 0xD040
  match lo with
  | 0x000C => some (if s.start.partIdLatched then s.start.partId else 0)
  | 0x100C => some s.time.count
  | 0x1014 => some s.ord.lastEdge
  | 0x2020 => some l.entry
  | 0x4034 => some (s.tel.eMeas / 65536)
  | 0x403C => some (s.core.app.est.eAttr / 65536)
  | 0x4048 => some (tget 0 (ctxOf s priv ctx 0x4044) s.core.app.est.ctxE / 65536)
  | 0x6048 => some (((rampShown s.cap).map Ramp.t0).getD 0)
  | 0xB00C => some s.fault.firstTick
  | 0xB020 => some s.fault.prevTick
  | 0xD000 => some l.eng.busy
  | 0xD008 => some l.eng.idle
  | 0xD010 => some l.eng.overlap
  | 0xD01C => some (if r = 0 ∨ r = 14 then 0 else tget 0 r l.eng.stall)
  | 0xD044 => some (tget 0 oc s.obs.ops)
  | 0xD04C => some (tget 0 oc s.obs.busy)
  | 0xD054 => some (tget 0 oc s.obs.stall)
  | 0xD064 => some s.obs.capOrd
  | 0xD06C => some s.obs.capCyc
  | 0xD074 => some s.obs.capStall
  | 0xD07C => some s.obs.capTkt
  | 0xD128 => some (match trcSel s with
      | some i => trcRead (tget traceBuf0 i s.obs.bufs) (bits (wreg s 0xD124) 13 0)
      | none => 0)
  | _ => none

/-- The offset is that of a _HI word. -/
def isHigh (s : State) (off : Nat) : Bool := decide (4 ≤ off) && (wideValue s 0 0 (off - 4)).isSome

/-- What a register that is no low or high word of a pair reads. -/
def plainValue (s : State) (priv off : Nat) : Nat :=
  if off < 0x1000 then readId s off
  else if off < 0x2000 then readTime s priv off
  else if off < 0x3000 then readTicket s off
  else if off < 0x4000 then readCore s off
  else if off < 0x5000 then readEst s off
  else if off < 0x6000 then readCtl s off
  else if off < 0x7000 then readCap s off
  else if off < 0x8000 then readDroop s off
  else if off < 0x9000 then readTherm s off
  else if off < 0x9040 then readPkg s off
  else if off < 0x9080 then (if 1 ≤ s.pkg.role then readZilt s off else 0)
  else if off < 0xA000 then readMgmt s off
  else if off < 0xB000 then readStart s off
  else if off < 0xC000 then readFault s off
  else if off < 0xD000 then readBook s off
  else if off < 0xE000 then readObs s off
  else readPort s off

/-- R430: what a read of an offset of the map returns. While the state is undefined (R446), so is every field.
Log 9 DESIGN CHOICE. -/
def regValue (s : State) (priv ctx off : Nat) : Word :=
  if s.start.undef then Config.freeWord s.free
  else if isHigh s off then BitVec.ofNat 32 (tget 0 off s.time.hiLatch)
  else match wideValue s priv ctx off with
    | some v => BitVec.ofNat 32 (v % 2 ^ 32)
    | none => BitVec.ofNat 32 (plainValue s priv off)

/-- R39, R430: a read of a low word latches the high word. -/
def latchHigh (priv ctx off : Nat) (s : State) : State :=
  match wideValue s priv ctx off with
  | some v => { s with time := { s.time with hiLatch := tset 0 (off + 4) (v / 2 ^ 32 % 2 ^ 32) s.time.hiLatch } }
  | none => s

/-- The read part of an access that the checks of R400 have let. -/
def regFetch (priv ctx off : Nat) (s : State) : State :=
  rpAnswer 0 (regValue s priv ctx off) { latchHigh priv ctx off s with free := s.free + 1 }

/-- LO_REGISTER_READ (R39): a read access, of any offset. -/
def execLoRegisterRead (priv ctx offset : Nat) (s0 : State) : Host.Outcome State Fault Refusal :=
  let s := fresh s0
  if !rpAlive s then done s
  else
    let r := rpResp (lockout s) false priv offset
    done (if r = 0 then regFetch priv ctx offset s else rpAnswer r 0 s)

end Sys2Proof.Machine
end

