-- ==== Sys2Proof/Machine/Observe.lean ====
section
/-! DEFINITION. Observation: the capture of the operation counters (R370), trace control (R374, R375), what a trace node holds
(R371), schedules and cuts of snapshots (R377 to R383). -/

namespace Sys2Proof.Machine

open Sys2Proof

/-! ### Operation counters -/

/-- R370: a capture: the running values, or in the cycle of a reset the final values of the operation before. -/
def opCapture (o : ObsSt) : ObsSt :=
  if o.opReset then
    { o with latched := true, final := true, capOrd := o.lastOrd, capCyc := o.lastCyc, capStall := o.lastStall,
             capTkt := o.lastTkt }
  else
    { o with latched := true, final := false, capOrd := o.opOrd, capCyc := o.opCyc, capStall := o.opStall, capTkt := o.opTkt }

/-- A write of OBS_OP_CTRL. -/
def writeOpCtrl (w : Nat) (s : State) : State := if w.testBit 31 then { s with obs := opCapture s.obs } else s

/-- OBS_OP_LATCH (R370). -/
def execObsOpLatch (priv : Nat) (s : State) : Host.Outcome State Fault Refusal :=
  done (rpWrite priv 0xD060 (writeOpCtrl (2 ^ 31)) (fresh s))

/-! ### Trace control -/

/-- The selected buffer changed; a buffer beyond those of the build ignores writes (R429). -/
def trcMod (f : TraceBuf → TraceBuf) (s : State) : State :=
  match trcSel s with
  | none => s
  | some i => { s with obs := { s.obs with bufs := tmod traceBuf0 i f s.obs.bufs } }

/-- The word that TRC_CTRL holds in its RW fields. -/
def trcCtrlHeld (b : TraceBuf) : Nat := numOf [bit 27 b.freezeOn, (23, 20, b.link), (13, 0, b.post)]

/-- The controls that a buffer holds. -/
def trcHolds (b : TraceBuf) : TraceCtl := ⟨b.freezeOn, b.link, b.post, b.trig, b.trig2, b.thresh, b.srcs⟩

/-- A write of TRC_CTRL (R375). ARM takes the controls that the buffer holds then, those of the same write included (R12). STOP
ends the capture of a buffer that captures: it is done. -/
def writeTrcCtrl (w : Nat) (s : State) : State :=
  let was := match trcSel s with
    | some i => (tget traceBuf0 i s.obs.bufs).state
    | none => 0
  let stop := w.testBit 30
  let s1 := trcMod (fun b =>
    let c : TraceBuf := { b with freezeOn := w.testBit 27, link := bits w 23 20, post := bits w 13 0 }
    { c with armReq := w.testBit 31 || b.armReq && !stop, asked := if w.testBit 31 then trcHolds c else b.asked,
             state := if stop && (b.state == 1 || b.state == 2) then 3 else b.state }) s
  raiseIf (stop && (was == 1 || was == 2)) 13 1 s1

/-- A write of TRC_SRC, TRC_TRIG, TRC_TRIG2 or TRC_THRESH. -/
def writeTrcWord (off w : Nat) (s : State) : State :=
  let v : Word := BitVec.ofNat 32 w
  trcMod (fun b => match off with
    | 0xD10C => { b with srcs := tset 0 (bits (wreg s 0xD108) 3 0) (BitVec.ofNat 32 (w % 2 ^ 26)) b.srcs }
    | 0xD110 => { b with trig := wordOf [(31, 23, bits w 31 23), (15, 0, w)] }
    | 0xD114 => { b with trig2 := wordOf [(31, 16, bits w 31 16)] }
    | _ => { b with thresh := v }) s

/-- The RW fields of TRC_CTRL of the selected buffer. -/
def trcHeld (s : State) : Nat :=
  match trcSel s with
  | some i => trcCtrlHeld (tget traceBuf0 i s.obs.bufs)
  | none => 0

/-- ARM (R375): ARM is written with the other fields as they are held. Log 104 DESIGN CHOICE. -/
def execArm (priv : Nat) (s0 : State) : Host.Outcome State Fault Refusal :=
  done (rpWrite priv 0xD104 (fun s => writeTrcCtrl (2 ^ 31 + trcHeld s) s) (fresh s0))

/-- STOP (R375). Log 100 DEDUCED, log 104 DESIGN CHOICE. -/
def execStop (priv : Nat) (s0 : State) : Host.Outcome State Fault Refusal :=
  done (rpWrite priv 0xD104 (fun s => writeTrcCtrl (2 ^ 30 + trcHeld s) s) (fresh s0))

/-- R372, R375: a buffer as it becomes armed at sample edge `k`: empty, with the controls of its ARM, and a time entry. -/
def trcArm (k : Nat) (b : TraceBuf) : TraceBuf :=
  let c := b.asked
  trcStamp k { b with
    state := 1, armReq := false, aFreezeOn := c.freezeOn, aLink := c.link, aPost := c.post, aTrig := c.trig,
    aTrig2 := c.trig2, aThresh := c.thresh, aSrcs := c.srcs, mem := [], wrPtr := 0, trigIdx := 0, left := 0, lost := 0,
    lostRun := 0, trigExtra := 0, timeK := none, last := [] }

/-- R375: the buffers that an edge arms. -/
def trcArmEdge (s : State) : State :=
  { s with obs := { s.obs with bufs := tadj traceBuf0 (fun _ b => if b.armReq then trcArm s.time.k b else b) s.obs.bufs } }

/-- R371: what a node holds; none in the reserved spaces. -/
def trcNode (s : State) (node : Nat) : Option Nat :=
  let a := node % 2 ^ 20
  let m := s.core.mem
  match node / 2 ^ 20 with
  | 0 => some (tget 0 (bits a 4 0) (tget thread0 (bits a 6 5) m.threads).regs)
  | 1 => some (tget 0 a m.sdata)
  | 2 => some (tget 0 a m.vmem)
  | 3 => some (tget 0 a m.tmem)
  | 4 => some (tget 0 a m.wmem)
  | 5 => if (regClass (4 * a)).isSome then some (regValue s 1 0 (4 * a)).toNat else none
  | 6 => some (tget 0 a s.core.slotFlags)
  | 7 => trcAgent s node
  | _ => none

/-- Captures of modes 2 and 3 at a sample edge, in its first cycle. -/
def trcEdge (s : State) : State := trcCapture 0 [2, 3] (trcNode s) s

/-- SNAP_IN (R374): a rising edge accepted at the pin. -/
def execSnapIn (s0 : State) : Host.Outcome State Fault Refusal :=
  let s := fresh s0
  if !clocked s then done s
  else done (trcFire 3 0 ((Config.freeWord s.free).toNat % 16384) (trcArmed s 3 (fun _ => true)) { s with free := s.free + 1 })

/-! ### Snapshots -/

/-- R377: status of a schedule for a tick. Log 82 DEDUCED. -/
def snapStatus (s : State) (tick : Nat) : Nat :=
  if !s.time.countSet then 1 else if tick < s.time.count + 2 then 2 else if s.obs.snap.state = 2 then 3 else 0

/-- R377: a schedule, which replaces one that has not been taken. Log 82 DEDUCED. -/
def snapSchedule (tick : Nat) (freeze : Bool) (s : State) : State :=
  let st := snapStatus s tick
  let x := s.obs.snap
  { s with obs := { s.obs with snap :=
    if st = 0 then { x with status := 0, state := 1, tick := tick, freeze := freeze, due := false }
    else { x with status := st } } }

/-- A write of SNAP_CTRL. CANCEL withdraws a schedule that has not been taken; the records of the last one stay ready (R381). -/
def writeSnapCtrl (w : Nat) (s : State) : State :=
  let s1 := putReg 0xD188 w s
  let s2 := if w.testBit 30 && s1.obs.snap.state == 1 then
      { s1 with obs := { s1.obs with snap := { s1.obs.snap with state := if s1.obs.snap.store = [] then 0 else 3, due := false } } }
    else s1
  if w.testBit 31 then snapSchedule (wreg s2 0xD180 + 2 ^ 32 * wreg s2 0xD184) (w.testBit 27) s2 else s2

/-- SNAP_ARM (R377): ARM is written with FREEZE as it is held. Log 104 DESIGN CHOICE. -/
def execSnapArm (priv : Nat) (s0 : State) : Host.Outcome State Fault Refusal :=
  done (rpWrite priv 0xD188 (fun s => writeSnapCtrl (2 ^ 31 + 2 ^ 27 * bits (wreg s 0xD188) 27 27) s) (fresh s0))

/-- CANCEL (R377). Log 100 DEDUCED, log 104 DESIGN CHOICE. -/
def execCancel (priv : Nat) (s0 : State) : Host.Outcome State Fault Refusal :=
  done (rpWrite priv 0xD188 (fun s => writeSnapCtrl (2 ^ 30 + 2 ^ 27 * bits (wreg s 0xD188) 27 27) s) (fresh s0))

/-- R376, R378: the first edge at or after the named tick is the snapshot edge; FREEZE sets REQ at that edge. -/
def snapEdge (s : State) : State :=
  let x := s.obs.snap
  if x.state = 1 ∧ x.due = false ∧ x.tick ≤ s.time.count then
    { s with obs := { s.obs with snap := { x with due := true } },
             core := { s.core with freezeReq := s.core.freezeReq || x.freeze } }
  else s

/-- R379: messages and tickets that a channel holds. -/
def chanOf (s : State) (kind i : Nat) : Chan := tget chan0 (chanKey kind i) s.tk.chans
def chanMsgs (c : Chan) : Nat := diff32 c.msgsSent c.msgsRecv % 65536
def chanTks (c : Chan) : Nat := diff32 c.tksSent c.tksRecv

/-- Table 14-5: the header. -/
def snapHeader (s : State) : List Nat :=
  let t := s.time.count + s.time.edgeUp + 2 ^ 64 - s.time.up % 2 ^ 64
  [t % 2 ^ 32, t / 2 ^ 32 % 2 ^ 32, s.time.k % 2 ^ 32, s.time.k / 2 ^ 32 % 2 ^ 32,
    numOf [bit 31 s.time.holdover, bit 30 s.core.frozen], readCore s 0x3000, readTherm s 0x8000, readCap s 0x6000]

/-- Table 14-5: the record of a Booth. -/
def snapBooth (s : State) (b : Nat) : List Nat :=
  let bd := fun d => tget boothDom0 (b * 4 + d) s.tk.bds
  let here := fun d => (bdKeys s).contains (b * 4 + d)
  let each := fun (f : BoothDom → Nat) => (List.range 4).map (fun d => f (bd d))
  each BoothDom.quota ++ each BoothDom.gk ++ each BoothDom.held ++
    [numOf [(31, 16, chanMsgs (chanOf s 0 b)), (15, 0, chanMsgs (chanOf s 1 b))], chanTks (chanOf s 0 b),
     numOf (bit 0 (boothFailed s b) :: (List.range 4).map (fun d => bit (d + 1) (here d && (bd d).gk == 0)))]

/-- One bit of each of 32 holders, for words 16 to 31. -/
def snapHolders (g : Agent) (f : Holder → Bool) : List Nat :=
  (List.range 8).map (fun w => numOf ((List.range 32).map (fun b => bit b (f (holderOf g (32 * w + b))))))

/-- Table 14-5: the record of an Agent. -/
def snapAgent (s : State) (a : Nat) : List Nat :=
  let g := agentOf s a
  let c := agentMap s a
  let ws := holderOrder (waitingOf g)
  let e := match ws with
    | [] => 0
    | h :: _ => holderWord h.2
  [g.recv, g.spent, g.ret, (tget officeAgent0 a s.tk.office).sent,
    numOf [(31, 28, g.tkReason), bit 27 g.byp, bit 26 c.lease, (25, 24, c.dom), bit 23 (handHeld s g), bit 22 g.engRst],
    poolOf g % 2 ^ 24, numOf [(31, 23, ws.length), (22, 15, (ws.head?.map Prod.fst).getD 0)], e % 2 ^ 32, e / 2 ^ 32,
    g.rateQ / 65536 % 2 ^ 24, numOf [(31, 16, chanMsgs (chanOf s 2 a)), (15, 0, chanMsgs (chanOf s 3 a))],
    chanTks (chanOf s 2 a), 0, 0, 0, 0] ++ snapHolders g Holder.wait ++ snapHolders g Holder.reserving

/-- One record put into the store; `unit` is Booth × 64 + Agent. -/
def snapPut (area unit : Nat) (ws : List Nat) (t : Tab Nat) : Tab Nat :=
  (ws.zipIdx).foldl (fun u w => tset 0 (area * 2 ^ 17 + unit * 32 + w.2) w.1 u) t

/-- R380: the snapshot store at the cut. -/
def snapStore (s : State) : Tab Nat :=
  let h := snapPut 0 0 (snapHeader s) []
  let bs := (boothKeys s).foldl (fun t b => snapPut 1 (b * 64) (snapBooth s b) t) h
  (s.pb.agents.map Prod.fst).foldl (fun t a => snapPut 2 a (snapAgent s a) t) bs

/-- SNAPSHOT_EDGE (R378): the cut at the boundary of the snapshot edge. -/
def execSnapshotEdge (s0 : State) : Host.Outcome State Fault Refusal :=
  let s := fresh s0
  let x := s.obs.snap
  if !clocked s || !x.due then done s
  else
    let s1 : State := { s with
      obs := { s.obs with snap := { x with
        state := 2, due := false, timed := s.time.holdover, snaps := wrapAdd 16 x.snaps 1, extend := 0,
        store := snapStore s } },
      port := { s.port with snapOutUp := s.time.up + 1 } }
    let s2 := if s.time.holdover then event 0xE009 2 s1 else s1
    done (trcFire 4 0 0 (trcArmed s2 4 (fun _ => true)) s2)

/-- SNAP_DRAIN_DONE (R381). -/
def execSnapDrainDone (s0 : State) : Host.Outcome State Fault Refusal :=
  let s := fresh s0
  if s.obs.snap.state = 2 then
    done (raise 13 2 { s with obs := { s.obs with snap := { s.obs.snap with state := 3 } } })
  else done s

end Sys2Proof.Machine
end

