-- ==== Sys2Proof/Machine/Loader.lean ====
section
/-! DEFINITION. The loader of the Register Port (R322 to R324) and the key registers (R318). -/

namespace Sys2Proof.Machine

open Sys2Proof

/-! ### Operations -/

/-- LOAD_LEN as a GO takes it: 4 to 8,388,608 and a multiple of 4 (Table 11-14). -/
def loadLen (s : State) : Nat := clampN 4 8388608 (wreg s 0xA018 / 4 * 4)

/-- An operation ends: DONE and STATUS, and the cause. -/
def loaderEnd (st : Nat) (s : State) : State :=
  raise 11 1 { s with start := { s.start with ldBusy := false, ldDone := true, ldStatus := st, ldGot := [] } }

/-- What a failed check leaves in LOAD_STATUS without a rejection of the running image. -/
def loaderBad (b : Bad) (s : State) : State :=
  loaderEnd 3 { s with start := { s.start with reason := b.reason, sect := b.sect, detail := b.detail, offset := b.off } }

/-- An operation that takes a stream begins. -/
def loaderBegin (op : Nat) (s : State) : State :=
  { s with start := { s.start with ldOp := op, ldLen := loadLen s, ldGot := [], ldUp := none, ldBusy := true, ldDone := false,
                                   ldStatus := 0 } }

/-- LOAD: a warm start that waits for its stream in stage 10; what DISCOVER found of the flash stays. Log 85 DEDUCED. -/
def loadBegin (s : State) : State :=
  let t := s.start
  let s1 := resetTo false s
  let s2 : State := { s1 with regs := { s1.regs with wr := tset 0 0xA018 (wreg s 0xA018) (tset 0 0xA014 1 s1.regs.wr) } }
  loaderBegin 1 { s2 with start := { s2.start with
    state := 10, streaming := true, warm := true, causeCode := 3, starts := wrapAdd 16 t.starts 1, flashOk := t.flashOk,
    density := t.density, mode := t.mode, addr4 := t.addr4, sfdpRev := t.sfdpRev } }

/-- RESTART: a warm start with cause 3, once no flash store runs. -/
def restart (s : State) : State :=
  if storeRuns s then
    { s with start := { s.start with restartWait := true, ldOp := 4, ldBusy := true, ldDone := false, ldStatus := 0 } }
  else warmStart 3 s

/-- Table 11-10: GO. -/
def loaderGo (op : Nat) (s : State) : State :=
  let hold := s.start.state == 14
  let ok := hold || s.start.state == 9
  if s.start.ldBusy then { s with start := { s.start with ldStatus := 1 } }
  else match op with
    | 1 => if hold then loadBegin s else loaderEnd 1 s
    | 2 => if !ok then loaderEnd 1 s else if !s.start.flashOk then loaderEnd 2 s else loaderBegin 2 s
    | 3 => if !ok then loaderEnd 1 s else if !s.start.flashOk then loaderEnd 2 s else loaderBegin 3 s
    | 4 => if !ok then loaderEnd 1 s else restart s
    | _ => loaderEnd 5 s

/-- A write of LOAD_CTRL. -/
def writeLoadCtrl (w : Nat) (s : State) : State :=
  let s1 := putReg 0xA014 w s
  if w.testBit 31 then loaderGo (bits w 3 0) s1 else s1

def loaderRow (op priv : Nat) (s : State) : Host.Outcome State Fault Refusal :=
  done (rpWrite priv 0xA014 (writeLoadCtrl (2 ^ 31 + op)) (fresh s))

/-- LOAD (R322). Log 85 DEDUCED. -/
def execLoad (priv : Nat) (s : State) : Host.Outcome State Fault Refusal := loaderRow 1 priv s
/-- PROGRAM (R322). -/
def execProgram (priv : Nat) (s : State) : Host.Outcome State Fault Refusal := loaderRow 2 priv s
/-- PROGRAM_CAL (R322). -/
def execProgramCal (priv : Nat) (s : State) : Host.Outcome State Fault Refusal := loaderRow 3 priv s
/-- RESTART (R322). -/
def execRestart (priv : Nat) (s : State) : Host.Outcome State Fault Refusal := loaderRow 4 priv s

/-! ### The stream -/

/-- R323: an aborted stream. LOAD goes back to SAFE_HOLD; PROGRAM leaves the flash torn; PROGRAM_CAL has written nothing.
Log 86 DEDUCED, log 87 DESIGN CHOICE. -/
def streamAbort (s : State) : State :=
  let b : Bad := ⟨0x60, 0, 0, 4 * s.start.ldGot.length⟩
  if s.start.ldOp = 1 then reject b s
  else if s.start.ldOp = 2 then loaderBad b (loaderTorn s)
  else loaderBad b s

/-- R323: a header of the stream disagrees with LOAD_LEN: the image's once it is complete, and the calibration section's.
Log 86 DEDUCED. -/
def streamWrong (op len : Nat) (ws : List Nat) : Bool :=
  let n := 4 * ws.length
  let img := at' 0 ws 2
  if op = 3 then n == 8 && 16 + at' 0 ws 1 != len
  else (n == 64 && decide (len < img + 16)) ||
    (decide (64 < n) && n == img + 8 && img + 16 + at' 0 ws (img / 4 + 1) != len)

/-- PROGRAM_CAL checks its stream before it writes: the header in flash, the section's CRC and PART_ID. -/
def calStreamBad (s : State) : Option Bad :=
  let h := srcWords (flashWord s.flash) 0 15
  firstBad [need (flashWord s.flash 60 == crc32c (bytesOfWords h)) 0x10 0 0 60,
    calBad ⟨fun o => at' 0 s.start.ldGot (o / 4), 0⟩]

/-- The stream is complete: a LOAD makes checks 1 to 4 and goes on to VERIFY; the others wait for the flash.
Log 86 DEDUCED. -/
def streamEnd (s : State) : State :=
  if s.start.ldOp = 1 then
    match readBad s.par.build (streamSrc s.start.ldGot) with
    | some b => reject b s
    | none => readEnd 6 s
  else if s.start.ldOp = 3 then
    match calStreamBad s with
    | some b => loaderBad b s
    | none => s
  else s

/-- A word of the stream is awaited. -/
def streamOpen (s : State) : Bool :=
  s.start.ldBusy && decide (1 ≤ s.start.ldOp ∧ s.start.ldOp ≤ 3) && decide (4 * s.start.ldGot.length < s.start.ldLen)

/-- A write of LOAD_DATA. -/
def writeLoadData (w : Nat) (s : State) : State :=
  if !streamOpen s then s
  else
    let ws := s.start.ldGot ++ [w]
    let s1 : State := { s with start := { s.start with ldGot := ws, ldUp := some s.time.up } }
    if streamWrong s.start.ldOp s.start.ldLen ws then streamAbort s1
    else if streamOpen s1 then s1 else streamEnd s1

/-- LOAD_DATA (R322, R324): while a store has the flash, RP_READY stays low and the word is not taken. -/
def execLoadData (priv : Nat) (data : Word) (s0 : State) : Host.Outcome State Fault Refusal :=
  let s := fresh s0
  if streamOpen s && storeRuns s then done s else done (rpWrite priv 0xA01C (writeLoadData data.toNat) s)

/-- LOAD_STREAM_TIMEOUT (R323): 100 ms without a word; the timer pauses while a store runs (R324). An expiry in the tick interval in
which a word arrived is one that the word has met in its cycle, and the word wins (R82). -/
def execLoadStreamTimeout (s0 : State) : Host.Outcome State Fault Refusal :=
  let s := fresh s0
  if streamOpen s && !storeRuns s && clocked s && s.start.ldUp != some s.time.up then done (streamAbort s) else done s

/-- The flash after PROGRAM or PROGRAM_CAL, where the flash gives back these words. -/
def loaderPlace (back : List Nat) (s : State) : Tab Nat :=
  let ws := s.start.ldGot
  let span := fun n => ceilDiv n 4096 * 4096
  if s.start.ldOp = 2 then
    let img := at' 0 ws 2
    let cal := at' 0 ws 7
    flashProgram cal (back.drop (img / 4)) (flashWrite 0 (span img) (back.take (img / 4))
      (flashErase cal (span (s.start.ldLen - img)) s.flash))
  else flashWrite (flashWord s.flash 28) (span s.start.ldLen) back s.flash

/-- R322: checks 1 to 6 of R319 on the image in flash, without loading. -/
def flashBad (s : State) : Option Bad :=
  let x := flashSrc s.flash
  firstBad [readBad s.par.build x, verifyNow s x,
    contentBad s.par x (sections s.par.build x.rd).2 (calLimited (imageContent x (sections s.par.build x.rd).2)).1]

/-- LOADER_DONE (R322): whether the flash failed, and what was read back. -/
def execLoaderDone (error : Bool) (back : List Nat) (s0 : State) : Host.Outcome State Fault Refusal :=
  let s := fresh s0
  if !s.start.ldBusy || streamOpen s || storeRuns s || !(s.start.ldOp == 2 || s.start.ldOp == 3) then done s
  else
    let s1 : State := { s with flash := loaderPlace back s }
    if error || back != s.start.ldGot then done (loaderEnd 4 s1)
    else if s.start.ldOp = 3 then done (loaderEnd 0 s1)
    else match flashBad s1 with
      | some b => done (loaderBad b s1)
      | none => done (loaderEnd 0 s1)

/-! ### Key registers (R318) -/

/-- A write of a key register at security privilege. After RELEASE it is ignored and recorded. Log 88 DEDUCED. -/
def writeKeyReg (off w : Nat) (s : State) : State :=
  let t := s.start
  if t.keyLocked then report 0xC002 0 s
  else if off = 0xA074 then
    if w.testBit 31 then { s with start := { t with keyLocked := true, state := if t.state = 5 then 6 else t.state } } else s
  else if off = 0xA070 then
    if s.par.secRelease = 1 then { s with start := { t with keyMinVer := w } } else s
  else if s.par.keySource = 1 then { s with start := { t with keyDigest := put t.keyDigest ((off - 0xA040) / 4) w } }
  else s

/-- RELEASE (R318). -/
def execRelease (priv : Nat) (s : State) : Host.Outcome State Fault Refusal :=
  done (rpWrite priv 0xA074 (writeKeyReg 0xA074 (2 ^ 31)) (fresh s))

end Sys2Proof.Machine
end

