-- ==== Sys2Proof/Machine/Stores.lean ====
section
/-! DEFINITION. The ends of flash stores (R246, R360), what waits for them: STORE_ALL (R401), an orderly shutdown, RESTART
(R322), and a flash operation that does not finish in time (R421). -/

namespace Sys2Proof.Machine

open Sys2Proof

/-- R246, R362: the margin store and then the Prompt Book store. A store that runs already is not started again. -/
def storeBoth (s : State) : State :=
  let s1 := marginStore s
  if s1.book.storing.isSome || s1.book.storeWait then s1
  else if s1.margin.done then bookStore s1
  else { s1 with book := { s1.book with storeWait := true, done := false } }

/-- The host command slot completes (R401, Table 15-6). -/
def hostDone (seq code result : Nat) (res : Tab Nat) (s : State) : State :=
  raise 14 0 { s with port := { s.port with posted := none, echoSeq := seq, echoCode := code, result := result, res := res } }

/-- What waited for the stores: STORE_ALL gives the STATUS of both, an orderly shutdown is answered, and RESTART starts. -/
def storesEnd (s : State) : State :=
  if storeRuns s then s
  else
    let m := s.margin.status
    let b := s.book.status
    let bad := decide (m ≠ 0 ∨ b ≠ 0)
    let s1 := match s.port.storeAll with
      | none => s
      | some seq => hostDone seq 3 (if bad then 3 else 0) (tset 0 0 (numOf [(4, 2, b), (1, 0, m)]) [])
          { s with port := { s.port with storeAll := none } }
    let s2 := match s1.mgmt.shutdown with
      | none => s1
      | some seq => emit (.resp 0x27 seq (if bad then 0x0A else 0) []) { s1 with mgmt := { s1.mgmt with shutdown := none } }
    if s2.start.restartWait then warmStart 3 s2 else s2

/-- MARGIN_STORE_DONE (R246): whether the flash failed, and what was read back stands in the sector. -/
def execMarginStoreDone (error : Bool) (back : List Nat) (s0 : State) : Host.Outcome State Fault Refusal :=
  let s := fresh s0
  match s.margin.storing with
  | none => done s
  | some rec => done (storesEnd (marginEnd error back rec s))

/-- PB_STORE_DONE (R360). -/
def execPbStoreDone (error : Bool) (back : List Nat) (s0 : State) : Host.Outcome State Fault Refusal :=
  let s := fresh s0
  match s.book.storing with
  | none => done s
  | some img => done (storesEnd (bookEnd error back img s))

/-- FLASH_READ_TIMEOUT (R421): the operation that has the flash ends with its flash error; a start is rejected (Table 11-8).
What a store had written so far is not read back: its span is left erased. -/
def execFlashReadTimeout (s0 : State) : Host.Outcome State Fault Refusal :=
  let s := fresh s0
  if !clocked s then done s
  else match s.margin.storing, s.book.storing with
    | some rec, _ => done (storesEnd (marginEnd true [] rec s))
    | none, some img => done (storesEnd (bookEnd true [] img s))
    | none, none =>
      if inStage s 3 || inStage s 4 then done (reject ⟨0x03, 0, 0, 0⟩ s)
      else if s.start.ldBusy && (s.start.ldOp == 2 || s.start.ldOp == 3) then done (loaderEnd 4 (loaderTorn s))
      else done s

end Sys2Proof.Machine
end

