-- ==== Sys2Proof/Machine/Management.lean ====
section
/-! DEFINITION. The management command path: the sequence of commands (R301), the management timer (R302), and the commands
of Table 15-13 (R415, R416). -/

namespace Sys2Proof.Machine

open Sys2Proof

/-! ### What each sequenced command checks and does -/

/-- An argument of a command. -/
def argI (a : List Int) (i : Nat) : Int := a.getD i 0
def argN (a : List Int) (i : Nat) : Nat := (argI a i).toNat

/-- R416: the value that withdraws a threshold. -/
def thrNone : Int := 0x7FFF

/-- Table 9-2: the entry of the same authority that a management release copy is checked against. -/
def mgmtEntry (s : State) (which : Nat) : Int :=
  if s.therm.mgmtSet.contains which then tget 0 which s.therm.mgmt
  else if which = 0 then s.pb.therm.warn else s.pb.therm.thr

/-- Table 9-2, R263: the range of a management threshold. -/
def thrInRange (s : State) (which : Nat) (v : Int) : Bool :=
  match which with
  | 0 => decide (960 ≤ v ∧ v ≤ 1920)
  | 1 => decide (mgmtEntry s 0 - 320 ≤ v ∧ v ≤ mgmtEntry s 0 - 8)
  | 2 => decide (1120 ≤ v ∧ v ≤ 1952)
  | 3 => decide (mgmtEntry s 2 - 320 ≤ v ∧ v ≤ mgmtEntry s 2 - 8)
  | _ => decide (1440 ≤ v)

/-- R251, R263: a management threshold set or withdrawn; one above the wired Curtain threshold is replaced by it. -/
def thrSet (which : Nat) (v : Int) (s : State) : State :=
  let m := s.therm
  let w := if which = 4 then min s.par.curtWired v else v
  { s with therm :=
    if v = thrNone then { m with mgmt := tset 0 which 0 m.mgmt, mgmtSet := m.mgmtSet.filter (· != which) }
    else { m with mgmt := tset 0 which w m.mgmt,
                  mgmtSet := (List.range 5).filter (fun i => i == which || m.mgmtSet.contains i) } }

/-- R251: the order of the effective thresholds. -/
def thrOrdered (e : ThrEff) : Bool := decide (e.warn + 16 ≤ e.thr ∧ e.thr + 16 ≤ e.shut)

/-- Table 7-1: the range of a management limit. -/
def limInRange (scope window v : Nat) : Bool :=
  if scope = 0 then
    if window = 1 then decide (16 ≤ v ∧ v ≤ 65535) else decide (1000 ≤ v ∧ v ≤ 2500000)
  else decide (2 ≤ window) && decide (10000 ≤ v ∧ v ≤ 60000000)

/-- R298, R300: a die whose REPORTs still come. -/
def dieReporting (s : State) (d : DieRec) : Bool :=
  match d.rptUp with
  | some u => decide (s.time.up < u + 50)
  | none => false

/-- The id of a ramp in force or scheduled (R227). -/
def rampKnown (s : State) (id : Nat) : Bool :=
  (match s.cap.ramp with | some r => r.id == id | none => false) ||
    s.cap.next.any (fun r => r.id == id)

/-- R298, R299: status of Departed. -/
def departedJudge (s : State) (scope id : Nat) : Nat :=
  if scope = 0 then
    let d := dieRec s id
    if d.seen.isNone || d.departed then 4 else if dieReporting s d then 6 else 0
  else if scope = 1 then
    if !isParent s.zilt then 9
    else match childOf s id with
      | none => 4
      | some c => if c.id = s.zilt.id then 4 else if s.time.up < c.rptUp + 300 then 6 else 0
  else 4

/-- Table 15-12: the status of a sequenced command that is executed: 0, or the reason of its refusal. Log 81 DEDUCED. -/
def mgmtJudge (s : State) (code : Nat) (a : List Int) : Nat :=
  let n := argN a
  match code with
  | 0x10 => if n 0 % 1000 = 0 then 0 else 4
  | 0x11 => if 1 < n 0 ∨ n 1 = 0 ∨ 6 < n 1 ∨ (n 0 = 1 ∧ n 1 = 1) then 4
      else if n 2 = allOnes ∨ limInRange (n 0) (n 1) (n 2) = true then 0 else 4
  | 0x12 => if 4 < n 0 then 4
      else if argI a 1 ≠ thrNone ∧ thrInRange s (n 0) (argI a 1) = false then 4
      else if thrOrdered (thrNow (thrSet (n 0) (argI a 1) s)) then 0 else 6
  | 0x13 => if n 0 ≤ 15 then 0 else 4
  | 0x14 => if n 0 ≤ 1 then 0 else 4
  | 0x15 => 0
  | 0x16 => if 4 ≤ n 0 ∧ n 0 ≤ 96 then 0 else 4
  | 0x17 => if 50 ≤ n 0 ∧ n 0 ≤ 100 then 0 else 4
  | 0x20 => if !s.time.countSet then 3
      else if n 2 % 1000 ≠ 0 ∨ 86400000 < n 3 ∨ n 1 < 10000 ∨ 60000000 < n 1 then 4 else 0
  | 0x21 => if rampKnown s (n 0) then 0 else 6
  | 0x22 => if s.par.build = 2 then 9 else if 16383 < n 0 ∨ 2 < n 1 ∨ 16383 < n 2 then 4 else 0
  | 0x23 => if s.zilt.placed && s.zilt.level == 0 && decide (s.par.build < 2) then 0 else 9
  | 0x24 => if n 0 = 0 then 0 else if n 0 = 1 then (if s.zilt.placed ∧ 1 ≤ s.pkg.role then 0 else 9) else 4
  | 0x25 => departedJudge s (n 0) (n 1)
  | 0x26 => at' 0 [0, 3, 4, 6] (snapStatus s (n 0))
  | 0x27 => if storeRuns s then 6 else 0
  | _ => 7

/-- R291: a package's place in the tree. A package that changes it starts without children and without an allocation.
Log 78 DEDUCED. -/
def zltPlace (id level parent : Nat) (s : State) : State :=
  let z := s.zilt
  if z.placed && z.id == id && z.level == level && z.parent == parent then s
  else { s with zilt := { z with
    placed := true, id := id, level := level, parent := parent, children := [], f := none, fWait := false,
    lagHold := false, silence := 0, allocUp := s.time.up, rptUp := s.time.up, parentTerm := none, leaving := 0,
    interval := none } }

/-- R298: the floor of a die or of a child package is released. -/
def release (scope id : Nat) (s : State) : State :=
  if scope = 0 then
    let l := s.pkg.led
    putDie id { dieRec s id with departed := true } { s with pkg := { s.pkg with led := { l with
      a := terase id l.a, t := terase id l.t, h := terase id l.h, sent := terase id l.sent,
      wait := l.wait.filter (· != id), held := terase id l.held, since := terase id l.since,
      stay := l.stay.filter (· != id) } } }
  else { s with zilt := { s.zilt with
    children := s.zilt.children.filter (fun c => c.id != id), departures := wrapAdd 8 s.zilt.departures 1 } }

/-- R227: Cancel Ramp withdraws the source, and a schedule. -/
def rampCancel (id : Nat) (s : State) : State :=
  let x := s.cap
  let cut := match x.ramp with
    | some r => r.id == id
    | none => false
  { s with cap := { x with
    ramp := if cut then none else x.ramp, val := if cut then none else x.val, prev := if cut then none else x.prev,
    next := x.next.filter (fun r => r.id != id), changed := x.changed || cut } }

/-- R130, R207: the limits that management holds: copies of the window limits, allowed modes, die slew, holdover percentage, thermal
thresholds, and the budget of the fleet. Log 40 DEDUCED. -/
def mgmtLimits (s : State) : List (Tab Nat) × List (Option Nat) × Tab Int × List Nat :=
  ([s.cap.mDie, s.cap.mPkg], [s.cap.mAllow, s.cap.mSlew, s.cap.mHold, s.zilt.budget], s.therm.mgmt, s.therm.mgmtSet)

/-- R415, R416: what an executed command changes at its sample edge. -/
def mgmtEffect (code : Nat) (a : List Int) (s : State) : State :=
  let n := argN a
  let ramped := fun (x : State) => raiseIf (rampState x.cap s.time.count != rampState s.cap s.time.count) 5 4 x
  match code with
  | 0x11 =>
    if n 0 = 0 then { s with cap := { s.cap with mDie := tset allOnes (n 1) (n 2) s.cap.mDie } }
    else { s with cap := { s.cap with mPkg := tset allOnes (n 1) (n 2) s.cap.mPkg } }
  | 0x12 => thrSet (n 0) (argI a 1) s
  | 0x13 => { s with therm := { s.therm with mgmtLvl := n 0 } }
  | 0x14 => { s with cap := { s.cap with auth := n 0, authSet := true } }
  | 0x15 => { s with cap := { s.cap with mAllow := some (n 0 % 4 + 4) } }
  | 0x16 => { s with cap := { s.cap with mSlew := some (n 0) } }
  | 0x17 => { s with cap := { s.cap with mHold := some (n 0) } }
  | 0x20 => ramped { s with cap := { s.cap with
      next := s.cap.next ++ [{ id := n 0 % 65536, c0 := 0, c1 := n 1, t0 := n 2, d := n 3 }] } }
  | 0x21 => ramped (rampCancel (n 0) s)
  | 0x22 => zltPlace (n 0) (n 1) (n 2) s
  | 0x23 => { s with zilt := { s.zilt with budget := some (n 0) } }
  | 0x24 =>
    if n 0 = 0 then { s with pkg := { s.pkg with leaving := max 1 s.pkg.leaving } }
    else { s with zilt := { s.zilt with leaving := max 1 s.zilt.leaving } }
  | 0x25 => release (n 0) (n 1) s
  | 0x27 => storeBoth s
  | _ => s

/-! ### The sequence (R301) -/

/-- R415: commands that have been executed and wait for the edge, as (code, [respond, SEQ, arguments…]). A later command is
judged as if they had taken effect. -/
def mgmtAhead (s : State) : State := s.mgmt.todo.foldl (fun x t => mgmtEffect t.1 (t.2.drop 2) x) s

/-- A response (Table 15-11). -/
def mgmtResp (code seq status : Nat) (data : List Nat) (s : State) : State := emit (.resp code seq status data) s

/-- R209: a refused command is recorded; a refused Start Ramp is counted (R224). Log 81 DEDUCED. -/
def mgmtRefuse (code : Nat) (s : State) : State :=
  event 0xE006 (code : Int) (if code = 0x20 then
    { s with cap := { s.cap with refused := wrapAdd 8 s.cap.refused 1 } } else s)

/-- The part of an executed command that does not wait for an edge: the count that the next epoch loads (R26), and a snapshot's
schedule (R377). Log 82 DEDUCED. -/
def mgmtNow (code : Nat) (a : List Int) (s : State) : State :=
  if code = 0x10 then { s with time := { s.time with pendCount := some (argN a 0) } }
  else if code = 0x26 then snapSchedule (argN a 0) (argN a 1 == 1) s
  else s

/-- R301, R415: a command whose turn has come. `tell` says that it is answered. Log 81 DEDUCED. -/
def mgmtRun (tell : Bool) (seq code : Nat) (a : List Int) (s : State) : State :=
  let st := mgmtJudge (mgmtAhead s) code a
  let s1 : State := { s with mgmt := { s.mgmt with next := some ((seq + 1) % 2 ^ 32), lastUp := s.time.up } }
  if st = 0 then
    let s2 := mgmtNow code a s1
    { s2 with mgmt := { s2.mgmt with todo := s2.mgmt.todo ++ [(code, (tell.toNat : Int) :: (seq : Int) :: a)] } }
  else
    let s2 := mgmtRefuse code (if code = 0x26 ∧ st ≠ 0 then snapSchedule (argN a 0) (argN a 1 == 1) s1 else s1)
    if tell then mgmtResp code seq st [] s2 else s2

/-- Table 10-7: the distance of a SEQ from NEXT. -/
def seqDist (next seq : Nat) : Nat := (seq % 2 ^ 32 + 2 ^ 32 - next % 2 ^ 32) % 2 ^ 32

/-- R301: held commands that follow NEXT without a gap; they are not answered again. -/
def mgmtDrain : Nat → State → State
  | 0, s => s
  | f + 1, s =>
    match s.mgmt.next, s.mgmt.held with
    | some n, h :: r =>
      if h.seq = n then
        mgmtDrain f (mgmtRun false h.seq h.code h.args { s with mgmt := { s.mgmt with held := r } })
      else s
    | _, _ => s

/-- R301: a gap: what is skipped is recorded and told, and NEXT is the lowest held SEQ. -/
def mgmtGap (s : State) : State :=
  match s.mgmt.next, s.mgmt.held with
  | some n, h :: _ =>
    let len := seqDist n h.seq
    let s1 : State := { s with mgmt := { s.mgmt with
      gapFirst := n, gapLen := len, gaps := wrapAdd 8 s.mgmt.gaps 1, next := some h.seq } }
    let s2 := raise 10 1 (report 0xB003 (len : Int) (alert 0x43 (leBytes 4 n ++ leBytes 4 len) s1))
    mgmtDrain s2.mgmt.held.length s2
  | _, _ => s

/-- R301: a command ahead of NEXT is held in SEQ order. -/
def mgmtHold (next : Nat) (h : HeldCmd) (l : List HeldCmd) : List HeldCmd :=
  insertBy (fun x y => decide (seqDist next x.seq ≤ seqDist next y.seq)) h l

/-- R301, Table 10-7: a sequenced command that has arrived at a running block. -/
def mgmtTake (seq code : Nat) (a : List Int) (s0 : State) : State :=
  let s := arrived srcMgmt s0
  let next := s.mgmt.next.getD seq
  let d := seqDist next seq
  if d = 0 then
    let s1 := mgmtRun true seq code a s
    mgmtDrain s1.mgmt.held.length s1
  else if d < 2 ^ 31 ∧ s.mgmt.held.all (fun h => h.seq != seq) = true then
    let s1 := mgmtResp code seq 1 [] { s with mgmt := { s.mgmt with
      lastUp := s.time.up, held := mgmtHold next ⟨seq, s.time.up, code, a⟩ s.mgmt.held } }
    if 8 < s1.mgmt.held.length then mgmtGap s1 else s1
  else mgmtResp code seq 2 [] { s with mgmt := { s.mgmt with dupCmds := wrapAdd 16 s.mgmt.dupCmds 1 } }

/-- R309, R415: a command that a block that does not run refuses; NEXT stays. Log 80 DEDUCED. -/
def mgmtStopped (code seq : Nat) (s : State) : State := mgmtResp code seq 5 [] (mgmtRefuse code s)

/-- A sequenced command of Table 15-13. Log 80 DEDUCED. -/
def mgmtSeq (code seq : Nat) (a : List Int) (s0 : State) : Host.Outcome State Fault Refusal :=
  let s := fresh s0
  if !rpAlive s then done s
  else if holdOut s then done (mgmtStopped code (seq % 2 ^ 32) s)
  else done (mgmtTake (seq % 2 ^ 32) code a s)

/-- SET_TICK_COUNT (R26). -/
def execSetTickCount (seq count : Nat) (s : State) : Host.Outcome State Fault Refusal :=
  mgmtSeq 0x10 seq [((count % 2 ^ 64 : Nat) : Int)] s
/-- SET_LIMIT (R206). -/
def execSetLimit (seq scope window value : Nat) (s : State) : Host.Outcome State Fault Refusal :=
  mgmtSeq 0x11 seq [(scope : Int), (window : Int), (value : Int)] s
/-- SET_THERMAL_THRESHOLD (R251, R263). -/
def execSetThermalThreshold (seq which : Nat) (value : Int) (s : State) : Host.Outcome State Fault Refusal :=
  mgmtSeq 0x12 seq [(which : Int), value] s
/-- SET_THROTTLE_LEVEL (R257). -/
def execSetThrottleLevel (seq level : Nat) (s : State) : Host.Outcome State Fault Refusal :=
  mgmtSeq 0x13 seq [(level : Int)] s
/-- SET_AUTHORITY (R208). -/
def execSetAuthority (seq value : Nat) (s : State) : Host.Outcome State Fault Refusal :=
  mgmtSeq 0x14 seq [(value : Int)] s
/-- SET_ALLOWED_MODES (R207). -/
def execSetAllowedModes (seq mask : Nat) (s : State) : Host.Outcome State Fault Refusal :=
  mgmtSeq 0x15 seq [(mask : Int)] s
/-- SET_DIE_SLEW (R207, R72). -/
def execSetDieSlew (seq value : Nat) (s : State) : Host.Outcome State Fault Refusal :=
  mgmtSeq 0x16 seq [(value : Int)] s
/-- SET_HOLDOVER_PERCENT (R207, R28). -/
def execSetHoldoverPercent (seq value : Nat) (s : State) : Host.Outcome State Fault Refusal :=
  mgmtSeq 0x17 seq [(value : Int)] s
/-- START_RAMP (R224). -/
def execStartRamp (seq rampId c1 t0 d : Nat) (s : State) : Host.Outcome State Fault Refusal :=
  mgmtSeq 0x20 seq [(rampId : Int), (c1 : Int), (t0 : Int), (d : Int)] s
/-- CANCEL_RAMP (R227). -/
def execCancelRamp (seq rampId : Nat) (s : State) : Host.Outcome State Fault Refusal :=
  mgmtSeq 0x21 seq [(rampId : Int)] s
/-- SET_ZILTER_POSITION (R291). -/
def execSetZilterPosition (seq package level parent : Nat) (s : State) : Host.Outcome State Fault Refusal :=
  mgmtSeq 0x22 seq [(package : Int), (level : Int), (parent : Int)] s
/-- SET_FLEET_BUDGET (R291). -/
def execSetFleetBudget (seq budget : Nat) (s : State) : Host.Outcome State Fault Refusal :=
  mgmtSeq 0x23 seq [(budget : Int)] s
/-- ORDERLY_DEPARTURE (R298). -/
def execOrderlyDeparture (seq scope : Nat) (s : State) : Host.Outcome State Fault Refusal :=
  mgmtSeq 0x24 seq [(scope : Int)] s
/-- DEPARTED (R298, R300). -/
def execDeparted (seq scope id : Nat) (s : State) : Host.Outcome State Fault Refusal :=
  mgmtSeq 0x25 seq [(scope : Int), (id : Int)] s
/-- SCHEDULE_SNAPSHOT (R377). -/
def execScheduleSnapshot (seq tick : Nat) (freeze : Bool) (s : State) : Host.Outcome State Fault Refusal :=
  mgmtSeq 0x26 seq [(tick : Int), (freeze.toNat : Int)] s
/-- ORDERLY_SHUTDOWN (R246, R360, R362). -/
def execOrderlyShutdown (seq : Nat) (s : State) : Host.Outcome State Fault Refusal :=
  mgmtSeq 0x27 seq [] s

/-! ### The edge (R415) -/

/-- One executed command at the edge. A Set Tick Count stays until an epoch has loaded it; an Orderly Shutdown is answered
once both stores have ended. -/
def mgmtEdgeOne (t : Nat × List Int) (s : State) : State :=
  let tell := argN t.2 0 == 1
  let seq := argN t.2 1
  if t.1 = 0x10 ∧ s.time.pendCount.isSome = true then
    { s with mgmt := { s.mgmt with todo := s.mgmt.todo ++ [t] } }
  else
    let s0 := mgmtEffect t.1 (t.2.drop 2) s
    let s1 : State := { s0 with cap := { s0.cap with changed := s0.cap.changed || decide (mgmtLimits s0 ≠ mgmtLimits s) } }
    if t.1 = 0x27 then storesEnd { s1 with mgmt := { s1.mgmt with shutdown := if tell then some seq else none } }
    else if tell then mgmtResp t.1 seq 0 [] s1 else s1

/-- R415: the commands that have been executed since the last edge take effect and are answered. -/
def mgmtEdge (s : State) : State :=
  s.mgmt.todo.foldl (fun x t => mgmtEdgeOne t x) { s with mgmt := { s.mgmt with todo := [] } }

/-! ### Commands out of sequence -/

/-- The bytes of a register as the Register Port reads it at system privilege. Log 83 DEDUCED. -/
def regBytes (s : State) (off : Nat) : List Nat := leBytes 4 (regValue s 1 0 off).toNat

/-- MANAGEMENT_HEARTBEAT (R302): from LIVE on it resets the timer and ends a loss. -/
def execManagementHeartbeat (seq : Nat) (s0 : State) : Host.Outcome State Fault Refusal :=
  let s := fresh s0
  if !rpAlive s then done s
  else
    let s1 : State := if isLive s then
        raiseIf (s.mgmt.state != 0) 10 0 { s with mgmt := { s.mgmt with state := 0, lastUp := s.time.up } }
      else s
    done (mgmtResp 1 seq 0 (regBytes s1 0x9080) s1)

/-- GET_SEQUENCE_STATE (R416). -/
def execGetSequenceState (seq : Nat) (s0 : State) : Host.Outcome State Fault Refusal :=
  let s := fresh s0
  if !rpAlive s then done s
  else done (mgmtResp 2 seq 0 (leBytes 4 (s.mgmt.next.getD 0) ++ [s.mgmt.held.length] ++ leBytes 4 s.mgmt.gapFirst ++
    leBytes 4 s.mgmt.gapLen) s)

/-- GET_STATUS (R416). -/
def execGetStatus (seq : Nat) (s0 : State) : Host.Outcome State Fault Refusal :=
  let s := fresh s0
  if !rpAlive s then done s
  else done (mgmtResp 3 seq 0 (regBytes s 0xA000 ++ regBytes s 0xB000 ++ regBytes s 0x8000 ++ regBytes s 0x6000 ++
    leBytes 8 s.time.count) s)

/-- GET_REGISTER (R416): a read at system privilege, with RP_RESP as the status. -/
def execGetRegister (seq offset : Nat) (s0 : State) : Host.Outcome State Fault Refusal :=
  let s := fresh s0
  if !rpAlive s then done s
  else
    let r := rpResp (lockout s) false 1 offset
    if r = 0 then
      let s1 : State := { latchHigh 1 0 offset s with free := s.free + 1 }
      done (mgmtResp 4 seq 0 (regBytes s offset) s1)
    else done (mgmtResp 4 seq r (leBytes 4 0) s)

/-- REPORT_COOLANT_TEMPERATURE (R153). -/
def execReportCoolantTemperature (seq : Nat) (temp : Int) (s0 : State) : Host.Outcome State Fault Refusal :=
  let s := fresh s0
  if !rpAlive s then done s
  else if holdOut s then done (mgmtStopped 5 seq s)
  else if temp < -640 ∨ 2000 < temp then done (mgmtResp 5 seq 4 [] (mgmtRefuse 5 s))
  else done (mgmtResp 5 seq 0 [] { arrived srcCool s with tel := { s.tel with coolant := some (temp, s.time.up), coolNew := true } })

/-- UNKNOWN_COMMAND (R415, Table 15-12): a code that Table 15-13 does not list, or a length that disagrees with the command. -/
def execUnknownCommand (code seq : Nat) (wrongLength : Bool) (s0 : State) : Host.Outcome State Fault Refusal :=
  let s := fresh s0
  if !rpAlive s then done s
  else if holdOut s && !(decide (1 ≤ code ∧ code ≤ 4)) then done (mgmtStopped code seq s)
  else done (mgmtResp code seq (if wrongLength then 8 else 7) [] (mgmtRefuse code s))

/-! ### Timers -/

/-- MGMT_GAP_TIMEOUT (R301): a held command is older than GAP_MS. -/
def execMgmtGapTimeout (s0 : State) : Host.Outcome State Fault Refusal :=
  let s := fresh s0
  if running s && s.mgmt.held.any (fun h => decide (h.since + 1000 * bits (areg s 0x9090) 15 0 ≤ s.time.up)) then
    done (mgmtGap s)
  else done s

/-- HEARTBEAT_LOST (R302). -/
def execHeartbeatLost (s0 : State) : Host.Outcome State Fault Refusal :=
  let s := fresh s0
  if clocked s && isLive s && s.mgmt.state == 0 && decide (s.mgmt.lastUp + 2000000 ≤ s.time.up) then
    done (raise 10 0 (report 0xB004 0 { s with mgmt := { s.mgmt with state := 1 } }))
  else done s

/-- ORPHAN (R302). -/
def execOrphan (s0 : State) : Host.Outcome State Fault Refusal :=
  let s := fresh s0
  if clocked s && isLive s && s.mgmt.state == 1 && decide (s.mgmt.lastUp + 30000000 ≤ s.time.up) then
    done (raise 10 0 { s with mgmt := { s.mgmt with state := 2 } })
  else done s

end Sys2Proof.Machine
end

