-- ==== Sys2Proof/Machine/Tickets.lean ====
section
/-! DEFINITION. The ticket registers that start something: hand operations (R102), the latch of TKT_SEL (R79) and the class
table swap (R52). A row of Table 3-5 stands for the write of GO with the BOOTH, AGENT and HOLDER of TKT_SEL and the count of
TKT_HAND_ARG that it names, and for the refill boundary at which it takes effect. -/

namespace Sys2Proof.Machine

open Sys2Proof

/-- R102: a GO is ignored while DONE is 0; otherwise it latches its operation and clears DONE. -/
def handLatch (c : AgentCmd) (s : State) : State :=
  if !s.tk.cmdDone then s else { s with tk := { s.tk with cmd := some c, cmdDone := false } }

/-- A write of TKT_AGENT_CMD (Table 3-11). -/
def writeAgentCmd (priv : Nat) (w : Nat) (s : State) : State :=
  let s1 := putReg 0x2094 w s
  let sel := wreg s1 0x200C
  if w.testBit 31 then
    handLatch ⟨bits w 3 0, priv, bits sel 19 8, bits sel 7 0, bits (wreg s1 0x2098) 23 0⟩ s1
  else s1

/-- GO of one operation, and its boundary. Log 36 DESIGN CHOICE. -/
def handOp (op priv agent holder count : Nat) (s0 : State) : Host.Outcome State Fault Refusal :=
  done (rpWrite priv 0x2094 (fun s =>
    if !s.tk.cmdDone then s
    else
      let s1 := putReg 0x2094 op (putReg 0x2098 count (putReg 0x200C (agent * 256 + holder) s))
      handBoundary (handLatch ⟨op, priv, agent, holder, count⟩ s1)) (fresh s0))

/-- NONE (R102). -/
def execNoneOp (priv agent : Nat) (s : State) : Host.Outcome State Fault Refusal := handOp 0 priv agent 0 0 s
/-- HOLD (R102). -/
def execHold (priv agent : Nat) (s : State) : Host.Outcome State Fault Refusal := handOp 1 priv agent 0 0 s
/-- UNHOLD (R102). -/
def execUnhold (priv agent : Nat) (s : State) : Host.Outcome State Fault Refusal := handOp 2 priv agent 0 0 s
/-- ADD_POOL (R102). -/
def execAddPool (priv agent count : Nat) (s : State) : Host.Outcome State Fault Refusal := handOp 3 priv agent 0 count s
/-- DISCARD_POOL (R102). -/
def execDiscardPool (priv agent count : Nat) (s : State) : Host.Outcome State Fault Refusal :=
  handOp 4 priv agent 0 count s
/-- GRANT_HOLDER (R102). -/
def execGrantHolder (priv agent holder : Nat) (s : State) : Host.Outcome State Fault Refusal :=
  handOp 5 priv agent holder 0 s
/-- EXPIRE_HOLDER (R102). -/
def execExpireHolder (priv agent holder : Nat) (s : State) : Host.Outcome State Fault Refusal :=
  handOp 6 priv agent holder 0 s
/-- CLEAR_HOLDER (R102). -/
def execClearHolder (priv agent holder : Nat) (s : State) : Host.Outcome State Fault Refusal :=
  handOp 7 priv agent holder 0 s
/-- RESTORE (R98). -/
def execRestore (priv agent : Nat) (s : State) : Host.Outcome State Fault Refusal := handOp 8 priv agent 0 0 s
/-- FORCE_BYPASS (R102). -/
def execForceBypass (priv agent : Nat) (s : State) : Host.Outcome State Fault Refusal := handOp 9 priv agent 0 0 s

/-- A write of TKT_SEL (Table 2-10): LATCH waits for the next refill boundary, and takes what TKT_SEL holds there (R12); during a drain it extends the drain (R381). -/
def writeTktSel (w : Nat) (s : State) : State :=
  let s1 := putReg 0x200C w s
  if w.testBit 31 then
    { s1 with tk := { s1.tk with latchReq := true, latched := false },
              obs := if s1.obs.snap.state = 2 then
                { s1.obs with snap := { s1.obs.snap with extend := s1.obs.snap.extend + 64 } } else s1.obs }
  else s1

/-- TKT_SEL_LATCH (R79, R366). -/
def execTktSelLatch (priv : Nat) (data : Word) (s0 : State) : Host.Outcome State Fault Refusal :=
  done (rpWrite priv 0x200C (writeTktSel data.toNat) (fresh s0))

/-- A write of TKT_CLASS_DATA: the shadow table (R52, Table 2-13). -/
def writeClassData (w : Nat) (s : State) : State :=
  let sel := wreg s 0x202C
  { s with tk := { s.tk with shadow := tset 0 (2 * bits sel 7 0 + bits sel 8 8) w s.tk.shadow } }

/-- A write of TKT_CLASS_CTRL: SWAP waits for the next sample edge. -/
def writeClassCtrl (w : Nat) (s : State) : State :=
  if w.testBit 0 then { s with tk := { s.tk with swap := true } } else s

/-- TKT_CLASS_SWAP (R52). Log 32 DESIGN CHOICE. -/
def execTktClassSwap (priv : Nat) (s0 : State) : Host.Outcome State Fault Refusal :=
  done (rpWrite priv 0x2034 (writeClassCtrl 1) (fresh s0))

end Sys2Proof.Machine
end

