-- ==== Sys2Proof/Machine/Registers.lean ====
section
/-! DEFINITION. Writes through the Register Port (R14, R15, R400): what a write of any offset does, the key registers (R318),
and the host command slot (R401). -/

namespace Sys2Proof.Machine

open Sys2Proof

/-! ### Bits that a write clears -/

/-- The bits of `old` that a write of ones does not clear. -/
def clearBits (old w : Nat) : Nat := old - (old &&& w)

/-- CORE_FLAGS (Table 4-12). -/
def writeCoreFlags (w : Nat) (s : State) : State :=
  { s with core := { s.core with app := { s.core.app with flags := clearBits s.core.app.flags (w % 32) } } }

/-- CORE_SLOT_INFO: the flags of the selected slot. -/
def writeSlotInfo (w : Nat) (s : State) : State :=
  let i := bits (wreg s 0x300C) 5 0
  { s with core := { s.core with slotFlags := tmod 0 i (fun f => clearBits f (bits w 17 13)) s.core.slotFlags } }

/-- CTL_FLAGS (Table 6-9). -/
def writeCtlFlags (w : Nat) (s : State) : State :=
  { s with law := { s.law with duClip := s.law.duClip && !w.testBit 1, uSat := s.law.uSat && !w.testBit 0 } }

/-- CTL_LOOP_STATE: U_SAT and DU_CLIP of the selected instance. Log 105 DEDUCED. -/
def writeLoopState (w : Nat) (s : State) : State :=
  let i := bits (wreg s 0x500C) 9 0
  let f := fun (x : LoopSt) => { x with uSat := x.uSat && !w.testBit 29, duClip := x.duClip && !w.testBit 28 }
  let o := fun (x : CoreOut) => { x with law := { x.law with loops := tmod loopSt0 i f x.law.loops } }
  { s with core := { s.core with
    app := o s.core.app, out := o s.core.out,
    mem := { s.core.mem with law := { s.core.mem.law with loops := tmod loopSt0 i f s.core.mem.law.loops } } } }

/-- CORE_FREEZE (Table 4-16). -/
def writeFreeze (w : Nat) (s : State) : State :=
  let s1 := putReg 0x301C w s
  { s1 with core := { s1.core with freezeReq := w.testBit 31 } }

/-! ### The host command slot (R401) -/

/-- A write of HCMD_CMD posts a command; while the slot is busy it is ignored and sets OVERRUN. -/
def writeHcmd (w : Nat) (s : State) : State :=
  if s.port.posted.isSome then raise 14 1 { s with port := { s.port with overrun := true } }
  else { s with port := { s.port with posted := some (bits w 31 16, bits w 7 0) } }

/-! ### Every register -/

/-- A write, at a level that the checks of R400 have let, of the registers of chapters 02 to 08. -/
def writeLow (priv off w : Nat) (s : State) : State :=
  match off with
  | 0x200C => writeTktSel w s
  | 0x2030 => writeClassData w s
  | 0x2034 => writeClassCtrl w s
  | 0x2094 => writeAgentCmd priv w s
  | 0x3008 => writeCoreFlags w s
  | 0x3010 => writeSlotInfo w s
  | 0x301C => writeFreeze w s
  | 0x4014 => writeEstCmd w s
  | 0x5004 => writeCtlFlags w s
  | 0x5010 => writeLoopState w s
  | 0x5084 => writeSpt w s
  | 0x50C4 => writeScene w s
  | 0x6010 => writeHostCap w s
  | 0x6014 => writeHostPref w s
  | 0x704C => writeAgemon w s
  | 0x7060 => writeMarginCmd w s
  | _ => putReg off w s

/-- The same for the registers of chapters 09 to 16. -/
def writeHigh (off w : Nat) (s : State) : State :=
  match off with
  | 0x8010 => writeTarget w s
  | 0xA014 => writeLoadCtrl w s
  | 0xA01C => writeLoadData w s
  | 0xB028 => writeFaultCtrl false w s
  | 0xB040 => writeReh w s
  | 0xB048 => writeInj w s
  | 0xC00C => writePbCursor w s
  | 0xC014 => writePbCtrl w s
  | 0xD060 => writeOpCtrl w s
  | 0xD104 => writeTrcCtrl w s
  | 0xD108 => if (trcSel s).isSome then putReg off w s else s
  | 0xD10C => writeTrcWord off w s
  | 0xD110 => writeTrcWord off w s
  | 0xD114 => writeTrcWord off w s
  | 0xD118 => writeTrcWord off w s
  | 0xD124 => if (trcSel s).isSome then putReg off w s else s
  | 0xD188 => writeSnapCtrl w s
  | 0xE020 => writeHcmd w s
  | 0xE024 => { s with port := { s.port with overrun := s.port.overrun && !w.testBit 3 } }
  | _ =>
    if 0xA040 ≤ off ∧ off ≤ 0xA074 then writeKeyReg off w s
    else if 0xE000 ≤ off ∧ off ≤ 0xE01C then
      { s with port := { s.port with args := tset 0 ((off - 0xE000) / 4) w s.port.args } }
    else putReg off w s

/-- What a write of a word to an offset of the map does. -/
def regWrite (priv off w : Nat) (s : State) : State :=
  if 0x0080 ≤ off ∧ off ≤ 0x00F4 ∧ off % 8 = 0 then
    { s with regs := { s.regs with cause := tmod 0 ((off - 0x0080) / 8) (fun c => clearBits c w) s.regs.cause } }
  else if off < 0x8000 then writeLow priv off w s
  else writeHigh off w s

/-- R324: a word of a stream is not taken while a store has the flash: RP_READY stays low. Log 87 DESIGN CHOICE. -/
def portWaits (s : State) (off : Nat) : Bool := off == 0xA01C && streamOpen s && storeRuns s

/-- REGISTER_WRITE (R400). -/
def execRegisterWrite (priv offset : Nat) (data : Word) (s0 : State) : Host.Outcome State Fault Refusal :=
  let s := fresh s0
  if portWaits s offset then done s else done (rpWrite priv offset (regWrite priv offset data.toNat) s)

/-- KEY_REG_WRITE (R318). -/
def execKeyRegWrite (priv offset : Nat) (data : Word) (s : State) : Host.Outcome State Fault Refusal :=
  if 0xA040 ≤ offset ∧ offset ≤ 0xA074 then done (rpWrite priv offset (writeKeyReg offset data.toNat) (fresh s))
  else execRegisterWrite priv offset data s

/-! ### Host commands -/

/-- The bits of a register's RW fields. -/
def rwMask (off : Nat) : Nat :=
  if 0xE000 ≤ off ∧ off ≤ 0xE01C then allOnes
  else match off with
    | 0x2030 => allOnes
    | 0x5084 => 0xFFFF
    | 0x50C4 => allOnes
    | 0x704C => 0x80000000
    | 0xD104 => 0x08F03FFF
    | 0xD10C => 0x03FFFFFF
    | 0xD110 => 0xFF80FFFF
    | 0xD114 => 0xFFFF0000
    | 0xD118 => allOnes
    | _ => match regRow off with
      | some r => r.fields.foldl (fun m f => m ||| ((2 ^ (f.1 + 1 - f.2.1) - 1) <<< f.2.1)) 0
      | none => 0

/-- R401: a pair of APPLY names RW fields only, at system privilege. Log 107 DEDUCED. -/
def pairOk (p : Nat × Nat) : Bool :=
  (match regClass p.1 with
    | some c => mayWrite 1 c
    | none => false) &&
  rwMask p.1 != 0 && p.2 == p.2 &&& rwMask p.1

/-- The pairs of ARG1 to ARG6. -/
def applyPairs (args : Tab Nat) (n : Nat) : List (Nat × Nat) :=
  (List.range n).map (fun i => (tget 0 (2 * i + 1) args, tget 0 (2 * i + 2) args))

/-- The command that is posted, with a code. -/
def postedAs (s : State) (code : Nat) : Option Nat :=
  match s.port.posted with
  | some (seq, c) => if c = code && !lockout s && clocked s then some seq else none
  | none => none

/-- R401: NOP. -/
def hostNop (s : State) : State :=
  match postedAs s 0 with
  | some seq => hostDone seq 0 0 s.port.res s
  | none => s

/-- R401: APPLY: all of its pairs, or none with RESULT 2. Log 107 DEDUCED. -/
def hostApply (s : State) : State :=
  match postedAs s 1 with
  | none => s
  | some seq =>
    let n := tget 0 0 s.port.args
    let ps := applyPairs s.port.args n
    if 1 ≤ n ∧ n ≤ 3 ∧ ps.all pairOk = true then
      let s1 := ps.foldl (fun (x : State) p => regWrite 1 p.1 p.2 x) s
      hostDone seq 1 0 s1.port.res s1
    else hostDone seq 1 2 s.port.res s

/-- The Control Program runs (Table 4-12, RUNNING). -/
def programOn (s : State) : Bool := running s && s.core.running && !s.core.frozen

/-- R401: READ_CUT: what is published at the edge; RESULT 4 while the Control Program does not run. -/
def hostReadCut (s : State) : State :=
  match postedAs s 2 with
  | none => s
  | some seq =>
    if !programOn s then hostDone seq 2 4 s.port.res s
    else
      let rd := fun off => (regValue s 1 0 off).toNat
      let ws := [s.time.count % 2 ^ 32, s.time.count / 2 ^ 32 % 2 ^ 32, rd 0x4020, rd 0x401C, rd 0x6000, rd 0x8000,
        rd 0x9008, rd 0x6054]
      hostDone seq 2 0 (tbuild 0 (List.range 8) (fun i => ws.getD i 0)) s

/-- R401: STORE_ALL: the slot stays busy until both stores have ended. -/
def hostStoreAll (s : State) : State :=
  match postedAs s 3 with
  | none => s
  | some seq =>
    if s.port.storeAll.isSome then s
    else
      let s1 := storeBoth s
      storesEnd { s1 with port := { s1.port with storeAll := some seq } }

/-- Table 15-6: a reserved code. -/
def hostReserved (s : State) : State :=
  match s.port.posted with
  | some (seq, c) => if 3 < c && !lockout s then hostDone seq c 1 s.port.res s else s
  | none => s

/-- NOP (R401): the execution of a posted NOP at its edge. Log 108 DESIGN CHOICE. -/
def execNop (s : State) : Host.Outcome State Fault Refusal := done (hostNop (fresh s))
/-- APPLY (R401): the execution of a posted APPLY in the cycle before its edge. Log 108 DESIGN CHOICE. -/
def execApply (s : State) : Host.Outcome State Fault Refusal := done (hostApply (fresh s))
/-- READ_CUT (R401): the execution of a posted READ_CUT at its edge. -/
def execReadCut (s : State) : Host.Outcome State Fault Refusal := done (hostReadCut (fresh s))
/-- STORE_ALL (R401): the execution of a posted STORE_ALL at its edge. -/
def execStoreAll (s : State) : Host.Outcome State Fault Refusal := done (hostStoreAll (fresh s))

/-- R401: a command that is still posted at a sample edge is executed there. Log 108 DESIGN CHOICE. -/
def hostEdge (s : State) : State := hostReserved (hostStoreAll (hostReadCut (hostNop s)))

end Sys2Proof.Machine
end

