-- ==== Sys2Proof/Machine/Slots.lean ====
section
/-! DEFINITION. The rows SLOT_RUN (R107, R108, R114, R118) and OVERRUN (R119, R120), with what the trace buffers capture of a routine
(R371, capture mode 1). -/

namespace Sys2Proof.Machine

open Sys2Proof

/-! ### Captures of mode 1 -/

/-- The published register words that a routine has changed in O_k, as nodes of space 5: registers named by armed sources.
Log 102 DEDUCED. -/
def publishedWrites (old new : CoreOut) (s : State) : List (Nat × Nat) :=
  let see := fun (o : CoreOut) => ({ s with core := { s.core with app := o } } : State)
  ((trcSources s [1]).map (fun q => q.2.2.2)).eraseDups.filterMap (fun n =>
    if n / 2 ^ 20 = 5 ∧ trcNode (see old) n ≠ trcNode (see new) n then (trcNode (see new) n).map (fun v => (n, v)) else none)

/-- R371, R373: the words that a routine wrote, captured cycle by cycle; `old` is O_k before it. The cycle numbers are free values.
Log 102 DEDUCED. -/
def slotTrace (old : CoreOut) (r : Run) (s : State) : State :=
  if trcSources s [1] = [] then s
  else (r.writes.reverse ++ (publishedWrites old s.core.out s).map (fun p => [p])).foldl (fun x l =>
    trcCapture ((Config.freeWord x.free).toNat % 16384) [1] (fun n => tlook n l) { x with free := x.free + 1 }) s

/-! ### A routine that goes on, ends or stops -/

/-- R108: `n` corrected errors are counted and recorded. -/
def eccFixedN (inj : Bool) (n : Nat) (s : State) : State := times (eccFixed inj) n s

/-- R105: a thread's slot and program counter; a thread that idles has none. -/
def threadAt (th : Nat) (slot : Option Nat) (pc : Nat) (m : CoreMem) : CoreMem :=
  { m with threads := tmod thread0 th (fun t => { t with slot := slot, pc := pc }) m.threads }

/-- The place in program memory of the next instruction. -/
def nextPc (r : Run) : Nat := (r.rest.findSome? Todo.pc).getD 0

/-- The routine has run to its end: what it told of joins O_k, its C_z is in force (R140), and its thread idles. -/
def slotEnds (r : Run) (s : State) : State :=
  let mem : CoreMem := { r.mem with est := { r.mem.est with corr := r.told.corr.getD r.mem.est.corr } }
  slotTrace s.core.out r { s with core := { s.core with
    mem := threadAt r.thread none 0 mem, out := outTold r.slot r.told r.out, tasks := terase r.thread s.core.tasks,
    ran := s.core.ran ++ [r.slot] } }

/-- The routine is in progress: routines of other threads may run before it goes on (R118). -/
def slotGoesOn (r : Run) (s : State) : State :=
  slotTrace s.core.out r { s with core := { s.core with
    mem := threadAt r.thread (some r.slot) (nextPc r) r.mem, out := r.out,
    tasks := tins r.thread ⟨r.slot, r.rest, slotBase s r.slot, r.own, r.told⟩ s.core.tasks } }

/-- The routine stops for good, with nothing of its last piece. -/
def slotLost (r : Run) (s : State) : State :=
  { s with core := { s.core with
    mem := threadAt r.thread none 0 s.core.mem, tasks := terase r.thread s.core.tasks, ran := s.core.ran ++ [r.slot] } }

/-- R108: the checks of the words that a piece of a routine reads; where one is uncorrectable, class S, and the routine has no
effect from that word on; otherwise what follows. -/
def slotChecked (corr : Nat) (unc : Bool) (r : Run) (go : State → State) (s : State) : State :=
  let e := slotEcc r s
  let s1 := eccFixedN true e.1 (eccFixedN false corr e.2.2)
  if unc || e.2.1 then reportInj (!unc) 0x3002 0 (slotLost r s1) else go s1

/-- R119, R120: a routine stops before its end. What it wrote into memory stands, and every field of O_k that it wrote keeps the
value that is being applied. The first overrun of a sample counts towards the eight consecutive samples. -/
def slotStops (r : Run) (s : State) : State :=
  let first := decide (s.core.overran = [])
  let run := if first then s.core.overrunRun + 1 else s.core.overrunRun
  let s1 : State := { s with core := { s.core with
    mem := threadAt r.thread none 0 r.mem, out := outUndone (slotBase s r.slot) r.own s.core.app r.out,
    tasks := terase r.thread s.core.tasks, ran := s.core.ran ++ [r.slot], overran := s.core.overran ++ [r.slot],
    overruns := wrapAdd 16 s.core.overruns 1, overrunRun := run,
    slotOverruns := tmod 0 r.slot (fun c => wrapAdd 8 c 1) s.core.slotOverruns } }
  reportIf (first && run == 8) 0x3004 0 (raise 3 0 (report 0x3003 (r.slot : Int) (slotTrace s1.core.out r s1)))

/-- R119: the routines that an edge finds in progress have overrun; without the Control Program they are gone. -/
def overrunRest (s : State) : State :=
  if programRuns s then
    s.core.tasks.foldl (fun (x : State) t => slotStops (slotStart x t.2.slot) x) s
  else { s with core := tasksClear s.core }

/-! ### The rows -/

/-- SLOT_RUN (R107): the routine of a slot starts, or goes on, and runs to its end; or `steps` instructions of it run, so that
concurrent routines of other threads may come between them (R118). `corr` errors in the words that it reads are corrected; `unc`
says that a word that it reads has an uncorrectable one. Log 46 DESIGN CHOICE. -/
def execSlotRun (slot : Nat) (steps : Option Nat) (s0 : State) (corr : Nat := 0) (unc : Bool := false) :
    Host.Outcome State Fault Refusal :=
  let s := fresh s0
  if !slotReady s slot then done s
  else
    let r := slotRoutine s slot steps
    done (slotChecked corr unc r (if r.rest.isEmpty then slotEnds r else slotGoesOn r) s)

/-- OVERRUN (R119, R120): a routine stops after `n` more instructions. Log 46 DESIGN CHOICE. -/
def execOverrun (slot n : Nat) (s0 : State) (corr : Nat := 0) (unc : Bool := false) :
    Host.Outcome State Fault Refusal :=
  let s := fresh s0
  if !slotReady s slot then done s
  else
    let r := slotRoutine s slot (some n)
    done (slotChecked corr unc r (slotStops r) s)

end Sys2Proof.Machine
end

