-- ==== Sys2Proof/Machine/Edge.lean ====
section
/-! DEFINITION. The sample edge (R109 to R112, R25): what O_k applies, what I_k latches, freeze (R130), and the rows SAMPLE_EDGE
and LIVE (R308). -/

namespace Sys2Proof.Machine

open Sys2Proof

/-! ### When an edge falls (R24, R25) -/

/-- Samples that start in a tick interval, and ticks that a sample spans (Table 1-4). -/
def edgesPerTick (pSel : Nat) : Nat := if pSel = 0 then 4 else if pSel = 1 then 2 else 1
def ticksPerEdge (pSel : Nat) : Nat := 2 ^ (pSel - 2)

/-- The tick count and the tick, by `up`, that the next edge belongs to, and its index in it; none where no edge is due. An edge
falls at the generator's tick, which may be accepted or synthesised after it (Table 1-5). A sample in progress is never
shortened (R31). Log 21 DEDUCED. -/
def edgeDue (t : TimeSt) : Option (Nat × Nat × Nat) :=
  let m := ticksPerEdge t.pSel
  let from' := t.edgeUp + (if t.begun then m else 1)
  if !t.anyTick && !t.holdover then none
  else if from' ≤ t.up ∧ t.count % m = 0 then some (t.count, t.up, 0)
  else if t.subIdx + 1 < edgesPerTick t.pSel ∧ t.up ≤ t.edgeUp then
    some ((t.count + (t.edgeUp - t.up)) % 2 ^ 64, t.edgeUp, t.subIdx + 1)
  else if from' ≤ t.up + 1 ∧ (t.count + 1) % m = 0 then some ((t.count + 1) % 2 ^ 64, t.up + 1, 0)
  else none

/-- The sample number, a 64-bit value (R25). Log 21 DEDUCED. -/
def edgeNumber (pSel count idx : Nat) : Nat := (count / ticksPerEdge pSel * edgesPerTick pSel + idx) % 2 ^ 64

/-- R120: the sample's BCLK count against the subtick generator; `ticks` is what a lengthened sample spans (R31).
Log 22 DEDUCED. -/
def bclkOut (pSel ticks cycles : Nat) : Bool :=
  let n := if 2 < pSel then 1000 * ticks else periodNs pSel
  decide (100 * cycles < 98 * n) || decide (102 * n < 100 * cycles)

/-- The span in ns of the sample that an edge has ended; one of more than 1 µs may have been lengthened (R31). -/
def sampleSpan (t : TimeSt) : Nat := if 2 < t.pSel then 1000 * (t.up - t.edgeUp) else periodNs t.pSel

/-! ### What O_k gives (R110) -/

/-- R120, R22: BCLK over the sample that has ended. Log 22 DEDUCED, log 120 DEDUCED. -/
def bclkEdge (out : Bool) (s : State) : State :=
  let s1 : State := { s with
    core := { s.core with bclkRange := out },
    time := { s.time with lockRun := if out then 0 else s.time.lockRun } }
  reportIf (out && !s.core.bclkRange && !s.time.bclkBad) 0x1001 0 s1

/-- R128, R172: the sticky flags, and the faults of those that a sample has newly set. -/
def flagEdge (s : State) : State :=
  let c := s.core
  let old := c.app.flags
  let new := (List.range 5).filter (fun i => c.out.flags.testBit i && !old.testBit i)
  let u := c.out.law.uSat
  let d := c.out.law.duClip
  let s1 : State := { s with
    core := { c with slotFlags := c.out.slotFl.foldl (fun (t : Tab Nat) p => tset 0 p.1 (tget 0 p.1 t ||| p.2) t) c.slotFlags },
    law := { s.law with uSat := s.law.uSat || u, duClip := s.law.duClip || d } }
  reportAll (new.map (fun _ => ((0x3005 : Nat), (0 : Int))) ++
    (if u && !s.law.uSat then [(0x5001, 0)] else []) ++ (if d && !s.law.duClip then [(0x5001, 0)] else [])) s1

/-- R110, R435: the causes, faults, events and messages that the routines told of. Log 41 DEDUCED, log 118 DEDUCED. -/
def tellEdge (o : CoreOut) (s : State) : State :=
  let s1 := o.causes.foldl (fun (x : State) c => raise c.1 c.2 x) s
  let s2 := o.events.foldl (fun (x : State) e => event e.1 e.2 x) (reportAll o.reports s1)
  emitAll o.emits s2

/-- The alerts of an escalation that begins (R223, R289). -/
def escEdge (die pkg : Bool) (s : State) : State :=
  let s1 := if s.core.app.cap.esc && !die then raise 5 1 (dieEscAlert s) else s
  if s1.core.app.ledger.esc && !pkg && s1.pkg.role == 2 then raise 9 2 (pkgEscAlert s1) else s1

/-- R110: all of O_k passes to its consumers, when the Control Program ran in the sample that has ended. -/
def applyOut (s : State) : State :=
  let o := s.core.out
  let die := s.core.app.cap.esc
  let pkg := s.core.app.ledger.esc
  let s1 := flagEdge s
  let app : CoreOut := { o with flags := s.core.app.flags ||| o.flags, slotFl := [], causes := [], reports := [], events := [],
                                emits := [] }
  escEdge die pkg (tellEdge o (plausEdge { s1 with core := { s1.core with app := app } }))

/-! ### The consumers -/

/-- The rails, the clocks and the fabric at an edge whose outputs are live; `ran` says that O_k passed to them. -/
def driveEdge (ran : Bool) (s : State) : State :=
  if holdOut s then officeEdge s
  else officeEdge (clockEdge (railEdge (opEdge (if ran then some s.core.app.cap.opTarget else none) s)))

/-- R257 to R261 at an edge; `old` is the thermal state applied before. -/
def heatEdge (old : Nat) (ran : Bool) (s : State) : State :=
  if holdOut s then s else thermEdge old (ran && s.core.app.therm.forced) s

/-- R294: the power of the package over the sample that has ended. -/
def ziltEnergy (s : State) : State :=
  if s.pkg.role = 0 then s
  else { s with zilt := { s.zilt with
    energy := s.zilt.energy + sampleUJ (periodNs s.time.pSel) (pkgPower s.pb s.core.im) } }

/-- The package at an edge: R281's demand is that of the sample that has ended. -/
def packageEdge (s : State) : State :=
  let s1 := ziltEnergy s
  zltEdge (pkgEdge (dieDemand s1.pb s1.core.im s1.core.mem.law s1.core.app) s1)

/-! ### Freeze (R130) -/

/-- What ends a freeze at an edge besides REQ: FREEZE_MAX, a limit change or ramp step, Throttle, holdover, a fault of class D or
above since the last edge. Log 40 DEDUCED. -/
def freezeDone (s : State) : Bool := s.core.frozen && decide (max 1 (bits (areg s 0x301C) 15 0) ≤ s.core.frozenN)
/-- Log 40 DEDUCED. -/
def freezeBars (s : State) : Bool :=
  s.cap.changed || decide (2 ≤ s.core.app.therm.state) || s.time.holdover || s.core.faultSince

/-- The freeze as an edge latches it; a freeze that ends sets FREEZE_END. Log 40 DEDUCED. -/
def freezeEdge (s : State) : State :=
  let c := s.core
  let over' := freezeDone s
  let now := isLive s && !s.fault.safe && c.freezeReq && !over' && !freezeBars s
  raiseIf (c.frozen && !now) 3 1 { s with core := { c with
    freezeReq := c.freezeReq && !over', frozen := now, faultSince := false,
    frozenN := if now then (if c.frozen then c.frozenN + 1 else 1) else 0 } }

/-! ### The input image (R109, R111) -/

/-- The selectors as latched. A Scene that an edge has latched is used from the sample after the one that the edge starts
(R182). -/
def latchSel (s : State) : Sel :=
  let a := s.core.app
  { untrusted := a.est.untrusted, unverified := a.est.unverified, mode := a.cap.mode, region := a.law.region,
    thermal := a.therm.state, scene := s.law.scenePrev, authority := s.cap.auth, mgmt := s.mgmt.state, ramp := s.cap.ramp.isSome,
    holdover := s.time.holdover, frozen := s.core.frozen, rehearsal := s.fault.reh }

/-- The thermal sites as latched (R249). -/
def latchSites (s : State) : Tab SiteIn :=
  s.pb.therm.sites.map (fun p =>
    let x := tget siteSt0 p.1 s.therm.sites
    (p.1, { reading := x.reading, readId := x.readId, broken := decide (x.cause ≠ 0), age := ageEdges s (srcSite p.1) }))

/-- R109: the ages of the inputs that come less often than once a sample. -/
def latchAges (s : State) : Tab Nat :=
  (s.time.came.map Prod.fst).map (fun src => (src, ageEdges s src))

/-- R59, R211: the reported demand of each Booth and domain, in tickets per refill. Log 34 DEDUCED. -/
def latchDemand (s : State) : Tab Nat :=
  (bdKeys s).map (fun k =>
    (k, sumN (((bdAgents s k).filter (served s)).map (fun a => (tget officeAgent0 a s.tk.office).demand))))

/-- R97, R137: the fixed load of bypassed Agents among a list, in mW. Log 35 DEDUCED. -/
def bypLoad (s : State) (l : List (Nat × AgentCfg)) : Nat :=
  let r := sumN ((l.filter (fun (a : Nat × AgentCfg) => (agentOf s a.1).byp)).map (fun a => a.2.bypRate))
  (roundEven ((1000 * 2 ^ s.pb.cap.qSel * r : Nat) : Int) 1024).toNat

def bypDomains (s : State) : Tab Nat :=
  tbuild 0 (List.range 4) (fun d => bypLoad s (s.pb.agents.filter (fun a => a.2.dom = d)))
def bypBooths (s : State) : Tab Nat :=
  tbuild 0 (bdKeys s) (fun k => bypLoad s (s.pb.agents.filter (fun a => a.1 / 64 = k / 4 ∧ a.2.dom = k % 4)))

/-- A Scene change since the last sample that ran: another Scene, or a write to the current one (R182, R183). `wr` are the words
written at this edge. -/
def sceneChanged (wr : List (Nat × Nat)) (s : State) : Bool :=
  s.law.scenePrev != s.core.im.sel.scene || wr.any (fun p => p.1 / 2 == s.law.scenePrev) ||
    (!s.core.running && s.core.im.sceneNew)

/-- I_k. `run` says that the Control Program runs in the sample, `froze` how many samples it was frozen before. -/
def latchImage (run : Bool) (froze : Nat) (wr : List (Nat × Nat)) (s : State) : Image :=
  let c := s.core
  { k := s.time.k, up := s.time.up, q := s.time.edgeQ, count := s.time.count, pNs := periodNs s.time.pSel, qSel := s.pb.cap.qSel,
    sel := latchSel s, cfg := s.regs.act, act := s.tel.act, recs := s.tel.recs,
    failed := (boothKeys s).filter (boothFailed s), demand := latchDemand s, bypDom := bypDomains s, bypBd := bypBooths s,
    ages := latchAges s, tel := s.tel.sample, telTicks := telTicks s.time.pSel, edges := (s.time.edgeQ, run) :: c.edges,
    railV := s.law.railPrev, railNow := s.law.railV, sites := latchSites s,
    coolant := s.tel.coolant.map (fun x => (x.1, s.time.up - x.2)), coolNew := s.tel.coolNew, ord := s.ord, adv := c.adv,
    prevPos := imgPos c.im,
    trip := decide (0 < s.margin.events), cues := s.law.cueBuf, cueOld := s.law.cueOld, scene := s.law.scene, sceneNew := sceneChanged wr s,
    opF := s.law.opF, opV := s.law.opV, cap := s.cap, rampStep := s.cap.rampStep, holdover := s.time.holdover,
    holdPct := holdoverEff s, holdChanged := s.time.holdover != c.holdoverLast, orphan := s.mgmt.state == 2,
    alloc := s.pkg.alloc, donorWait := s.pkg.wait, isSM := s.pkg.role == 2, guard := s.margin.guard,
    dies := s.pkg.dies, fleet := (fleetW s).map (1000 * ·), ledger := s.pkg.led, barred := s.pkg.barred.isSome,
    thr := thrNow s, thmTarget := thmTargetOf (thrNow s) (areg s 0x8010), coolHold := s.therm.coolFault || s.therm.leakHold,
    coolWarn := s.therm.coolFault || s.therm.leakFault, hostLvl := bits (areg s 0x801C) 3 0, mgmtLvl := s.therm.mgmtLvl,
    enf := if s.therm.enforcing then some s.therm.cEnf else none, enfHost := s.therm.enfHost,
    overrunLast := c.overrunLast, overrunSlot := c.overrunSlot, froze := froze, resumed := c.resumed }

/-- MODE, AUTH and ALLOW of event 0xE005. -/
def modeWord (c : CapCfg) (im : Image) : Nat := im.sel.mode * 16 + im.cap.auth * 8 + modeAllow c im

/-- The sample begins: I_k is latched, and what came only for it is taken. Where the Control Program does not run, activity,
telemetry waits for the next sample in which it does (R144), and so do activity and records in a freeze (R130); the Cue buffer is
emptied at each edge (R193). Log 55 DEDUCED. -/
def latchEdge (run : Bool) (froze : Nat) (wr : List (Nat × Nat)) (s : State) : State :=
  let im := latchImage run froze wr s
  let old := modeWord s.pb.cap s.core.im
  let new := modeWord s.pb.cap im
  let hold := s.core.frozen
  let out : CoreOut := { s.core.app with flags := 0, slotFl := [], causes := [], reports := [], events := [], emits := [],
                                         law := { s.core.app.law with uSat := false, duClip := false } }
  let s1 : State := { s with
    core := { s.core with
      mem := if run then { s.core.mem with est := thetaCommit s.core.mem.est } else { s.core.mem with
        cap := capIdle im (if im.isSM then some (pkgPower s.pb im) else none) s.core.mem.cap },
      im := im, out := out, running := run, ran := [], overran := [], resumed := false, holdoverLast := s.time.holdover,
      edges := im.edges.take 256 },
    tel := { s.tel with act := if hold then s.tel.act else [], recs := if hold then s.tel.recs else [],
                        sample := if run then none else s.tel.sample },
    law := { s.law with cueBuf := [], cueOld := if run then [] else s.law.cueOld },
    cap := { s.cap with prev := s.cap.val, rampStep := false, changed := false },
    pkg := { s.pkg with led := { s.pkg.led with stay := if run then [] else s.pkg.led.stay } } }
  if s.core.edges ≠ [] ∧ old ≠ new then event 0xE005 (new : Int) s1 else s1

/-! ### The ordinal, and what overran (R34, R37, R38, R119) -/

/-- The ordinal as an edge latches it: a sample with a beat is active. -/
def ordinalEdge (s : State) : State :=
  let o := s.ord
  { s with ord := { o with active := if o.beat then o.active + 1 else o.active, stalled := !o.beat, lastEdge := o.last },
           core := { s.core with adv := (o.adv :: s.core.adv).take 16 } }

/-- The counts of the sample that begins. Step starts that a sample without the Control Program latches wait for the next one
with it. Log 24 DESIGN CHOICE. -/
def ordinalClear (s : State) : State :=
  { s with ord := { s.ord with adv := 0, beat := false, marks := if s.core.running then [] else s.ord.marks } }

/-- OVERRUN_LAST and the lowest slot that overran (R119); a sample without an overrun ends their run (R120). -/
def overrunEdge (s : State) : State :=
  let l := s.core.overran
  { s with core := { s.core with
    overrunLast := decide (l ≠ []), overrunSlot := minN 63 l, srState := s.core.mem.lfsr,
    overrunRun := if l = [] then 0 else s.core.overrunRun } }

/-! ### The edge -/

/-- R308: the Control Program runs its first sample: every site has a reading or is broken, and the generator has locked or
1 ms of SETTLE has passed. -/
def settled (s : State) : Bool :=
  s.pb.therm.sites.all (fun p =>
    let x := tget siteSt0 p.1 s.therm.sites
    x.reading.isSome || decide (x.cause ≠ 0)) &&
  (s.time.locked || decide (s.start.settleUp + 1000 ≤ s.time.up))

/-- Whether the Control Program runs in the sample that an edge begins, once its freeze and a recovery are known. -/
def runsNext (s : State) : Bool :=
  !s.start.testMode && !s.core.frozen &&
    (if isLive s then !s.fault.safe || s.core.resumed else s.start.state == 8 && !s.fault.safe && settled s)

/-- Before O_k passes: posted APPLY, the end of the safe state, the registers that take effect, the counts of the sample that has
ended, and the frames of its bus time. `out` says that its BCLK count was out of range, `dropped` how many package messages were.
Log 18 DESIGN CHOICE. -/
def edgeBegin (out : Bool) (dropped : Nat) (s : State) : State :=
  let s1 := targetKeep (bookClear (hostApply s))
  let s2 : State := { s1 with
    regs := { s1.regs with act := s1.regs.wr }, law := { s1.law with railPrev := s1.law.railV },
    pkg := { s1.pkg with late := wrapAdd 8 s1.pkg.late dropped } }
  friDrain (vrefEdge (sampleSpan s.time) (overrunEdge (ordinalEdge (bclkEdge out (resumeEdge (overrunRest s2))))))

/-- O_k passes, the other writers of an edge act, and the consumers follow. Log 18 DESIGN CHOICE. -/
def edgeApply (ran : Bool) (s : State) : State :=
  let old := s.core.app.therm.state
  let s1 := if ran then applyOut s else s
  let s2 := estCmdEdge (mgmtEdge s1)
  let s3 := heatEdge old ran (marginEdge s2)
  packageEdge (droopEdge (driveEdge ran (sceneEdge s3)))

/-- The sample that begins: Rehearsal, a recovery, freeze, the image, and what observes the edge. Log 18 DESIGN CHOICE. -/
def edgeEnd (wr : List (Nat × Nat)) (s : State) : State :=
  let s1 := recoverEdge (rehEdge (snapEdge s))
  let froze := s1.core.frozenN
  let was := s1.core.frozen
  let s2 := freezeEdge s1
  let run := runsNext s2
  let s3 := if images s2 then latchEdge run (if was && !s2.core.frozen then froze else 0) wr s2
    else { s2 with core := { s2.core with running := run } }
  hostEdge (trcEdge (trcArmEdge (ordinalClear (marginDue s3.time.k s3))))

/-- One sample edge at tick count `c`, tick `u` by `up`, index `i`. Log 18 DESIGN CHOICE. -/
def edgeAt (c u i : Nat) (out : Bool) (dropped : Nat) (s : State) : State :=
  let t := s.time
  let ran := programRuns s
  let s1 : State := { s with time := { t with count := c, up := u, k := edgeNumber t.pSel c i, edgeQ := 4 * u + gridQ t * i } }
  let s2 := edgeBegin out dropped s1
  let wr := s2.law.sceneWr
  let s3 := edgeEnd wr (edgeApply ran s2)
  { s3 with time := { s3.time with count := t.count, up := t.up, subIdx := i, edgeUp := u, begun := true, edgeN := t.edgeN + 1 } }

/-- R308: the outputs go live: what LIVE sets besides the edge itself. The die joins its package with no allocation (R299). -/
def goLive (s : State) : State :=
  let s1 : State := coolStart { s with
    start := { s.start with state := 9, live := true, partIdLatched := true, streaming := false },
    fault := { s.fault with errFault := false },
    pkg := { s.pkg with liveUp := s.time.up, alloc := some 0, wait := true },
    mgmt := { s.mgmt with lastUp := s.time.up } }
  let s2 := if s1.time.locked then s1 else holdoverEnter s1
  let s3 := raiseIf (s.start.causeCode == 2) 8 1 (raise 11 0 s2)
  if s.start.streaming then loaderEnd 0 s3 else s3

/-- The edge ends the first sample in which the Control Program ran. Log 21 DEDUCED. -/
def liveDue (s : State) : Bool := s.start.state == 8 && programRuns s

/-- An edge that is due, whatever it ends. Log 21 DEDUCED. -/
def edgeStep (cycles : Option Nat) (dropped : Nat) (s : State) : State :=
  if !clocked s || s.start.state == 0 then s
  else match edgeDue s.time with
    | none => s
    | some (c, u, i) =>
      let out := match cycles with
        | some n => decide (s.core.edges ≠ []) && bclkOut s.time.pSel (u - s.time.edgeUp) n
        | none => false
      edgeAt c u i out dropped (if liveDue s then goLive s else s)

/-- SAMPLE_EDGE (R110): the BCLK cycles of the sample that has ended, and the package messages that were not accepted in it
(R419). -/
def execSampleEdge (cycles dropped : Nat) (s : State) : Host.Outcome State Fault Refusal :=
  done (edgeStep (some cycles) dropped (fresh s))

/-- LIVE (R308): the edge that ends the first sample in which the Control Program ran. -/
def execLive (s0 : State) : Host.Outcome State Fault Refusal :=
  let s := fresh s0
  if liveDue s then done (edgeStep none 0 s) else done s

end Sys2Proof.Machine
end

