-- ==== Sys2Proof/Machine/Ports.lean ====
section
/-! DEFINITION. The management port below the vendor messages: I3C (R411), MCTP control (R412) and PLDM (R413). Answers whose
bytes another standard fixes are constants of Config. -/

namespace Sys2Proof.Machine

open Sys2Proof

/-! ### I3C (R411) -/

/-- The target acts once the block has left RESET. Log 111 DESIGN CHOICE. -/
def i3cDo (f : State → State) (s0 : State) : Host.Outcome State Fault Refusal :=
  let s := fresh s0
  done (if rpAlive s then f s else s)

/-- What the target returns to a CCC. Log 17 DESIGN CHOICE, log 70 PRESUMED, log 111 DESIGN CHOICE. -/
def ccc (code : Nat) (data : List Nat) (s : State) : State := emit (.ccc code data) s

/-- ENTDAA: the dynamic address, where the target has none. -/
def execEntdaa (address : Nat) (s : State) : Host.Outcome State Fault Refusal :=
  i3cDo (fun s => if s.port.da.isNone then { s with port := { s.port with da := some (address % 128) } } else s) s

/-- SETDASA: the dynamic address from the static one, where the build has one. -/
def execSetdasa (static address : Nat) (s : State) : Host.Outcome State Fault Refusal :=
  i3cDo (fun s => if s.port.da.isNone && s.par.i3cStatic != 0 && static == s.par.i3cStatic then
    { s with port := { s.port with da := some (address % 128) } } else s) s

/-- RSTDAA. -/
def execRstdaa (s : State) : Host.Outcome State Fault Refusal :=
  i3cDo (fun s => { s with port := { s.port with da := none } }) s

/-- ENEC. -/
def execEnec (mask : Nat) (s : State) : Host.Outcome State Fault Refusal :=
  i3cDo (fun s => { s with port := { s.port with events := s.port.events ||| mask % 256 } }) s

/-- DISEC. -/
def execDisec (mask : Nat) (s : State) : Host.Outcome State Fault Refusal :=
  i3cDo (fun s => { s with port := { s.port with events := s.port.events - (s.port.events &&& mask) } }) s

/-- GETPID: the provisional ID, formed from build parameters. -/
def execGetPid (s : State) : Host.Outcome State Fault Refusal :=
  i3cDo (fun s => ccc 0x8D (Config.standardBytes 0x308D s.par.i3cPidInst) s) s

/-- GETBCR. -/
def execGetBcr (s : State) : Host.Outcome State Fault Refusal := i3cDo (ccc 0x8E (Config.standardBytes 0x308E 0)) s
/-- GETDCR. -/
def execGetDcr (s : State) : Host.Outcome State Fault Refusal := i3cDo (ccc 0x8F (Config.standardBytes 0x308F 0)) s
/-- GETSTATUS of I3C: its bits depend on the traffic of the bus. -/
def execI3cGetStatus (s : State) : Host.Outcome State Fault Refusal :=
  i3cDo (fun s => ccc 0x90 (Config.standardBytes 0x3090 s.free) { s with free := s.free + 1 }) s

/-- SETMWL: up to 69 bytes. -/
def execSetMwl (length : Nat) (s : State) : Host.Outcome State Fault Refusal :=
  i3cDo (fun s => { s with port := { s.port with mwl := min 69 length } }) s
/-- GETMWL: the length, high byte first. -/
def execGetMwl (s : State) : Host.Outcome State Fault Refusal :=
  i3cDo (fun s => ccc 0x8B [s.port.mwl / 256, s.port.mwl % 256] s) s
/-- SETMRL: up to 69 bytes. -/
def execSetMrl (length : Nat) (s : State) : Host.Outcome State Fault Refusal :=
  i3cDo (fun s => { s with port := { s.port with mrl := min 69 length } }) s
/-- GETMRL: the length, high byte first. -/
def execGetMrl (s : State) : Host.Outcome State Fault Refusal :=
  i3cDo (fun s => ccc 0x8C [s.port.mrl / 256, s.port.mrl % 256] s) s

/-- RSTACT: a Target Reset Action resets the I3C target logic only. -/
def execRstact (s : State) : Host.Outcome State Fault Refusal :=
  i3cDo (fun s => { s with port := { s.port with da := none, events := 0, mwl := 69, mrl := 69 } }) s

/-! ### MCTP control (R412, R414) -/

/-- Log 17 DESIGN CHOICE, log 70 PRESUMED. -/
def mctp (cmd cc : Nat) (data : List Nat) (s : State) : State := emit (.mctp cmd cc data) s

/-- SET_ENDPOINT_ID: the null and the broadcast ID are no endpoint's. -/
def execSetEndpointId (eid : Nat) (s : State) : Host.Outcome State Fault Refusal :=
  i3cDo (fun s =>
    if eid % 256 = 0 ∨ eid % 256 = 255 then mctp 1 2 [] s
    else mctp 1 0 (0 :: eid % 256 :: [0]) { s with port := { s.port with eid := eid % 256 } }) s

/-- GET_ENDPOINT_ID. -/
def execGetEndpointId (s : State) : Host.Outcome State Fault Refusal :=
  i3cDo (fun s => mctp 2 0 (s.port.eid :: Config.standardBytes 0x1002 0) s) s

/-- GET_ENDPOINT_UUID. -/
def execGetEndpointUuid (s : State) : Host.Outcome State Fault Refusal :=
  i3cDo (fun s => mctp 3 0 (Config.standardBytes 0x1003 0) s) s

/-- GET_MCTP_VERSION_SUPPORT. -/
def execGetMctpVersionSupport (type : Nat) (s : State) : Host.Outcome State Fault Refusal :=
  i3cDo (fun s => mctp 4 0 (Config.standardBytes 0x1004 type) s) s

/-- GET_MESSAGE_TYPE_SUPPORT: PLDM and vendor defined, beside control. -/
def execGetMessageTypeSupport (s : State) : Host.Outcome State Fault Refusal :=
  i3cDo (mctp 5 0 [2, 0x01, 0x7F]) s

/-- GET_VENDOR_DEFINED_MESSAGE_SUPPORT: one vendor ID set, which carries IANA_PEN, its high byte first. -/
def execGetVendorDefinedMessageSupport (selector : Nat) (s : State) : Host.Outcome State Fault Refusal :=
  i3cDo (fun s =>
    if selector = 0 then mctp 6 0 (0xFF :: 0x01 :: ((leBytes 4 s.par.ianaPen).reverse ++ Config.standardBytes 0x1006 0)) s
    else mctp 6 2 [] s) s

/-- MCTP_REASSEMBLY_TIMEOUT: a message is discarded and counted: its packets have stopped for 100 ms, or it carries the
integrity-check bit, exceeds 256 bytes, or carries another enterprise number (R414). Log 79 DEDUCED. -/
def execMctpReassemblyTimeout (s : State) : Host.Outcome State Fault Refusal :=
  i3cDo (fun s => { s with port := { s.port with mctpDrop := wrapAdd 8 s.port.mctpDrop 1 } }) s

/-- R411, R412: the in-band interrupt by which the block signals that a message awaits reading: while the controller has enabled
interrupts and given an address. -/
def ibiSignal (s : State) : Bool :=
  s.port.da.isSome && s.port.events.testBit 0 && s.out.any (fun e => match e with
    | .resp _ _ _ _ => true
    | .alert _ _ _ => true
    | .mctp _ _ _ => true
    | .pldm _ _ _ _ => true
    | _ => false)

/-! ### PLDM (R413) -/

/-- Log 17 DESIGN CHOICE, log 70 PRESUMED. -/
def pldm (type cmd cc : Nat) (data : List Nat) (s : State) : State := emit (.pldm type cmd cc data) s

/-- GETTID. -/
def execGetTid (s : State) : Host.Outcome State Fault Refusal :=
  i3cDo (fun s => pldm 0 2 0 (Config.standardBytes 0x2002 0) s) s

/-- GETPLDMVERSION. -/
def execGetPldmVersion (type : Nat) (s : State) : Host.Outcome State Fault Refusal :=
  i3cDo (fun s => pldm 0 3 0 (Config.standardBytes 0x2003 type) s) s

/-- GETPLDMTYPES: types 0 and 2. -/
def execGetPldmTypes (s : State) : Host.Outcome State Fault Refusal :=
  i3cDo (pldm 0 4 0 [5, 0, 0, 0, 0, 0, 0, 0]) s

/-- The commands of a PLDM type. Log 70 PRESUMED. -/
def pldmCmds (type : Nat) : List Nat := if type = 0 then [2, 3, 4, 5] else if type = 2 then [0x11, 0x21, 0x50, 0x51] else []

/-- GETPLDMCOMMANDS: one bit for each command, in 32 bytes. -/
def execGetPldmCommands (type : Nat) (s : State) : Host.Outcome State Fault Refusal :=
  i3cDo (pldm 0 5 (if pldmCmds type = [] then 0x83 else 0)
    (if pldmCmds type = [] then [] else leBytes 32 (sumN ((pldmCmds type).map (fun c => 2 ^ c))))) s

/-- R265: the hottest pair value; none while no pair has a sensor that works. -/
def hottestPair (c : CurtSt) : Option Int :=
  match (List.range 8).filterMap (pairValue c) with
  | [] => none
  | x :: r => some (maxI x (x :: r))

/-- Table 15-10: a numeric sensor, in mW, 1/16 °C or µJ. -/
def sensorValue (s : State) (sensor : Nat) : Option Int :=
  match sensor with
  | 1 => some (s.core.app.est.pCtl : Int)
  | 2 => some s.core.app.therm.tTh
  | 3 => hottestPair s.curt
  | 4 => some ((s.tel.eMeas / 65536 : Nat) : Int)
  | _ => none

/-- GETSENSORREADING: the reading, or no reading where no pair has one; another sensor is an invalid sensor ID. -/
def execGetSensorReading (sensor : Nat) (s : State) : Host.Outcome State Fault Refusal :=
  i3cDo (fun s => match sensorValue s sensor with
    | some v => pldm 2 0x11 0 (leBytes 8 (twos 64 v)) s
    | none => if sensor = 3 then pldm 2 0x11 0 (Config.standardBytes 0x2211 3) s else pldm 2 0x11 0x80 [] s) s

/-- GETSTATESENSORREADINGS: the thermal state, and the class of the open fault record. -/
def execGetStateSensorReadings (sensor : Nat) (s : State) : Host.Outcome State Fault Refusal :=
  i3cDo (fun s =>
    if sensor = 5 then pldm 2 0x21 0 [s.core.app.therm.state] s
    else if sensor = 6 then pldm 2 0x21 0 [s.fault.cls] s
    else pldm 2 0x21 0x80 [] s) s

/-- GETPDRREPOSITORYINFO: one PDR for each sensor. -/
def execGetPdrRepositoryInfo (s : State) : Host.Outcome State Fault Refusal :=
  i3cDo (fun s => pldm 2 0x50 0 (6 :: Config.standardBytes 0x2250 0) s) s

/-- GETPDR. -/
def execGetPdr (record : Nat) (s : State) : Host.Outcome State Fault Refusal :=
  i3cDo (fun s => pldm 2 0x51 0 (Config.standardBytes 0x2251 record) s) s

/-- UNSUPPORTED_PLDM_CMD: ERROR_UNSUPPORTED_PLDM_CMD. -/
def execUnsupportedPldmCmd (type cmd : Nat) (s : State) : Host.Outcome State Fault Refusal :=
  i3cDo (pldm type cmd 5 []) s

end Sys2Proof.Machine
end

