-- ==== Sys2Proof/Machine/TestPort.lean ====
section
/-! DEFINITION. The test access port (R422, R445, R446). -/

namespace Sys2Proof.Machine

open Sys2Proof

/-- R445: the private instructions. -/
def privateIr (n : Nat) : Bool := decide (0x10 ≤ n ∧ n ≤ 0x14)

/-- R446: the instructions that leave the block-supply state undefined. -/
def spoilIr (n : Nat) : Bool := n == 0x10 || n == 0x12

/-- R446: the block stays in stage 0 until HRST_N. Log 109 DEDUCED. -/
def spoil (s : State) : State :=
  { s with start := { s.start with undef := true, state := 0, live := false },
           fault := { s.fault with errFault := true }, core := { s.core with running := false } }

/-- R422: the hold outputs and the error pair while a private instruction is selected. -/
def testHold (s : State) : State :=
  let s1 := if holdOut s then s else holdDrive s
  { s1 with start := { s1.start with testMode := true }, fault := { s1.fault with errFault := true },
            core := { s1.core with running := false } }

/-- The last private instruction has been left: the pair shows what the block is. Log 109 DEDUCED. -/
def testLeave (s : State) : State :=
  let s1 : State := { s with start := { s.start with testMode := false } }
  { s1 with fault := { s1.fault with errFault := !running s1 } }

/-- An instruction is selected. Log 109 DEDUCED. -/
def selectIr (n : Nat) (s : State) : State :=
  let old := s.port.ir
  let s1 : State := { s with port := { s.port with ir := n } }
  let s2 := if spoilIr old && old != n then spoil s1 else s1
  if privateIr n then testHold s2
  else if s2.start.testMode then testLeave s2 else s2

/-- The data register of the selected instruction. Log 17 DESIGN CHOICE, log 110 DESIGN CHOICE. -/
def tapOut (data : List Nat) (s : State) : State := emit (.tap s.port.ir data) s

/-- The IDCODE word (R445). -/
def idcode (p : Params) : Nat := numOf [(31, 28, 3), (27, 12, 0x5452), (11, 1, p.idcodeMfr), (0, 0, 1)]

/-- TAP_IDCODE (R445). -/
def execTapIdcode (s0 : State) : Host.Outcome State Fault Refusal :=
  let s := selectIr 0x01 (fresh s0)
  done (tapOut (leBytes 4 (idcode s.par)) s)

/-- SAMPLE_PRELOAD (R445): the boundary register; its order is not in the manual. -/
def execSamplePreload (s0 : State) : Host.Outcome State Fault Refusal :=
  let s := selectIr 0x02 (fresh s0)
  done (tapOut (Config.standardBytes 0x4002 s.free) { s with free := s.free + 1 })

/-- TAP_BYPASS (R445): one bit, which captures 0. -/
def execTapBypass (s0 : State) : Host.Outcome State Fault Refusal := done (tapOut [0] (selectIr 0xFF (fresh s0)))

/-- MBIST_RUN (R446). -/
def execMbistRun (s0 : State) : Host.Outcome State Fault Refusal :=
  let s := selectIr 0x10 (fresh s0)
  done (tapOut [1] { s with port := { s.port with mbistBusy := true, mbistDone := false } })

/-- MBIST_DONE (R445): the result of a run that is in progress. -/
def execMbistDone (result : Word) (s0 : State) : Host.Outcome State Fault Refusal :=
  let s := fresh s0
  if s.port.mbistBusy then
    done { s with port := { s.port with mbistBusy := false, mbistDone := true, mbistResult := result } }
  else done s

/-- MBIST_RESULT (R445). -/
def execMbistResult (s0 : State) : Host.Outcome State Fault Refusal :=
  let s := selectIr 0x11 (fresh s0)
  done (tapOut (leBytes 4 s.port.mbistResult.toNat) s)

/-- SCAN_BLOCK (R446): what the chains hold is not in the manual. -/
def execScanBlock (s0 : State) : Host.Outcome State Fault Refusal :=
  let s := selectIr 0x12 (fresh s0)
  done (tapOut (Config.standardBytes 0x4012 s.free) { s with free := s.free + 1 })

/-- The parameters of Table 17-4 in its order, without the digest. Log 110 DESIGN CHOICE. -/
def paramImage (p : Params) : List Nat :=
  [p.build, p.patch, p.keySource, p.secRelease, twos 16 p.curtWired, p.safeFreq, p.safeVolt, p.safeRails, p.i3cStatic,
    p.i3cPidInst, p.dbpVendor, p.ianaPen, p.idcodeMfr]

/-- PARAM_READ (R445). -/
def execParamRead (s0 : State) : Host.Outcome State Fault Refusal :=
  let s := selectIr 0x13 (fresh s0)
  done (tapOut (paramImage s.par) s)

/-- CURT_PAIR_ST of a pair. -/
def pairSt (s : State) (p : Nat) : Nat :=
  readTherm { s with regs := { s.regs with wr := tset 0 0x808C p s.regs.wr } } 0x8094

/-- AO_MIRROR (R445): CURT_STATUS and CURT_PAIR_ST of every pair. -/
def execAoMirror (s0 : State) : Host.Outcome State Fault Refusal :=
  let s := selectIr 0x14 (fresh s0)
  done (tapOut (leBytes 4 (readTherm s 0x8080) ++ (List.range 8).flatMap (fun p => leBytes 4 (pairSt s p))) s)

end Sys2Proof.Machine
end

