-- ==== Sys2Proof/Machine/Dispatch.lean ====
section
/-! DEFINITION. The effect of every command on everything but the queue: one arm per row of spec/opcode_table.json. -/

namespace Sys2Proof.Machine

open Sys2Proof

def exec (i : Instr) (s : State) : Host.Outcome State Fault Refusal :=
  match i with
  | .tick refNs epoch bclk phase aoclk filtered => Sys2Proof.Machine.execTick refNs epoch bclk phase aoclk s filtered
  | .tickWindowClose refNs => Sys2Proof.Machine.execTickWindowClose refNs s
  | .sampleEdge cycles dropped => Sys2Proof.Machine.execSampleEdge cycles dropped s
  | .slotRun slot steps corr unc => Sys2Proof.Machine.execSlotRun slot steps s corr unc
  | .overrun slot n corr unc => Sys2Proof.Machine.execOverrun slot n s corr unc
  | .freezeMaxExpiry => Sys2Proof.Machine.execFreezeMaxExpiry s
  | .ordinalBeat oo step scene ctx => Sys2Proof.Machine.execOrdinalBeat oo step scene ctx s
  | .stepTimeout => Sys2Proof.Machine.execStepTimeout s
  | .refill => Sys2Proof.Machine.execRefill s
  | .refillMessage booth late => Sys2Proof.Machine.execRefillMessage booth late s
  | .give agent late => Sys2Proof.Machine.execGive agent late s
  | .agentReport agent late => Sys2Proof.Machine.execAgentReport agent late s
  | .boothReportSummary booth late => Sys2Proof.Machine.execBoothReportSummary booth late s
  | .resync agent => Sys2Proof.Machine.execResync agent s
  | .tkReq agent holder cls cost ret ecc => Sys2Proof.Machine.execTkReq agent holder cls cost ret ecc s
  | .tkRet agent holder amount => Sys2Proof.Machine.execTkRet agent holder amount s
  | .grantDecision agent ps busy ctx taps req ecc => Sys2Proof.Machine.execGrantDecision agent ps busy ctx taps req s ecc
  | .reserveAge agent holder => Sys2Proof.Machine.execReserveAge agent holder s
  | .deschedHint agent holder => Sys2Proof.Machine.execDeschedHint agent holder s
  | .forcedExpiry agent holder => Sys2Proof.Machine.execForcedExpiry agent holder s
  | .engRstAssert agent => Sys2Proof.Machine.execEngRstAssert agent s
  | .engRstRelease agent => Sys2Proof.Machine.execEngRstRelease agent s
  | .giveWatchdogExpiry agent => Sys2Proof.Machine.execGiveWatchdogExpiry agent s
  | .boothReportTimeout booth => Sys2Proof.Machine.execBoothReportTimeout booth s
  | .noneOp priv agent => Sys2Proof.Machine.execNoneOp priv agent s
  | .hold priv agent => Sys2Proof.Machine.execHold priv agent s
  | .unhold priv agent => Sys2Proof.Machine.execUnhold priv agent s
  | .addPool priv agent count => Sys2Proof.Machine.execAddPool priv agent count s
  | .discardPool priv agent count => Sys2Proof.Machine.execDiscardPool priv agent count s
  | .grantHolder priv agent holder => Sys2Proof.Machine.execGrantHolder priv agent holder s
  | .expireHolder priv agent holder => Sys2Proof.Machine.execExpireHolder priv agent holder s
  | .clearHolder priv agent holder => Sys2Proof.Machine.execClearHolder priv agent holder s
  | .restore priv agent => Sys2Proof.Machine.execRestore priv agent s
  | .forceBypass priv agent => Sys2Proof.Machine.execForceBypass priv agent s
  | .tktSelLatch priv data => Sys2Proof.Machine.execTktSelLatch priv data s
  | .tktClassSwap priv => Sys2Proof.Machine.execTktClassSwap priv s
  | .activityRecord booth slot ctx sample window taps => Sys2Proof.Machine.execActivityRecord booth slot ctx sample window taps s
  | .railResponse rail frame sync => Sys2Proof.Machine.execRailResponse rail frame sync s
  | .telemetryTimeout => Sys2Proof.Machine.execTelemetryTimeout s
  | .trustLost => Sys2Proof.Machine.execTrustLost s
  | .trustRegained => Sys2Proof.Machine.execTrustRegained s
  | .unverified => Sys2Proof.Machine.execUnverified s
  | .siteImplausible site => Sys2Proof.Machine.execSiteImplausible site s
  | .coldMajority => Sys2Proof.Machine.execColdMajority s
  | .coldMajorityClear => Sys2Proof.Machine.execColdMajorityClear s
  | .hotMajorityRaise => Sys2Proof.Machine.execHotMajorityRaise s
  | .resetAdapt priv => Sys2Proof.Machine.execResetAdapt priv s
  | .readmitSite priv site => Sys2Proof.Machine.execReadmitSite priv site s
  | .cue ctx bits => Sys2Proof.Machine.execCue ctx bits s
  | .cueExpire index => Sys2Proof.Machine.execCueExpire index s
  | .settleHoldEnd dom => Sys2Proof.Machine.execSettleHoldEnd dom s
  | .sceneDataWrite priv data => Sys2Proof.Machine.execSceneDataWrite priv data s
  | .hostCapWrite priv data => Sys2Proof.Machine.execHostCapWrite priv data s
  | .hostPrefWrite priv data => Sys2Proof.Machine.execHostPrefWrite priv data s
  | .ffFallback => Sys2Proof.Machine.execFfFallback s
  | .ffReturn => Sys2Proof.Machine.execFfReturn s
  | .capUnattClear => Sys2Proof.Machine.execCapUnattClear s
  | .supplyEscRepeat => Sys2Proof.Machine.execSupplyEscRepeat s
  | .rampStep => Sys2Proof.Machine.execRampStep s
  | .droopCrossing det supply ns => Sys2Proof.Machine.execDroopCrossing det supply ns s
  | .stretchHoldExpiry region => Sys2Proof.Machine.execStretchHoldExpiry region s
  | .holdMaxExpiry region => Sys2Proof.Machine.execHoldMaxExpiry region s
  | .rateWindowEnd => Sys2Proof.Machine.execRateWindowEnd s
  | .agemonRead codes => Sys2Proof.Machine.execAgemonRead codes s
  | .trimInstant => Sys2Proof.Machine.execTrimInstant s
  | .store priv => Sys2Proof.Machine.execStore priv s
  | .marginStoreDone error back => Sys2Proof.Machine.execMarginStoreDone error back s
  | .thermalSiteRead site raw parityOk => Sys2Proof.Machine.execThermalSiteRead site raw parityOk s
  | .siteTimeout site => Sys2Proof.Machine.execSiteTimeout site s
  | .thrAck => Sys2Proof.Machine.execThrAck s
  | .graceExpiry => Sys2Proof.Machine.execGraceExpiry s
  | .curtainRead readings split => Sys2Proof.Machine.execCurtainRead readings split s
  | .railOffRepeat => Sys2Proof.Machine.execRailOffRepeat s
  | .curtainRelease => Sys2Proof.Machine.execCurtainRelease s
  | .coolHbEdge ns => Sys2Proof.Machine.execCoolHbEdge ns s
  | .coolHbExpiry => Sys2Proof.Machine.execCoolHbExpiry s
  | .coolFaultClose => Sys2Proof.Machine.execCoolFaultClose s
  | .leakState p n => Sys2Proof.Machine.execLeakState p n s
  | .leakFiltExpiry => Sys2Proof.Machine.execLeakFiltExpiry s
  | .dbpReport src dst role payload => Sys2Proof.Machine.execDbpReport src dst role payload s
  | .dbpAlloc src dst role payload => Sys2Proof.Machine.execDbpAlloc src dst role payload s
  | .dbpJoin src dst role payload => Sys2Proof.Machine.execDbpJoin src dst role payload s
  | .dbpSlack src dst role payload => Sys2Proof.Machine.execDbpSlack src dst role payload s
  | .dbpRoles src dst role payload => Sys2Proof.Machine.execDbpRoles src dst role payload s
  | .dbpLeave src dst role payload => Sys2Proof.Machine.execDbpLeave src dst role payload s
  | .joinPhaseEnd => Sys2Proof.Machine.execJoinPhaseEnd s
  | .takeover => Sys2Proof.Machine.execTakeover s
  | .memberSilence => Sys2Proof.Machine.execMemberSilence s
  | .dieSilence die => Sys2Proof.Machine.execDieSilence die s
  | .donorTimeout die => Sys2Proof.Machine.execDonorTimeout die s
  | .pkgEscRepeat => Sys2Proof.Machine.execPkgEscRepeat s
  | .zilterInterval => Sys2Proof.Machine.execZilterInterval s
  | .zltReport src dst seq term body => Sys2Proof.Machine.execZltReport src dst seq term body s
  | .zltAlloc src dst seq term body => Sys2Proof.Machine.execZltAlloc src dst seq term body s
  | .zltJoin src dst seq term body => Sys2Proof.Machine.execZltJoin src dst seq term body s
  | .zltLeave src dst seq term body => Sys2Proof.Machine.execZltLeave src dst seq term body s
  | .zltLeaveAck src dst seq term body => Sys2Proof.Machine.execZltLeaveAck src dst seq term body s
  | .parentSilence => Sys2Proof.Machine.execParentSilence s
  | .childSilence package => Sys2Proof.Machine.execChildSilence package s
  | .fmpTxTimeout => Sys2Proof.Machine.execFmpTxTimeout s
  | .mgmtGapTimeout => Sys2Proof.Machine.execMgmtGapTimeout s
  | .heartbeatLost => Sys2Proof.Machine.execHeartbeatLost s
  | .orphan => Sys2Proof.Machine.execOrphan s
  | .managementHeartbeat seq => Sys2Proof.Machine.execManagementHeartbeat seq s
  | .getSequenceState seq => Sys2Proof.Machine.execGetSequenceState seq s
  | .getStatus seq => Sys2Proof.Machine.execGetStatus seq s
  | .getRegister seq offset => Sys2Proof.Machine.execGetRegister seq offset s
  | .reportCoolantTemperature seq temp => Sys2Proof.Machine.execReportCoolantTemperature seq temp s
  | .setTickCount seq count => Sys2Proof.Machine.execSetTickCount seq count s
  | .setLimit seq scope window value => Sys2Proof.Machine.execSetLimit seq scope window value s
  | .setThermalThreshold seq which value => Sys2Proof.Machine.execSetThermalThreshold seq which value s
  | .setThrottleLevel seq level => Sys2Proof.Machine.execSetThrottleLevel seq level s
  | .setAuthority seq value => Sys2Proof.Machine.execSetAuthority seq value s
  | .setAllowedModes seq mask => Sys2Proof.Machine.execSetAllowedModes seq mask s
  | .setDieSlew seq value => Sys2Proof.Machine.execSetDieSlew seq value s
  | .setHoldoverPercent seq value => Sys2Proof.Machine.execSetHoldoverPercent seq value s
  | .startRamp seq rampId c1 t0 d => Sys2Proof.Machine.execStartRamp seq rampId c1 t0 d s
  | .cancelRamp seq rampId => Sys2Proof.Machine.execCancelRamp seq rampId s
  | .setZilterPosition seq package level parent => Sys2Proof.Machine.execSetZilterPosition seq package level parent s
  | .setFleetBudget seq budget => Sys2Proof.Machine.execSetFleetBudget seq budget s
  | .orderlyDeparture seq scope => Sys2Proof.Machine.execOrderlyDeparture seq scope s
  | .departed seq scope id => Sys2Proof.Machine.execDeparted seq scope id s
  | .scheduleSnapshot seq tick freeze => Sys2Proof.Machine.execScheduleSnapshot seq tick freeze s
  | .orderlyShutdown seq => Sys2Proof.Machine.execOrderlyShutdown seq s
  | .setEndpointId eid => Sys2Proof.Machine.execSetEndpointId eid s
  | .getEndpointId => Sys2Proof.Machine.execGetEndpointId s
  | .getEndpointUuid => Sys2Proof.Machine.execGetEndpointUuid s
  | .getMctpVersionSupport type => Sys2Proof.Machine.execGetMctpVersionSupport type s
  | .getMessageTypeSupport => Sys2Proof.Machine.execGetMessageTypeSupport s
  | .getVendorDefinedMessageSupport selector => Sys2Proof.Machine.execGetVendorDefinedMessageSupport selector s
  | .mctpReassemblyTimeout => Sys2Proof.Machine.execMctpReassemblyTimeout s
  | .getTid => Sys2Proof.Machine.execGetTid s
  | .getPldmVersion type => Sys2Proof.Machine.execGetPldmVersion type s
  | .getPldmTypes => Sys2Proof.Machine.execGetPldmTypes s
  | .getPldmCommands type => Sys2Proof.Machine.execGetPldmCommands type s
  | .getSensorReading sensor => Sys2Proof.Machine.execGetSensorReading sensor s
  | .getStateSensorReadings sensor => Sys2Proof.Machine.execGetStateSensorReadings sensor s
  | .getPdrRepositoryInfo => Sys2Proof.Machine.execGetPdrRepositoryInfo s
  | .getPdr record => Sys2Proof.Machine.execGetPdr record s
  | .entdaa address => Sys2Proof.Machine.execEntdaa address s
  | .setdasa static address => Sys2Proof.Machine.execSetdasa static address s
  | .rstdaa => Sys2Proof.Machine.execRstdaa s
  | .enec mask => Sys2Proof.Machine.execEnec mask s
  | .disec mask => Sys2Proof.Machine.execDisec mask s
  | .getPid => Sys2Proof.Machine.execGetPid s
  | .getBcr => Sys2Proof.Machine.execGetBcr s
  | .getDcr => Sys2Proof.Machine.execGetDcr s
  | .i3cGetStatus => Sys2Proof.Machine.execI3cGetStatus s
  | .setMwl length => Sys2Proof.Machine.execSetMwl length s
  | .getMwl => Sys2Proof.Machine.execGetMwl s
  | .setMrl length => Sys2Proof.Machine.execSetMrl length s
  | .getMrl => Sys2Proof.Machine.execGetMrl s
  | .rstact => Sys2Proof.Machine.execRstact s
  | .nop => Sys2Proof.Machine.execNop s
  | .apply => Sys2Proof.Machine.execApply s
  | .readCut => Sys2Proof.Machine.execReadCut s
  | .storeAll => Sys2Proof.Machine.execStoreAll s
  | .porstNAssert => Sys2Proof.Machine.execPorstNAssert s
  | .porstNRelease => Sys2Proof.Machine.execPorstNRelease s
  | .hrstNAssert => Sys2Proof.Machine.execHrstNAssert s
  | .hrstNRelease => Sys2Proof.Machine.execHrstNRelease s
  | .blockSupplyLoss => Sys2Proof.Machine.execBlockSupplyLoss s
  | .alwaysOnSupplyRemoval => Sys2Proof.Machine.execAlwaysOnSupplyRemoval s
  | .curtainTest failed => Sys2Proof.Machine.execCurtainTest failed s
  | .memInit => Sys2Proof.Machine.execMemInit s
  | .pingRepeat => Sys2Proof.Machine.execPingRepeat s
  | .discover valid rev density erase4k quad => Sys2Proof.Machine.execDiscover valid rev density erase4k quad s
  | .read => Sys2Proof.Machine.execRead s
  | .flashReadTimeout => Sys2Proof.Machine.execFlashReadTimeout s
  | .release priv => Sys2Proof.Machine.execRelease priv s
  | .keyRegWrite priv offset data => Sys2Proof.Machine.execKeyRegWrite priv offset data s
  | .verify => Sys2Proof.Machine.execVerify s
  | .check => Sys2Proof.Machine.execCheck s
  | .live => Sys2Proof.Machine.execLive s
  | .load priv => Sys2Proof.Machine.execLoad priv s
  | .program priv => Sys2Proof.Machine.execProgram priv s
  | .programCal priv => Sys2Proof.Machine.execProgramCal priv s
  | .restart priv => Sys2Proof.Machine.execRestart priv s
  | .loadData priv data => Sys2Proof.Machine.execLoadData priv data s
  | .loadStreamTimeout => Sys2Proof.Machine.execLoadStreamTimeout s
  | .loaderDone error back => Sys2Proof.Machine.execLoaderDone error back s
  | .close priv same => Sys2Proof.Machine.execClose priv same s
  | .recover priv => Sys2Proof.Machine.execRecover priv s
  | .errPairMismatch => Sys2Proof.Machine.execErrPairMismatch s
  | .bclkAbsent => Sys2Proof.Machine.execBclkAbsent s
  | .bclkReturn => Sys2Proof.Machine.execBclkReturn s
  | .aoclkOutOfRange count => Sys2Proof.Machine.execAoclkOutOfRange count s
  | .en priv on => Sys2Proof.Machine.execEn priv on s
  | .curtArm priv => Sys2Proof.Machine.execCurtArm priv s
  | .hostIdle => Sys2Proof.Machine.execHostIdle s
  | .injectionGo priv => Sys2Proof.Machine.execInjectionGo priv s
  | .pbPublish code => Sys2Proof.Machine.execPbPublish code s
  | .clear priv => Sys2Proof.Machine.execClear priv s
  | .pbStore priv => Sys2Proof.Machine.execPbStore priv s
  | .pbStoreDone error back => Sys2Proof.Machine.execPbStoreDone error back s
  | .pbStoredFetch priv => Sys2Proof.Machine.execPbStoredFetch priv s
  | .pbFind priv code => Sys2Proof.Machine.execPbFind priv code s
  | .opminAdvance => Sys2Proof.Machine.execOpminAdvance s
  | .obsOpLatch priv => Sys2Proof.Machine.execObsOpLatch priv s
  | .arm priv => Sys2Proof.Machine.execArm priv s
  | .stop priv => Sys2Proof.Machine.execStop priv s
  | .snapIn => Sys2Proof.Machine.execSnapIn s
  | .snapArm priv => Sys2Proof.Machine.execSnapArm priv s
  | .cancel priv => Sys2Proof.Machine.execCancel priv s
  | .snapshotEdge => Sys2Proof.Machine.execSnapshotEdge s
  | .snapDrainDone => Sys2Proof.Machine.execSnapDrainDone s
  | .avsResponse rail ok => Sys2Proof.Machine.execAvsResponse rail ok s
  | .tapIdcode => Sys2Proof.Machine.execTapIdcode s
  | .samplePreload => Sys2Proof.Machine.execSamplePreload s
  | .tapBypass => Sys2Proof.Machine.execTapBypass s
  | .mbistRun => Sys2Proof.Machine.execMbistRun s
  | .mbistDone result => Sys2Proof.Machine.execMbistDone result s
  | .mbistResult => Sys2Proof.Machine.execMbistResult s
  | .scanBlock => Sys2Proof.Machine.execScanBlock s
  | .paramRead => Sys2Proof.Machine.execParamRead s
  | .aoMirror => Sys2Proof.Machine.execAoMirror s
  | .registerWrite priv offset data => Sys2Proof.Machine.execRegisterWrite priv offset data s
  | .blockSupplyReturn => Sys2Proof.Machine.execBlockSupplyReturn s
  | .keyWaitAttn => Sys2Proof.Machine.execKeyWaitAttn s
  | .loRegisterRead priv ctx offset => Sys2Proof.Machine.execLoRegisterRead priv ctx offset s
  | .ordinalQueueFull oo => Sys2Proof.Machine.execOrdinalQueueFull s oo
  | .dbpBad => Sys2Proof.Machine.execDbpBad s
  | .zltBad crc => Sys2Proof.Machine.execZltBad s crc
  | .unknownCommand code seq wrongLength => Sys2Proof.Machine.execUnknownCommand code seq wrongLength s
  | .unsupportedPldmCmd type cmd => Sys2Proof.Machine.execUnsupportedPldmCmd type cmd s

end Sys2Proof.Machine
end

