-- ==== Sys2Proof/Machine/Step.lean ====
section
/-! DEFINITION. One step: the command at the front of the queue is taken and executed; on an empty queue the block idles.
Between commands the block has no step of its own: what its clocks do by themselves are rows of the table (TICK, REFILL,
GRANT_DECISION, SAMPLE_EDGE and the timer rows). -/

namespace Sys2Proof.Machine

open Sys2Proof

/-- First in, first out. Log 1 DESIGN CHOICE, log 2 DESIGN CHOICE, log 112 DESIGN CHOICE. -/
def step (s : State) : Host.Outcome State Fault Refusal :=
  match s.pending with
  | [] => .next s
  | c :: r => exec c { s with pending := r }

/-- The state with the command that a word spells at the front of its queue; the same state where the word spells none.
Log 3 DESIGN CHOICE. -/
def State.withFetchWord (s : State) (nbits w : Nat) : State :=
  match decodeTableWord nbits w with
  | none => s
  | some c => { s with pending := c :: s.pending }

end Sys2Proof.Machine
end

