-- ==== Sys2Proof/Safety.lean ====
section
/-! DEFINITION. What counts as safe, and the shapes in which statements say what a command leaves alone. -/

namespace Sys2Proof.Machine

/-- The block drives its hold outputs (R309, R335): no grant, THR_LVL at 15, the Stretch Port at 3. -/
def State.held (s : State) : Prop := holdOut s = true

/-- The flash is canonical: byte offsets strictly rising, and no entry that equals an erased byte. -/
def State.canonical (s : State) : Prop := twf 0xFF s.flash = true

/-- The Register Port takes writes (R304, R337, R389): the block supply is up, BCLK runs, and the block is neither in RESET
nor in Lockout. -/
def State.portOpen (s : State) : Prop :=
  s.start.blkUp = true ∧ s.start.bclkAbsent = false ∧ s.start.state ≠ 0 ∧ s.start.state ≠ 15

/-- `t` differs from `u` in what telling of a fault below class S, of an event or of an attention cause may change, and in
nothing else: the fault record and counters, the Prompt Book, the trace buffers and a freeze that they ask for, the note of a
fault for FREEZE_MAX, cause bits, and the model's count of free values. -/
def State.onlyTold (u t : State) : Prop :=
  t = { u with fault := t.fault, book := t.book, obs := { u.obs with bufs := t.obs.bufs },
               core := { u.core with freezeReq := t.core.freezeReq, faultSince := t.core.faultSince },
               regs := { u.regs with cause := t.regs.cause }, free := t.free }

end Sys2Proof.Machine
end

