-- ==== Sys2Proof/Certificates/Slice0/Obligations.lean ====
section
/-! DEFINITION. The statements about the model. Each docstring names the rules of spec/ that it rests on. -/

open Sys2Proof Sys2Proof.Machine

/-- Taking a command: a step with `c` at the front of the queue is `c` executed with the queue's rest. That the block
idles on an empty queue is the model's own choice, log entry 2. -/
def Obligations.StepRunsFront : Prop :=
  (∀ (c : Instr) (r : List Instr) (s : State), s.pending = c :: r → step s = exec c { s with pending := r }) ∧
  ∀ s : State, s.pending = [] → step s = .next s

/-- R331. -/
def Obligations.FaultOpens : Prop :=
  ∀ (code : Nat) (v : Int) (inj : Bool) (s : State), s.start.blkUp = true → s.start.bclkAbsent = false →
    let f := (reportInj inj code v s).fault
    (3 ≤ faultClass code → s.fault.isOpen = false →
      f.isOpen = true ∧ f.code = code ∧ f.cls = faultClass code ∧ f.cause = 2 ^ (code / 4096 % 16) ∧
      f.seen = 2 ^ (faultClass code - 3) ∧ f.merges = 0 ∧ f.lastCode = code ∧ f.firstTick = s.time.count ∧
      f.firstOpmin = s.book.opmin ∧ f.injected = inj) ∧
    (faultClass code < 3 →
      f.isOpen = s.fault.isOpen ∧ f.code = s.fault.code ∧ f.cls = s.fault.cls ∧ f.cause = s.fault.cause ∧
      f.seen = s.fault.seen ∧ f.merges = s.fault.merges ∧ f.lastCode = s.fault.lastCode ∧
      f.firstTick = s.fault.firstTick ∧ f.firstOpmin = s.fault.firstOpmin ∧ f.injected = s.fault.injected)

/-- R332. -/
def Obligations.FaultMerges : Prop :=
  ∀ (code : Nat) (v : Int) (inj : Bool) (s : State), s.start.blkUp = true → s.start.bclkAbsent = false →
    3 ≤ faultClass code → s.fault.isOpen = true →
    let t := reportInj inj code v s
    let f := t.fault
    f.isOpen = true ∧ f.cause = s.fault.cause ||| 2 ^ (code / 4096 % 16) ∧
      f.seen = s.fault.seen ||| 2 ^ (faultClass code - 3) ∧ f.merges = min 65535 (s.fault.merges + 1) ∧
      f.lastCode = code ∧ f.cls = max s.fault.cls (faultClass code) ∧ f.injected = (s.fault.injected || inj) ∧
      f.code = s.fault.code ∧ f.firstTick = s.fault.firstTick ∧ f.firstOpmin = s.fault.firstOpmin ∧
      (4 ≤ faultClass code → f.safe = true ∧ f.errFault = true ∧ holdOut t = true ∧ running t = false) ∧
      (faultClass code = 5 → t.start.state = 15)

/-- R329, R330, Table 12-7, and the frame of R331 and R332. -/
def Obligations.FaultCounts : Prop :=
  ∀ (code : Nat) (v : Int) (s : State),
    let t := report code v s
    (faultClass code = 0 → t = s) ∧
    (s.start.blkUp = true → s.start.bclkAbsent = false → faultClass code ≠ 0 →
      t.fault.nN = (if faultClass code = 1 then (s.fault.nN + 1) % 2 ^ 16 else s.fault.nN) ∧
      t.fault.nC = (if faultClass code = 2 then (s.fault.nC + 1) % 2 ^ 16 else s.fault.nC) ∧
      t.fault.nD = (if faultClass code = 3 then (s.fault.nD + 1) % 2 ^ 16 else s.fault.nD) ∧
      t.fault.nS = (if faultClass code = 4 then (s.fault.nS + 1) % 2 ^ 8 else s.fault.nS) ∧
      t.fault.nL = (if faultClass code = 5 then (s.fault.nL + 1) % 2 ^ 8 else s.fault.nL) ∧
      (3 ≤ faultClass code → (tget 0 0 t.regs.cause).testBit 0 = true) ∧
      (faultClass code < 4 → s.onlyTold t)) ∧
    (s.start.blkUp = false ∨ s.start.bclkAbsent = true → faultClass code ≠ 0 →
      t = if code / 4096 = 8 then { s with fault := { s.fault with held := s.fault.held ++ [(code, v)] } } else s)

/-- R335, R309, Table 11-2. -/
def Obligations.SafeStateEntry : Prop :=
  ∀ (code : Nat) (v : Int) (s : State), s.start.blkUp = true → s.start.bclkAbsent = false →
    faultClass code = 4 → s.fault.safe = false → s.par.safeVolt ≠ 0 →
    let t := report code v s
    t.fault.safe = true ∧ t.fault.errFault = true ∧ holdOut t = true ∧ t.core.running = false ∧ t.core.frozen = false ∧
      (∀ a ∈ t.tk.agents, a.2.rateQ = 0 ∧ a.2.target = 0) ∧ (∀ d, clockOf t d = s.par.safeFreq) ∧
      (∀ r, r < 32 → s.par.safeRails.testBit r = true → tget 0 r t.law.railV = s.par.safeVolt) ∧
      t.time = s.time ∧ t.curt = s.curt ∧ t.cap = s.cap ∧ t.tel = s.tel ∧ t.margin = s.margin ∧ t.therm = s.therm ∧
      t.pkg = s.pkg ∧ t.zilt = s.zilt ∧ t.mgmt = s.mgmt ∧ t.start = s.start ∧ t.par = s.par ∧ t.pb = s.pb ∧
      t.flash = s.flash ∧ t.pending = s.pending

/-- R334, R336, R339, R390, R340, R341, R342. -/
def Obligations.FaultCommands : Prop :=
  (∀ (p : Nat) (s : State), s.portOpen → 1 ≤ p → s.fault.isOpen = true → s.fault.cls = 3 →
    exec (.close p []) s = .next (rpAnswer 0 0 { s with
      out := [],
      fault := { s.fault with
        isOpen := false, cls := 0, cause := 0, seen := 0, merges := 0, sCodes := [], ctrlSt := 0,
        prevCode := wordOf [(31, 16, s.fault.code), (15, 0, s.fault.cause)], prevStatus := faultStatus s.fault,
        prevTick := s.fault.firstTick } })) ∧
  (∀ (p : Nat) (s : State), s.portOpen → 1 ≤ p → s.fault.isOpen = true → s.fault.cls ≠ 3 →
    exec (.close p []) s = .next (rpAnswer 0 0 { s with out := [], fault := { s.fault with ctrlSt := 2 } })) ∧
  (∀ (p : Nat) (s : State), s.portOpen → 1 ≤ p →
    exec (.recover p) s = .next (rpAnswer 0 0 { s with out := [], fault := { s.fault with recoverReq := true } })) ∧
  (∀ s : State, s.start.blkUp = true →
    exec .errPairMismatch s = .next (report 0xD001 0 { s with out := [], fault := { s.fault with errMismatch := true } })) ∧
  (∀ s : State, s.start.blkUp = true → s.start.bclkAbsent = false →
    exec .bclkAbsent s = .next { s with
      out := [], start := { s.start with bclkAbsent := true, bclkWas := true },
      fault := { s.fault with errFault := true } }) ∧
  (∀ s : State, s.start.blkUp = true → s.start.bclkAbsent = true →
    exec .bclkReturn s = .next (deliverHeld (report 0x3004 0 (report 0x1001 0
      { s with out := [], start := { s.start with bclkAbsent := false } })))) ∧
  (∀ (on : Bool) (s : State), s.portOpen →
    exec (.en 2 on) s = .next (rpAnswer 0 0 { s with
      out := [], regs := { s.regs with wr := tset 0 0xB040 (if on then 2 ^ 31 else 0) s.regs.wr } })) ∧
  (∀ s : State, s.portOpen → wreg s 0xB040 = 2 ^ 31 →
    exec (.curtArm 2) s = .next (rpAnswer 0 0 { s with
      out := [], regs := { s.regs with wr := tset 0 0xB040 (2 ^ 31) s.regs.wr },
      fault := { s.fault with armReq := true } })) ∧
  (∀ s : State, s.start.blkUp = true → s.start.bclkAbsent = false → s.fault.curtArm = true →
    (∀ a ∈ s.tk.agents, a.2.rateQ = 0) → s.fault.armUp + 16 ≤ max s.time.edgeQ (4 * s.time.up) →
    exec .hostIdle s = .next { s with out := [], fault := { s.fault with hostIdle := true } }) ∧
  (∀ s : State, s.portOpen → s.fault.reh = true → s.fault.inj = none →
    let c := bits (wreg s 0xB044) 31 16
    checkerHere s c = true → c / 4096 ≠ 11 →
    exec (.injectionGo 2) s = .next (rpAnswer 0 0 { s with
      out := [],
      fault := { s.fault with
        injStatus := 0, inj := some ⟨c, bits (wreg s 0xB044) 7 0, max 1 (bits (wreg s 0xB044) 15 8)⟩ } }))

/-- R20, R22, R27: an accepted tick in normal running. -/
def Obligations.TickAccepted : Prop :=
  ∀ (ref a : Int) (bclk phase aoclk : Nat) (s : State),
    s.start.blkUp = true → s.start.bclkAbsent = false → s.time.holdover = false ∨ s.time.locked = true →
    s.time.anyTick = true → s.time.lastRef = some a → 950 ≤ ref - a → ref - a ≤ 1050 → 980 ≤ bclk → bclk ≤ 1020 →
    let run := if phase ≤ 4 then min 16 (s.time.lockRun + 1) else 0
    let count := (s.time.count + 1) % 2 ^ 64
    let locked := s.time.locked || decide (16 ≤ run)
    ∃ t, exec (.tick ref false bclk phase aoclk true) s = .next t ∧
      t.time = { s.time with
        came := t.time.came, lastTick := some ref, up := s.time.up + 1, opTicks := s.time.opTicks + 1, count := count, lastAcc := some ref, lastRef := some ref,
        synthRun := 0, lockRun := run, locked := locked, bclkBad := false,
        epochMis := if locked = true ∧ count % 1000 = 0 then (s.time.epochMis + 1) % 256 else s.time.epochMis } ∧
      t = { s with out := t.out, time := t.time, tel := t.tel, port := t.port,
                   start := { s.start with aoclkBad := t.start.aoclkBad } }

/-- R20, R26, R27, R30, R31, R448: the tick from which the count runs, the ticks of reacquisition, a discarded tick, a lone
epoch marker, the load of the count by a marker and the marker that ends holdover. -/
def Obligations.TickKeepsCount : Prop :=
  (∀ (ref : Int) (bclk phase aoclk : Nat) (s : State),
      s.start.blkUp = true → s.start.bclkAbsent = false → 980 ≤ bclk → bclk ≤ 1020 →
      (s.time.holdover = true ∧ s.time.locked = false) ∨ s.time.anyTick = false →
      (∀ a, s.time.lastAcc = some a → 950 ≤ ref - a) →
      ∃ t, exec (.tick ref false bclk phase aoclk true) s = .next t ∧
        t.time.count = s.time.count ∧ t.time.lastAcc = some ref ∧ t.time.lastRef = some ref ∧ t.time.anyTick = true ∧
        t.time.holdover = s.time.holdover ∧
        t = { s with out := t.out, time := t.time, tel := t.tel, port := t.port,
                     start := { s.start with aoclkBad := t.start.aoclkBad } }) ∧
  (∀ (ref a : Int) (epoch : Bool) (bclk phase aoclk : Nat) (s : State),
      s.start.blkUp = true → s.start.bclkAbsent = false →
      ((s.time.holdover = false ∨ s.time.locked = true) ∧ s.time.anyTick = true ∧ s.time.lastRef = some a ∧
          (ref - a < 950 ∨ 1050 < ref - a)) ∨
        ((s.time.holdover = true ∧ s.time.locked = false ∨ s.time.anyTick = false) ∧ s.time.lastAcc = some a ∧
          ref - a < 950) →
      exec (.tick ref epoch bclk phase aoclk true) s = .next { s with
        out := [],
        time := { s.time with
          missed := (s.time.missed + 1) % 2 ^ 16,
          epochMis := if epoch then (s.time.epochMis + 1) % 256 else s.time.epochMis } }) ∧
  (∀ (ref : Int) (bclk phase aoclk : Nat) (s : State), s.start.blkUp = true → s.start.bclkAbsent = false →
      exec (.tick ref true bclk phase aoclk false) s = .next { s with
        out := [], time := { s.time with epochMis := (s.time.epochMis + 1) % 256 } }) ∧
  (∀ (ref : Int) (bclk phase aoclk c : Nat) (s : State),
      s.start.blkUp = true → s.start.bclkAbsent = false → s.time.holdover = false → 980 ≤ bclk → bclk ≤ 1020 →
      tickAccepted s.time ref = true → s.time.pendCount = some c →
      ∃ t, exec (.tick ref true bclk phase aoclk true) s = .next t ∧
        t.time.count = c % 2 ^ 64 ∧ t.time.countSet = true ∧ t.time.pendCount = none ∧ t.time.holdover = false ∧
        t.tk = s.tk ∧ t.law = s.law ∧ t.cap = s.cap ∧ t.curt = s.curt ∧ t.flash = s.flash ∧ t.pending = s.pending) ∧
  (∀ (ref : Int) (bclk phase aoclk : Nat) (s : State),
      s.start.blkUp = true → s.start.bclkAbsent = false → s.time.holdover = true → s.time.locked = true →
      s.time.anyTick = true → 980 ≤ bclk → bclk ≤ 1020 → tickAccepted s.time ref = true → s.time.pendCount = none →
      ∃ t, exec (.tick ref true bclk phase aoclk true) s = .next t ∧
        t.time.holdover = false ∧ t.time.count = ((s.time.count + 1) % 2 ^ 64 + 500) / 1000 * 1000 % 2 ^ 64 ∧
        t.tk = s.tk ∧ t.law = s.law ∧ t.cap = s.cap ∧ t.curt = s.curt ∧ t.flash = s.flash ∧ t.pending = s.pending)

/-- R23, R28, R82, R448: the generator's tick. That 500 ns tell two ticks apart is the model's choice, log entry 19. -/
def Obligations.WindowClose : Prop :=
  ∀ (ref : Int) (s : State), s.start.blkUp = true → s.start.bclkAbsent = false → s.time.anyTick = true →
    ((∃ a, s.time.lastTick = some a ∧ ref < a + 500) → exec (.tickWindowClose ref) s = .next { s with out := [] }) ∧
    ((∀ a, s.time.lastTick = some a → a + 500 ≤ ref) →
      let came : Prop := ∃ a, s.time.lastAcc = some a ∧ ref < a + 500
      ∃ t, exec (.tickWindowClose ref) s = .next t ∧
        t.time.count = (s.time.count + 1) % 2 ^ 64 ∧ t.time.up = s.time.up + 1 ∧ t.time.lastTick = some ref ∧
        t.time.lastAcc = s.time.lastAcc ∧ (came → t.time.lastRef = s.time.lastRef) ∧ (¬ came → t.time.lastRef = some ref) ∧
        ((s.time.holdover = true ∧ s.time.locked = false) ∨ came → t.time.missed = s.time.missed ∧
          t.time.synthRun = s.time.synthRun ∧ t.time.holdover = s.time.holdover ∧
          t = { s with out := t.out, time := t.time, tel := t.tel, port := t.port }) ∧
        (s.time.holdover = false ∨ s.time.locked = true → ¬ came →
          t.time.missed = (s.time.missed + 1) % 2 ^ 16 ∧ t.time.lockRun = 0 ∧ t.time.synthRun = s.time.synthRun + 1 ∧
          (s.time.synthRun ≤ 2 → t.time.holdover = s.time.holdover ∧ t.time.locked = s.time.locked) ∧
          (3 ≤ s.time.synthRun → t.time.holdover = true ∧ t.time.locked = false) ∧
          (s.time.synthRun ≤ 2 ∨ s.time.holdover = true →
            t = { s with out := t.out, time := t.time, tel := t.tel, port := t.port }) ∧
          (3 ≤ s.time.synthRun → s.time.holdover = false →
            t.fault.isOpen = true ∧ t.fault.lastCode = 0x1002 ∧ t.fault.nD = (s.fault.nD + 1) % 2 ^ 16 ∧
            (tget 0 1 t.regs.cause).testBit 0 = true)))

/-- R33: acceptance of a beat, with the frame of both outcomes. -/
def Obligations.BeatAcceptance : Prop :=
  ∀ (oo scene ctx : Nat) (step : Bool) (s : State), s.start.blkUp = true → s.start.bclkAbsent = false →
    let gap := (oo + 2 ^ 48 - s.ord.last) % 2 ^ 48
    let adv := if s.ord.seen = true then gap else 1
    (s.ord.seen = false ∨ 1 ≤ gap ∧ gap ≤ 2 ^ 47 - 1 →
      ∃ t, exec (.ordinalBeat oo step scene ctx) s = .next t ∧
        t.ord.seen = true ∧ t.ord.last = oo ∧ t.ord.scene = scene ∧ t.ord.ctx = ctx ∧
        t.time = s.time ∧ t.fault = s.fault ∧
        (step = false → t = { s with
          out := [],
          ord := { s.ord with seen := true, last := oo, scene := scene, ctx := ctx, adv := s.ord.adv + adv, beat := true },
          obs := { s.obs with
            ops := tmod 0 ctx (fun x => (x + adv) % 2 ^ 48) s.obs.ops,
            lastCyc := s.obs.opCyc, lastStall := s.obs.opStall, lastTkt := s.obs.opTkt, lastOrd := s.obs.opOrd,
            opCyc := 0, opStall := 0, opTkt := 0, opOrd := oo, opReset := true } })) ∧
    (s.ord.seen = true → gap = 0 ∨ 2 ^ 47 ≤ gap →
      exec (.ordinalBeat oo step scene ctx) s = .next (report 0x1004 (signedOf 32 (oo % 2 ^ 32)) { s with
        out := [], time := { s.time with ordReject := (s.time.ordReject + 1) % 256 } }) ∧ faultClass 0x1004 = 1)

/-- R35: the step lock. -/
def Obligations.StepLock : Prop :=
  ∀ (oo scene ctx : Nat) (s : State), s.start.blkUp = true → s.start.bclkAbsent = false →
    (s.ord.seen = false ∨ (1 ≤ (oo + 2 ^ 48 - s.ord.last) % 2 ^ 48 ∧ (oo + 2 ^ 48 - s.ord.last) % 2 ^ 48 < 2 ^ 47)) →
    ∃ t, exec (.ordinalBeat oo true scene ctx) s = .next t ∧ t.ord.start = some oo ∧ t.ord.last = oo ∧
      (∀ st, s.ord.start = some st → (oo + 2 ^ 48 - st) % 2 ^ 48 ≠ 0 →
        let len := (oo + 2 ^ 48 - st) % 2 ^ 48
        t.ord.lockLen = (if len ≤ 2 ^ 32 - 1 ∧ s.ord.prevLen = some len then some len else none) ∧
        t.ord.prevLen = (if len ≤ 2 ^ 32 - 1 then some len else none)) ∧
      t = { s with out := [], ord := t.ord, obs := t.obs }

/-- R38, R392, R354, R390. -/
def Obligations.TimeTimers : Prop :=
  (∀ (st : Nat) (s : State), s.start.blkUp = true → s.start.bclkAbsent = false → s.ord.start = some st →
    s.ord.expired = false →
    let own := bits (areg s 0x1004) 15 0 * 1000000 / (250 * 2 ^ s.time.pSel)
    own < s.ord.active ∨ (∃ a, s.ord.activeLast = some a ∧ 2 * a < s.ord.active) →
    exec .stepTimeout s = .next (raise 1 1 (report 0x1005 0 { s with
      out := [], ord := { s.ord with timeout := true, lockLen := none, expired := true, ffOff := true } }))) ∧
  (∀ (oo : Nat) (s : State), exec (.ordinalQueueFull oo) s = .next (report 0x1004 (signedOf 32 (oo % 2 ^ 32)) { s with
      out := [], time := { s.time with ordReject := (s.time.ordReject + 1) % 256 } })) ∧
  (∀ s : State, s.start.blkUp = true → s.time.anyTick = false ∨ 60000000 ≤ s.time.opTicks →
    exec .opminAdvance s = .next { s with
      out := [], book := { s.book with opmin := (s.book.opmin + 1) % 2 ^ 32 },
      time := { s.time with opTicks := s.time.opTicks - 60000000 } }) ∧
  (∀ (n : Nat) (s : State), n < 95 ∨ 105 < n → 3 ≤ s.port.aoBadRun → s.start.aoclkBad = false →
    exec (.aoclkOutOfRange n) s = .next (report 0x1001 0 { s with
      out := [], port := { s.port with aoPerTick := n, aoGoodRun := 0, aoBadRun := 4 },
      start := { s.start with aoclkBad := true } }))

/-- R142, R143, R404, R409, R410. -/
def Obligations.RailAnswers : Prop :=
  (∀ (r f : Nat) (s : State), exec (.railResponse r f false) s = .next { s with
    out := [], port := { s.port with friMiss := (s.port.friMiss + 1) % 256 } }) ∧
  (∀ (r f : Nat) (s : State), frameBad s.pb.law r f true = 0 → bits f 43 40 = 0xB → r ∉ s.port.replied →
    exec (.railResponse r f true) s = .next { s with
      out := [], port := { s.port with replied := s.port.replied ++ [r] } }) ∧
  (∀ (r f t : Nat) (s : State), frameBad s.pb.law r f true = 0 → bits f 43 40 = 9 ∨ bits f 43 40 = 0xA →
    r ∈ s.pb.model.measured → r ∈ s.port.replied → s.tel.phase = some t →
    let v := f / 2 ^ 24 % 2 ^ 16
    let c := f / 2 ^ 8 % 2 ^ 16
    let ans := tins r (v, c) s.tel.answered
    let lastP := tset 0 r ((1024 * v * c : Nat) : Int) s.tel.lastP
    ((∃ m ∈ s.pb.model.measured, tlook m ans = none) →
      exec (.railResponse r f true) s = .next { s with
        out := [], tel := { s.tel with answered := ans, lastP := lastP } }) ∧
    ((∀ m ∈ s.pb.model.measured, tlook m ans ≠ none) →
      ∃ e : Int, e = sumI (s.pb.model.measured.map (fun m => tget 0 m lastP)) * (telTicks s.time.pSel : Int) / 1000 ∧
        exec (.railResponse r f true) s = .next { s with
          out := [], time := { s.time with came := tset 0 srcTel s.time.edgeN s.time.came },
          tel := { s.tel with
            answered := [], lastP := lastP, phase := none, eMeas := (s.tel.eMeas + e.toNat) % 2 ^ 80,
            sample := some { up := t, complete := true, eMeas := e, pMeas := sumI (ans.map (fun x =>
              (tget railCfg0 x.1 s.pb.law.rails).gain * ((1024 * x.2.1 * x.2.2 : Nat) : Int) / 65536 +
                65536 * (tget railCfg0 x.1 s.pb.law.rails).off)) } } })) ∧
  (∀ (t : Nat) (s : State), s.tel.phase = some t →
    ∃ u, exec .telemetryTimeout s = .next u ∧ u.tel.phase = none ∧ u.tel.answered = [] ∧
      u.tel.sample.map TelSample.complete = some false ∧ u.tel.missing = (s.tel.missing + 1) % 2 ^ 16 ∧
      u = { s with
        out := [], time := { s.time with came := tset 0 srcTel s.time.edgeN s.time.came },
        tel := { s.tel with
          phase := none, answered := [], sample := u.tel.sample, missing := u.tel.missing, eMeas := u.tel.eMeas } }) ∧
    (∀ (r : Nat) (s : State),
      (∀ mv : Nat, tlook r s.port.avsQ = some mv →
        exec (.avsResponse r true) s = .next { s with
          out := [],
          port := { s.port with
            avsQ := terase r s.port.avsQ, avsTry := terase r s.port.avsTry,
            avsUnconf := s.port.avsUnconf.filter (fun x => x != r) } } ∧
        (tget 0 r s.port.avsTry < 3 → exec (.avsResponse r false) s = .next { s with
          out := [.avs r mv], port := { s.port with avsTry := tset 0 r (tget 0 r s.port.avsTry + 1) s.port.avsTry } }) ∧
        (3 ≤ tget 0 r s.port.avsTry → r ∉ s.port.avsUnconf → exec (.avsResponse r false) s = .next { s with
          out := [],
          port := { s.port with
            avsQ := terase r s.port.avsQ, avsTry := terase r s.port.avsTry,
            avsUnconf := s.port.avsUnconf ++ [r], avsErr := (s.port.avsErr + 1) % 256 } })) ∧
      (∀ ok : Bool, tlook r s.port.avsQ = none → exec (.avsResponse r ok) s = .next { s with out := [] }))

/-- R134, R135, R136. -/
def Obligations.ActivityAdds : Prop :=
  (∀ (b slot ctx sm w : Nat) (taps : List (Nat × Nat)) (s : State),
    (∀ a ∈ s.pb.agents, a.1 / 64 ≠ b) ∨ 4 < slot →
    exec (.activityRecord b slot ctx sm w taps) s = .next { s with out := [] }) ∧
  (∀ (b slot ctx sm w : Nat) (taps : List (Nat × Nat)) (s : State), slot ≤ 4 → (∃ a ∈ s.pb.agents, a.1 / 64 = b) →
    let mine := s.pb.model.taps.filter (fun x => x.2.booth == b)
    ∃ t, exec (.activityRecord b slot ctx sm w taps) s = .next t ∧
      t.tel.act = mine.foldl (fun act x =>
        tset 0 x.1 (min (2 ^ 24 - 1) (tget 0 x.1 act + tget 0 x.2.loc taps)) act) s.tel.act ∧
      t.pkg.syncWait = s.pkg.syncWait +
        sumN ((mine.filter (fun x => s.pb.pkg.syncTaps.contains x.1)).map (fun x => tget 0 x.2.loc taps)) ∧
      t.tel.recs = s.tel.recs ++ [{ booth := b, slot := slot, ctx := if slot = 4 then 0xFFF else ctx, taps := taps }] ∧
      t.tel.lateAct = (if 2 ≤ (s.time.k + 4 - sm % 4) % 4 ∨
        ((s.time.k + 4 - sm % 4) % 4 = 1 ∧ w + 1 < windowsOf s.time.pSel) then (s.tel.lateAct + 1) % 256
        else s.tel.lateAct) ∧
      t = { s with
        out := [],
        pkg := { s.pkg with syncWait := t.pkg.syncWait },
        tel := { s.tel with act := t.tel.act, recs := t.tel.recs, lateAct := t.tel.lateAct } })

/-- R48, R50, R69, R86, R87. -/
def Obligations.RequestTaken : Prop :=
  ∀ (a h cls supplied : Nat) (ret : Bool) (s : State),
    (tlook a s.pb.agents).isSome = true → s.start.blkUp = true → (agentOf s a).engRst = false → s.fault.inj = none →
    h ∉ (agentOf s a).badHolders →
    let e := holderOf (agentOf s a) h
    let entry := tget 0 (2 * cls) s.tk.cost % 2 ^ 24
    let word := tget 0 (2 * cls + 1) s.tk.cost
    let cost := if word.testBit 8 then supplied else entry
    let over1 := word.testBit 8 = true ∧ entry < supplied
    let tk0 := { s.tk with retConflict := if ret then (s.tk.retConflict + 1) % 256 else s.tk.retConflict }
    let refusedAgent := { agentOf s a with
      holders := tset holder0 h { e with
        wait := false, reserving := false, descSent := false, reason := 0, w := 0, refused := true } (agentOf s a).holders }
    (¬ over1 → cost ≤ (agentMap s a).poolCeil → e.wait = false →
      exec (.tkReq a h cls supplied ret 0) s = .next (putAgent a { agentOf s a with
          holders := tset holder0 h { e with
            wait := true, reserving := false, descSent := false, cls := cls, prio := word / 16 % 16, cost := cost,
            reason := 0, w := 0, since := nextQ s.time } (agentOf s a).holders }
        { s with out := [], tk := tk0 })) ∧
    (¬ over1 → cost ≤ (agentMap s a).poolCeil → e.wait = true →
      exec (.tkReq a h cls supplied ret 0) s = .next (putAgent a { agentOf s a with
          holders := tset holder0 h { e with cls := cls, prio := word / 16 % 16, cost := cost } (agentOf s a).holders }
        { s with out := [], tk := { tk0 with reqReplace := (s.tk.reqReplace + 1) % 256 } })) ∧
    (over1 → exec (.tkReq a h cls supplied ret 0) s = .next (report 0x2003 0 (putAgent a refusedAgent
      { s with out := [], tk := { tk0 with oversize := (s.tk.oversize + 1) % 256 } }))) ∧
    (¬ over1 → (agentMap s a).poolCeil < cost →
      exec (.tkReq a h cls supplied ret 0) s = .next (report 0x2003 0 (putAgent a refusedAgent
        { s with out := [], tk := { tk0 with ceilRefused := (s.tk.ceilRefused + 1) % 256 } })))

/-- R68. -/
def Obligations.ReturnTaken : Prop :=
  ∀ (a h n : Nat) (s : State), (tlook a s.pb.agents).isSome = true → s.start.blkUp = true →
    (agentOf s a).epoch = s.time.count / 4 →
    let g := agentOf s a
    let room := g.epGrant + g.epGrantOld - (g.epRet + g.epRetOld)
    let took := putAgent a { g with
      ret := (g.ret + min n room) % 2 ^ 32, epRet := g.epRet + min n room, retSample := g.retSample + min n room }
      { s with out := [] }
    (1 ≤ n → n ≤ room → g.byp = false → exec (.tkRet a h n) s = .next took) ∧
    (room < n → g.byp = false → exec (.tkRet a h n) s = .next (report 0x2002 0
      { took with tk := { took.tk with retClip := (s.tk.retClip + 1) % 256 } })) ∧
    ((holderOf g h).wait = true → exec (.tkRet a h 0) s = .next (putAgent a { g with
      holders := tset holder0 h { holderOf g h with
        wait := false, reserving := false, descSent := false, reason := 0, w := 0 } g.holders } { s with out := [] }))

/-- R62, R65. -/
def Obligations.GrantLump : Prop :=
  ∀ (a h ps ctx req : Nat) (busy : Bool) (taps : List (Nat × Nat)) (e : Holder) (s : State),
    (tlook a s.pb.agents).isSome = true → running s = true → s.fault.inj = none → (agentOf s a).handGrants = [] →
    poolOf (agentOf s a) ≤ (agentMap s a).poolCeil → poolOf (agentOf s a) < 2 ^ 24 → (agentMap s a).lease = false →
    (agentOf s a).engRst = false → (agentOf s a).byp = false → (agentOf s a).pulse = none →
    (agentOf s a).holders = [(h, e)] → e.wait = true → e.reclaimed = false → e.expired = false → e.refused = false →
    activeHold s a (agentOf s a) = 0 →
    ∃ t, exec (.grantDecision a ps busy ctx taps req []) s = .next t ∧
      (e.cost ≤ poolOf (agentOf s a) → e.cost ≤ (agentOf s a).rcLeft → ∃ g, t.tk.agents = tset agent0 a g s.tk.agents ∧
        g.spent = ((agentOf s a).spent + e.cost) % 2 ^ 32 ∧ g.rcLeft = (agentOf s a).rcLeft - e.cost ∧
        g.grantedNow = ((agentOf s a).grantedNow + e.cost) % 2 ^ 32 ∧ g.recv = (agentOf s a).recv ∧
        g.ret = (agentOf s a).ret ∧ (holderOf g h).wait = false ∧ g.pulse = some (h, 0, e.cost)) ∧
      (poolOf (agentOf s a) < e.cost ∨ (agentOf s a).rcLeft < e.cost → ∃ g, t.tk.agents = tset agent0 a g s.tk.agents ∧
        g.spent = (agentOf s a).spent ∧ g.rcLeft = (agentOf s a).rcLeft ∧ g.recv = (agentOf s a).recv ∧
        g.pulse = none ∧ (holderOf g h).wait = true ∧ (holderOf g h).w = e.w + 1 ∧
        (holderOf g h).reason =
          (if poolOf (agentOf s a) < e.cost then (agentOf s a).poolTag else (agentOf s a).rateTag)) ∧
      t = { s with out := [], obs := t.obs,
                   tk := { s.tk with agents := t.tk.agents, booths := t.tk.booths, ctxOverflow := t.tk.ctxOverflow } }

/-- R62, R93. -/
def Obligations.GrantPulse : Prop :=
  ∀ (a ps ctx req h st cost : Nat) (busy : Bool) (taps : List (Nat × Nat)) (s : State),
    (tlook a s.pb.agents).isSome = true → s.start.blkUp = true → (agentOf s a).pulse = some (h, st, cost) →
    s.fault.inj = none →
    (agentOf s a).byp = true ∨ poolOf (agentOf s a) ≤ (agentMap s a).poolCeil ∧ poolOf (agentOf s a) < 2 ^ 24 →
    ∃ t, exec (.grantDecision a ps busy ctx taps req []) s = .next t ∧
      t.out = [.gnt a h st] ∧
      ((agentOf s a).engRst = false ∨ st ≠ 0 → t.tk.reclaims = s.tk.reclaims) ∧
      ((agentOf s a).engRst = true → st = 0 → t.tk.reclaims = (s.tk.reclaims + 1) % 256) ∧
      t = { s with out := t.out, obs := t.obs,
                   tk := { s.tk with agents := t.tk.agents, booths := t.tk.booths, ctxOverflow := t.tk.ctxOverflow,
                                     reclaims := t.tk.reclaims } }

/-- R63, R70, R71, R91, R92, R93, R94, R95. -/
def Obligations.AgentTimers : Prop :=
  ∀ (a h : Nat) (s : State), (tlook a s.pb.agents).isSome = true → s.start.blkUp = true →
    let g := agentOf s a
    let e := holderOf g h
    let bd := a / 64 * 4 + (agentMap s a).dom
    (e.wait = true → areg s 0x2008 % 16 ≤ ageOf e.w →
      exec (.reserveAge a h) s = .next (putAgent a (putHolder h { e with reserving := true } g) { s with out := [] })) ∧
    (∀ lim : Nat, lim = tget 0 (2 * e.cls + 1) s.tk.cost % 16 → e.wait = true → e.descSent = false →
      lim ≠ 0 → lim ≤ ageOf e.w → grantsNow s a h = false →
      exec (.deschedHint a h) s = .next (putAgent a (putHolder h { e with descSent := true } g)
        { s with out := [.desched a h] })) ∧
    (∀ t0 : Nat, (tget boothDom0 bd s.tk.bds).stopUp = some t0 → e.wait = true → handHeld s g = false → g.byp = false →
      let drain := areg s 0x2080 % 2 ^ 10
      drain ≠ 0 → t0 + 4 * drain ≤ s.time.edgeQ → e.since + 4 * drain ≤ s.time.edgeQ → grantsNow s a h = false →
      let u := putAgent a (putHolder h { e with
          wait := false, reserving := false, descSent := false, reclaimed := false, reason := 0, w := 0,
          expired := true } g) { s with out := [] }
      let v := { u with tk := { u.tk with
        forcedExpiry := (s.tk.forcedExpiry + 1) % 256,
        bds := tmod boothDom0 bd (fun x => { x with stopTold := true }) s.tk.bds } }
      exec (.forcedExpiry a h) s =
        .next (if (tget boothDom0 bd s.tk.bds).stopTold then v else report 0x2004 0 v)) ∧
    (handHeld s g = true → exec (.forcedExpiry a h) s = .next { s with out := [] }) ∧
    (g.engRst = false → ∃ g', exec (.engRstAssert a) s = .next { putAgent a g' { s with out := [] } with
        tk := { (putAgent a g' { s with out := [] }).tk with
          reclaims := (s.tk.reclaims + (g.holders.filter (fun x => x.2.wait)).length) % 256 } } ∧
      g'.engRst = true ∧ g'.rateQ = 0 ∧ g'.target = 0 ∧ g'.credit = 0 ∧ g'.rcLeft = g.rcLeft - g.credit ∧
      (∀ x ∈ g.holders, x.2.wait = true → ∃ y ∈ g'.holders, y.1 = x.1 ∧ y.2.reclaimed = true) ∧
      (∀ y ∈ g'.holders, y.2.wait = false ∧
        (y.2.reclaimed = true → ∃ x ∈ g.holders, x.1 = y.1 ∧ x.2.wait = true)) ∧
      g'.recv = g.recv ∧ g'.spent = g.spent ∧ g'.ret = g.ret ∧ g'.handHold = g.handHold ∧ g'.byp = g.byp) ∧
    exec (.engRstRelease a) s = .next (putAgent a { g with engRst := false } { s with out := [] }) ∧
    (g.wdRun = true → (agentMap s a).wd ≤ g.wdCyc → holdOut s = false → s.start.bclkAbsent = false →
      exec (.giveWatchdogExpiry a) s = .next (bypEnter false a 3 { s with out := [] })) ∧
    (g.byp = false → bypEnter false a 3 s = raise 2 0 (report 0x2005 (a : Int) (
      let u := putAgent a { g with
        byp := true, bypCause := 3, bypEntries := min 15 (g.bypEntries + 1), causesSeen := 8, bucket := 0, wdRun := false,
        closed := g.closed ++ [⟨g.winRefill, g.winSample, g.winLump, g.winAll⟩], winLump := 0, winAll := 0 } s
      { u with tk := { u.tk with bypassEntries := (s.tk.bypassEntries + 1) % 256 } }))) ∧
    (g.byp = true → bypEnter false a 3 s = putAgent a { g with causesSeen := g.causesSeen ||| 8 } s)

/-- R57, R58, R60, R61, R74, R97. -/
def Obligations.RefillBoundary : Prop :=
  ∀ s : State,
    (clocked s = false ∨ s.pb.valid = false → exec .refill s = .next { s with out := [] }) ∧
    (clocked s = true → s.pb.valid = true → s.tk.cmd = none → s.tk.latchReq = false → s.fault.inj = none →
      trcSources s [1] = [] →
      (running s = true →
        let n := nomCycles s.time.pSel
        let u := refillReports { s with out := [] }
        let inService := (boothKeys s).filter (fun b => !boothFailed s b)
        ∃ (msg : Nat → RefillMsg) (rep : Nat → AgentRep) (t : State), exec .refill s = .next t ∧
          t.tk.toBooth = inService.foldl (fun c b => tset [] b (tget [] b c ++ [msg b]) c) s.tk.toBooth ∧
          t.tk.toBoothUp = (s.pb.agents.map Prod.fst).foldl (fun c a => tset [] a (tget [] a c ++ [rep a]) c)
            s.tk.toBoothUp ∧
          (∀ b, (msg b).refill = s.tk.j ∧ (msg b).sample = s.time.edgeN ∧ (msg b).len = min 32 (n - 32 * s.tk.i)) ∧
          (∀ k ∈ bdKeys s, tget 0 (k % 4) (msg (k / 4)).amount = refillAmount n s.tk.i (tget boothDom0 k s.tk.bds)) ∧
          (∀ a, (rep a).agent = a ∧ (rep a).recv = (agentOf s a).recv ∧ (rep a).spent = (agentOf s a).spent ∧
            (rep a).ret = (agentOf s a).ret ∧ (rep a).wins = (agentOf s a).closed ∧
            (rep a).credit = (agentOf s a).credit ∧ (rep a).req = (agentOf s a).reqRate ∧
            (rep a).demand = min (2 ^ 24 - 1) (sumN ((agentOf s a).closed.map WinRec.all) +
              sumN ((waitingOf (agentOf s a)).map (fun h => h.2.cost)))) ∧
          t.tk.rc = min s.tk.rc ((if 3 ≤ s.tk.j then tget 0 (s.tk.j - 3) s.tk.g else 0) + 2 * stepLump u) + stepLump u ∧
          t.tk.i = s.tk.i + 1 ∧ t.tk.j = s.tk.j + 1 ∧
          t = { s with
            out := windowRecords s,
            tk := { s.tk with
              win := some (s.time.k, s.tk.i), booths := t.tk.booths, toOffice := t.tk.toOffice, toBoothUp := t.tk.toBoothUp, chans := t.tk.chans,
              agents := t.tk.agents, rc := t.tk.rc, g := t.tk.g, toBooth := t.tk.toBooth, bds := t.tk.bds,
              ignitions := t.tk.ignitions, i := t.tk.i, j := t.tk.j } }) ∧
      (fabricHeld s = true → exec .refill s = .next { s with
        out := windowRecords s,
        tk := { s.tk with
          win := some (s.time.k, s.tk.i), rc := 0, g := [], booths := tadj booth0 (fun _ b => { b with missed := 0, slots := [] }) s.tk.booths,
          agents := tadj agent0 (fun _ g => { g with wdRun := false, wdCyc := 0 }) s.tk.agents,
          i := s.tk.i + 1, j := s.tk.j + 1 } }))

/-- R58. -/
def Obligations.RefillSums : Prop :=
  ∀ (x : BoothDom) (n i : Nat), 0 < n →
    (x.credited = 0 → x.sent = x.send * min (32 * i) n / n →
      (32 * i < n → x.sent + refillAmount n i x = x.send * min (32 * (i + 1)) n / n) ∧
      (32 * i < n → n ≤ 32 * (i + 1) → x.sent + refillAmount n i x = x.send) ∧
      x.sent + refillAmount n i x ≤ x.send) ∧
    (n ≤ 32 * i → refillAmount n i x = 0)

/-- R59, R66. -/
def Obligations.SplitKeeps : Prop :=
  ∀ (b late : Nat) (m : RefillMsg) (r : List RefillMsg) (s : State), tget [] b s.tk.toBooth = m :: r → late ≤ 32 →
    (s.pb.agents.map Prod.fst).Nodup →
    ∃ (gives : List (Nat × GiveMsg)) (left : Nat → Nat) (t : State), exec (.refillMessage b late) s = .next t ∧
      (∀ a, (∃ g, (a, g) ∈ gives) ↔ (a ∈ boothAgents s b ∧ served s a = true ∧ (agentMap s a).dom < 4)) ∧
      (gives.map Prod.fst).Nodup ∧
      (∀ a g, (a, g) ∈ gives → g.refill = m.refill ∧ g.sample = m.sample ∧ g.lease = tget 0 a m.lease ∧
        g.poolTag = tget 1 (agentMap s a).dom m.poolTag ∧ g.tickets ≤ roomOf s a) ∧
      (∀ d, d < 4 → sumN ((gives.filter (fun x => (agentMap s x.1).dom == d)).map (fun x => x.2.tickets)) + left d =
        tget 0 d m.amount + (tget boothDom0 (b * 4 + d) s.tk.bds).held) ∧
      t.tk.toAgent = gives.foldl (fun c x => tset [] x.1 (tget [] x.1 c ++ [x.2]) c) s.tk.toAgent ∧
      t.tk.office = gives.foldl (fun c x => tset officeAgent0 x.1 { tget officeAgent0 x.1 c with
        sent := ((tget officeAgent0 x.1 c).sent + x.2.tickets) % 2 ^ 32 } c) s.tk.office ∧
      t.tk.bds = [0, 1, 2, 3].foldl (fun c d => tset boothDom0 (b * 4 + d) { tget boothDom0 (b * 4 + d) c with
        held := if m.sample = s.time.edgeN then left d else 0 } c) s.tk.bds ∧
      t = { s with
        out := [],
        tk := { s.tk with
          toBooth := tset [] b r s.tk.toBooth, toAgent := t.tk.toAgent, office := t.tk.office, bds := t.tk.bds,
          chans := t.tk.chans } }

/-- R54, R64, R67, R75, R76, R95. -/
def Obligations.GiveArrives : Prop :=
  ∀ (a late : Nat) (m : GiveMsg) (r : List GiveMsg) (s : State), tget [] a s.tk.toAgent = m :: r → late ≤ 32 →
    let o := agentOf s a
    ((agentOf s a).byp = true → exec (.give a late) s = .next { s with
      out := [],
      tk := { s.tk with toAgent := tset [] a r s.tk.toAgent, chans := chanRecv 2 a m.tickets s.tk.chans } }) ∧
    (o.byp = false →
      let pool := diff32 ((o.recv + m.tickets) % 2 ^ 32) o.spent
      (pool ≤ (agentMap s a).poolCeil → pool < 2 ^ 24 → ∃ t, exec (.give a late) s = .next t ∧
        (let g := agentOf t a
         g.recv = (o.recv + m.tickets) % 2 ^ 32 ∧ g.spent = o.spent ∧ g.ret = o.ret ∧ g.holders = o.holders ∧
         g.rcLeft = m.rc + g.credit ∧
         ((∃ h e l, holderOrder (waitingOf o) = (h, e) :: l ∧ e.reason = 2) → g.credit = min o.rcLeft (2 ^ 24 - 1)) ∧
         ((∀ h e l, holderOrder (waitingOf o) = (h, e) :: l → e.reason ≠ 2) → g.credit = 0) ∧
         g.poolTag = m.poolTag ∧ g.rateTag = m.rateTag ∧ g.winRefill = m.refill ∧ g.winSample = m.sample ∧
         g.winLump = 0 ∧ g.winAll = 0 ∧ g.closed = o.closed ++ [⟨o.winRefill, o.winSample, o.winLump, o.winAll⟩] ∧
         g.wdRun = true ∧ g.wdCyc = 0 ∧ g.byp = false ∧
         ((agentMap s a).lease = true → handHeld s o = false → o.engRst = false → g.rateQ = min o.rateQ g.target ∧
           g.target = min (65536 * min (tget 0 m.refill o.reqAt) (agentMap s a).maxLease) (min (65536 * m.lease)
             ((pool - sumN ((o.holders.filter (fun h => h.2.wait && h.2.reserving)).map (fun h => h.2.cost))) * 2 ^ 19))) ∧
         ((agentMap s a).lease = false ∨ handHeld s o = true ∨ o.engRst = true →
           g.rateQ = o.rateQ ∧ g.target = o.target)) ∧
        (∀ c, c ≠ a → agentOf t c = agentOf s c) ∧
        t = { s with
          out := [],
          tk := { s.tk with
            agents := t.tk.agents, toAgent := tset [] a r s.tk.toAgent, chans := chanRecv 2 a m.tickets s.tk.chans,
            ignitions := t.tk.ignitions } }) ∧
      ((agentMap s a).poolCeil < pool → ∃ t, exec (.give a late) s = .next t ∧
        (agentOf t a).byp = true ∧ (agentOf t a).bypCause = 1 ∧ (agentOf t a).recv = (o.recv + m.tickets) % 2 ^ 32))

/-- R45, R61, R68, R74, R88, R98, R100. -/
def Obligations.ReportsTaken : Prop :=
  (∀ (a late : Nat) (m : AgentRep) (r : List AgentRep) (s : State), tget [] a s.tk.toBoothUp = m :: r →
    let b := tget booth0 (a / 64) s.tk.booths
    let tk := { s.tk with
      toBoothUp := tset [] a r s.tk.toBoothUp, chans := chanRecv 3 a m.retNow s.tk.chans,
      booths := tset booth0 (a / 64) { b with inbox := b.inbox ++ [m] } s.tk.booths }
    (late ≤ 32 → exec (.agentReport a late) s = .next { s with out := [], tk := tk }) ∧
    (32 < late → exec (.agentReport a late) s = .next (report 0x2001 0
      { s with out := [], tk := { tk with lateRefill := (s.tk.lateRefill + 1) % 256 } }))) ∧
  (∀ (b late : Nat) (m : AgentRep) (r : List (List AgentRep)) (s : State), tget [] b s.tk.toOffice = [m] :: r →
    late ≤ 32 →
    let key := m.agent / 64 * 4 + (agentMap s m.agent).dom
    let x := tget boothDom0 key s.tk.bds
    let now : Prop := m.retK = s.time.edgeN
    let u := { s with
      out := [],
      tk := { s.tk with
        toOffice := tset [] b r s.tk.toOffice, chans := chanRecv 1 b m.retNow s.tk.chans,
        booths := tset booth0 b { tget booth0 b s.tk.booths with missed := 0 } s.tk.booths,
        g := m.wins.foldl (fun c w => tset 0 w.refill (tget 0 w.refill c + w.lump) c) s.tk.g,
        bds := tset boothDom0 key { x with
          granted := m.wins.foldl (fun l w => histAdd (s.time.edgeN - w.sample) w.all l) x.granted,
          credited := if now then x.credited + m.retNow else x.credited,
          uncredited := if now then x.uncredited else histAdd (s.time.edgeN - m.retK) m.retNow x.uncredited }
          s.tk.bds } }
    (boothFailed u b = true → exec (.boothReportSummary b late) s = .next u) ∧
    (boothFailed u b = false → served s m.agent = false → boothBad u b = false →
      exec (.boothReportSummary b late) s = .next u) ∧
    (boothFailed u b = false → served s m.agent = true → boothBad u b = false →
      let o := { tget officeAgent0 m.agent s.tk.office with
        repSpent := m.spent, repRecv := m.recv, repRet := m.ret, demand := m.demand, credit := m.credit, req := m.req }
      let v := { u with tk := { u.tk with office := tset officeAgent0 m.agent o s.tk.office } }
      officeBad v m.agent = false → exec (.boothReportSummary b late) s = .next v)) ∧
  (∀ (b : Nat) (s : State), 4 ≤ (tget booth0 b s.tk.booths).missed → b ∈ boothKeys s → running s = true →
    boothFailed s b = false → ∃ t, exec (.boothReportTimeout b) s = .next t ∧ boothFailed t b = true ∧
      (∀ a ∈ boothAgents s b, (agentOf t a).byp = true) ∧ (∀ a, a ∉ boothAgents s b → agentOf t a = agentOf s a) ∧
      ({ s with
        out := [],
        tk := { s.tk with agents := t.tk.agents, booths := t.tk.booths, bypassEntries := t.tk.bypassEntries } }
        : State).onlyTold t) ∧
  (∀ (a : Nat) (s : State), (agentOf s a).resyncWait = true → (agentOf s a).byp = true →
    (boothFailed s (a / 64) = true → exec (.resync a) s = .next (raise 2 2 (
      let u := putAgent a { agentOf s a with resyncWait := false } { s with out := [] }
      { u with tk := { u.tk with cmdDone := true, cmdStatus := 6 } }))) ∧
    (boothFailed s (a / 64) = false → (agentOf s a).badHolders = [] → (agentOf s a).bypEntries < 4 →
      let o := tget officeAgent0 a s.tk.office
      ∃ g, exec (.resync a) s = .next (raise 2 2 { s with
          out := [],
          tk := { s.tk with
            agents := tset agent0 a g s.tk.agents, toAgent := tset [] a [] s.tk.toAgent, cmdDone := true, cmdStatus := 0,
            chans := resyncChans { s with out := [] } a,
            office := tset officeAgent0 a { o with
              repSpent := o.sent, repRecv := o.sent, repRet := (agentOf s a).ret, rejoin := true } s.tk.office } }) ∧
        g.byp = false ∧ g.recv = o.sent ∧ g.spent = o.sent ∧ poolOf g = 0 ∧ g.resyncWait = false ∧ g.causesSeen = 0 ∧
        g.rcLeft = 0 ∧ g.credit = 0 ∧ g.rateQ = 0 ∧ g.target = 0 ∧ g.holders = (agentOf s a).holders ∧
        g.handHold = (agentOf s a).handHold ∧ g.ret = (agentOf s a).ret))

/-- R66, R96, R98, R102, R103, R342. -/
def Obligations.HandOperations : Prop :=
  ∀ (p a h n : Nat) (s : State), s.portOpen → s.tk.cmdDone = true → (tlook a s.pb.agents).isSome = true → 1 ≤ p →
    let g := agentOf s a
    let e := holderOf g h
    let o := tget officeAgent0 a s.tk.office
    let v : Nat → Nat → Nat → State := fun op hh cnt =>
      let u := putReg 0x2094 op (putReg 0x2098 cnt (putReg 0x200C (a * 256 + hh) { s with out := [] }))
      { u with tk := { u.tk with cmd := none, cmdDone := false } }
    let fin : State → Host.Outcome State Fault Refusal := fun x =>
      .next (rpAnswer 0 0 (handDone 0 x))
    let sends : Nat → State → State := fun m x => { x with tk := { x.tk with
      office := tset officeAgent0 a { o with sent := (o.sent + m) % 2 ^ 32 } s.tk.office,
      handAdded := (s.tk.handAdded + m) % 2 ^ 32 } }
    let idle : Holder := { e with wait := false, reserving := false, descSent := false, reason := 0, w := 0 }
    (∀ (st : Nat) (x : State),
      handDone st x = raise 2 2 { x with tk := { x.tk with cmdDone := true, cmdStatus := st } }) ∧
    (∀ (op m : Nat) (x : State), handEvent op m x =
      if op = 3 ∨ op = 5 then event 0xE002 (m : Int) x else event 0xE003 (op : Int) x) ∧
    exec (.noneOp p a) s = fin (handEvent 0 0 (v 0 0 0)) ∧
    exec (.hold 2 a) s = fin (handEvent 1 0 (putAgent a { g with handHold := true } (v 1 0 0))) ∧
    exec (.unhold 2 a) s = fin (handEvent 2 0 (putAgent a { g with handHold := false } (v 2 0 0))) ∧
    (handHeld s g = true →
      (g.byp = false → diff32 o.sent g.spent + n ≤ (agentMap s a).poolCeil → exec (.addPool 2 a n) s = fin (handEvent 3 n
        (sends n (putAgent a { g with recv := (g.recv + n) % 2 ^ 32 } (v 3 0 n))))) ∧
      (g.byp = true → exec (.addPool 2 a n) s = fin (handEvent 3 0 (v 3 0 n))) ∧
      (let m := if g.byp then 0 else min n (poolOf g)
       exec (.discardPool 2 a n) s = fin (handEvent 4 0
        (let x := putAgent a { g with spent := (g.spent + m) % 2 ^ 32 } (v 4 0 n)
         { x with tk := { x.tk with handDiscard := (s.tk.handDiscard + m) % 2 ^ 32 } }))) ∧
      (e.wait = true →
        (g.byp = false → exec (.grantHolder 2 a h) s = fin (handEvent 5 e.cost (sends e.cost
          (putAgent a { g with
              recv := (g.recv + e.cost) % 2 ^ 32, spent := (g.spent + e.cost) % 2 ^ 32, epGrant := g.epGrant + e.cost,
              handGrants := g.handGrants ++ [(h, e.cost)],
              holders := tset holder0 h { idle with reclaimed := false } g.holders } (v 5 h 0))))) ∧
        (g.byp = true → exec (.grantHolder 2 a h) s = fin (handEvent 5 e.cost
          (putAgent a { g with
              bucket := g.bucket - ((65536 * e.cost : Nat) : Int), bypGranted := (g.bypGranted + e.cost) % 2 ^ 32,
              handGrants := g.handGrants ++ [(h, e.cost)],
              holders := tset holder0 h { idle with reclaimed := false } g.holders } (v 5 h 0)))) ∧
        exec (.expireHolder 2 a h) s = fin (handEvent 6 0 (putAgent a { g with
          holders := tset holder0 h { idle with expired := true } g.holders } (v 6 h 0)))) ∧
      exec (.clearHolder 2 a h) s = fin (handEvent 7 0 (putAgent a { g with
        holders := tset holder0 h { idle with reclaimed := false } g.holders } (v 7 h 0)))) ∧
    (g.byp = true → boothFailed s (a / 64) = false → g.badHolders = [] → g.bypEntries < 4 → s.fault.inj = none →
      exec (.restore p a) s = .next (rpAnswer 0 0 (handEvent 8 0 (putAgent a { g with resyncWait := true } (v 8 0 0))))) ∧
    exec (.forceBypass p a) s = fin (handEvent 9 0 (bypEnter false a 5 (v 9 0 0)))

/-- R98, R102, R52, R79, R366, R381. -/
def Obligations.HandRefusals : Prop :=
  (∀ (p a h n : Nat) (s : State), s.portOpen → 1 ≤ p →
      let g := agentOf s a
      let v : Nat → Nat → Nat → State := fun op hh cnt =>
        let u := putReg 0x2094 op (putReg 0x2098 cnt (putReg 0x200C (a * 256 + hh) { s with out := [] }))
        { u with tk := { u.tk with cmd := none, cmdDone := false } }
      let fin : Nat → State → Host.Outcome State Fault Refusal := fun st x =>
        .next (rpAnswer 0 0 (handDone st x))
      (s.tk.cmdDone = false → exec (.hold p a) s = .next (rpAnswer 0 0 { s with out := [] })) ∧
      (s.tk.cmdDone = true → tlook a s.pb.agents = none → exec (.hold p a) s = fin 5 (v 1 0 0)) ∧
      (s.tk.cmdDone = true → (tlook a s.pb.agents).isSome = true →
        exec (.hold 1 a) s = fin 4 (v 1 0 0) ∧
        (g.byp = false → exec (.restore p a) s = fin 6 (v 8 0 0)) ∧
        (handHeld s g = false →
          exec (.addPool 2 a n) s = fin 1 (v 3 0 n) ∧ exec (.discardPool 2 a n) s = fin 1 (v 4 0 n) ∧
          exec (.grantHolder 2 a h) s = fin 1 (v 5 h 0) ∧ exec (.expireHolder 2 a h) s = fin 1 (v 6 h 0) ∧
          exec (.clearHolder 2 a h) s = fin 1 (v 7 h 0)) ∧
        (handHeld s g = true →
          (g.byp = false → (agentMap s a).poolCeil < diff32 (tget officeAgent0 a s.tk.office).sent g.spent + n →
            exec (.addPool 2 a n) s = fin 2 (v 3 0 n)) ∧
          ((holderOf g h).wait = false → exec (.grantHolder 2 a h) s = fin 3 (v 5 h 0) ∧
            exec (.expireHolder 2 a h) s = fin 3 (v 6 h 0))))) ∧
  (∀ (p : Nat) (d : Word) (s : State), s.portOpen → 1 ≤ p →
      (d.toNat.testBit 31 = true → exec (.tktSelLatch p d) s = .next (rpAnswer 0 0 { s with
        out := [],
        regs := { s.regs with wr := tset 0 0x200C (regWord 0x200C (wreg s 0x200C) d.toNat) s.regs.wr },
        tk := { s.tk with latchReq := true, latched := false },
        obs := if s.obs.snap.state = 2 then
          { s.obs with snap := { s.obs.snap with extend := s.obs.snap.extend + 64 } } else s.obs })) ∧
      exec (.tktClassSwap p) s = .next (rpAnswer 0 0 { s with out := [], tk := { s.tk with swap := true } }))

/-- R105, R106, R107, R108, R109, R114, R118. What a routine's instructions are is the model's choice, log entries 11 and 46. -/
def Obligations.SlotRuns : Prop :=
  (∀ (n : Nat) (x : State), eccFixedN false 0 x = x ∧ eccFixedN false (n + 1) x = eccFixedN false n (report 0x3001 0
    { x with core := { x.core with eccCorr := (x.core.eccCorr + 1) % 2 ^ 16 } })) ∧
  ∀ (i corr : Nat) (steps : Option Nat) (s : State), s.fault.inj = none →
    (slotReady s i = false → ∀ unc, exec (.slotRun i steps corr unc) s = .next { s with out := [] }) ∧
    (slotReady s i = true →
      let r := slotRoutine s i steps
      let th := ((slotDesc s i).map SlotDesc.thread).getD 0
      let u := eccFixedN false corr { s with out := [] }
      let idle := fun (m : CoreMem) =>
        { m with threads := tset thread0 th { tget thread0 th m.threads with slot := none, pc := 0 } m.threads }
      (trcSources u [1] = [] → r.rest = [] → exec (.slotRun i steps corr false) s = .next { u with
        core := { u.core with
          mem := idle { r.mem with est := { r.mem.est with corr := r.told.corr.getD r.mem.est.corr } },
          out := outTold i r.told r.out, tasks := terase th u.core.tasks, ran := u.core.ran ++ [i] } }) ∧
      (trcSources u [1] = [] → r.rest ≠ [] → exec (.slotRun i steps corr false) s = .next { u with
        core := { u.core with
          mem := threadAt th (some i) (nextPc r) r.mem, out := r.out,
          tasks := tins th ⟨i, r.rest, slotBase s i, r.own, r.told⟩ u.core.tasks } }) ∧
      exec (.slotRun i steps corr true) s = .next (report 0x3002 0 { u with
        core := { u.core with
          mem := idle u.core.mem, tasks := terase th u.core.tasks, ran := u.core.ran ++ [i] } }) ∧
      (tlook th s.core.tasks = none → ∀ c : CoreInsn, tget [] i s.pb.code = [c] →
        let one := slotRoutine s i none
        let rg := (tget thread0 th s.core.mem.threads).regs
        (∀ rs ra off : Nat, c.act = .storeW rs ra off →
          one.rest = [] ∧ one.out = s.core.out ∧ one.told = told0 ∧
          one.mem = { s.core.mem with
            sdata :=
              if tget 0 (ra % 32) rg + off < memWords s.par.build 1 then
                tset 0 (tget 0 (ra % 32) rg + off) (tget 0 (rs % 32) rg) s.core.mem.sdata
              else s.core.mem.sdata }) ∧
        (∀ op rd ra rb : Nat, c.act = .scalar op rd ra rb →
          one.rest = [] ∧ one.out = s.core.out ∧
          one.mem = { s.core.mem with
            threads := tset thread0 th { tget thread0 th s.core.mem.threads with
              regs := tset 0 (rd % 32) (scalarOp op (tget 0 (ra % 32) rg) (tget 0 (rb % 32) rg)).1 rg }
              s.core.mem.threads })))

/-- R108, R119, R120, R130. -/
def Obligations.OverrunStops : Prop :=
  (∀ (i n : Nat) (s : State), slotReady s i = true → s.fault.inj = none →
    let r := slotRoutine s i (some n)
    let th := ((slotDesc s i).map SlotDesc.thread).getD 0
    let idle := fun (m : CoreMem) =>
      { m with threads := tset thread0 th { tget thread0 th m.threads with slot := none, pc := 0 } m.threads }
    let first := s.core.overran.isEmpty
    let run := if first then s.core.overrunRun + 1 else s.core.overrunRun
    let u := raise 3 0 (report 0x3003 (i : Int) { s with
      out := [],
      core := { s.core with
        mem := idle r.mem, out := outPick (slotBase s i) r.own s.core.app r.out, tasks := terase th s.core.tasks,
        ran := s.core.ran ++ [i], overran := s.core.overran ++ [i],
        overruns := (s.core.overruns + 1) % 2 ^ 16, overrunRun := run,
        slotOverruns := tset 0 i ((tget 0 i s.core.slotOverruns + 1) % 256) s.core.slotOverruns } })
    (trcSources s [1] = [] →
      exec (.overrun i n 0 false) s = .next (if first = true ∧ run = 8 then report 0x3004 0 u else u)) ∧
    exec (.overrun i n 0 true) s = .next (report 0x3002 0 { s with
      out := [],
      core := { s.core with
        mem := idle s.core.mem, tasks := terase th s.core.tasks, ran := s.core.ran ++ [i] } })) ∧
  (∀ s : State, s.core.frozen = true → max 1 (areg s 0x301C % 2 ^ 16) ≤ s.core.frozenN →
    exec .freezeMaxExpiry s = .next { s with out := [], core := { s.core with freezeReq := false } })

/-- R12, R25, R109, R110, R253. -/
def Obligations.EdgeLatches : Prop :=
  ∀ (cycles dropped c u i : Nat) (s : State), clocked s = true → s.start.state ≠ 0 → edgeDue s.time = some (c, u, i) →
    liveDue s = false → s.start.restartWait = false → ∃ t, exec (.sampleEdge cycles dropped) s = .next t ∧
      t.time.k = (c / 2 ^ (s.time.pSel - 2) *
        (if s.time.pSel = 0 then 4 else if s.time.pSel = 1 then 2 else 1) + i) % 2 ^ 64 ∧
      t.time.edgeN = s.time.edgeN + 1 ∧
      t.time.count = s.time.count ∧ t.time.up = s.time.up ∧ t.time.pSel = s.time.pSel ∧ t.time.subIdx = i ∧
      t.time.edgeUp = u ∧
      (s.port.posted = none → t.regs.act = (targetKeep s).regs.wr) ∧
      (s.core.estGo = none → s.core.tasks = [] →
        t.core.app.est = if programRuns s then s.core.out.est else s.core.app.est) ∧
      t.par = s.par ∧ t.pb = s.pb ∧ t.flash = s.flash ∧ t.pending = s.pending

/-- R148, R150, R157, R159, R160. -/
def Obligations.EstimatorTransitions : Prop :=
  (∀ s : State, programRuns s = true →
    let o := s.core.out
    let est := o.est
    let put : EstOut → List (Nat × Int) → List (Nat × Nat) → State := fun e fs cs => { s with
      out := [], core := { s.core with out := { o with
        est := e, reports := o.reports ++ fs, causes := o.causes ++ cs } } }
    (est.untrusted = false → regIn s.core.im.cfg 0x4004 % 2 ^ 11 ≤ est.disCount →
      exec .trustLost s = .next (put { est with untrusted := true, agreeCount := 0 } [(0x4001, 0)] [(4, 0)])) ∧
    (est.untrusted = true → regIn s.core.im.cfg 0x4008 / 2 ^ 16 % 2 ^ 16 ≤ est.agreeCount →
      exec .trustRegained s = .next (put { est with untrusted := false, disCount := 0 } [(0x4003, 0)] [(4, 0)])) ∧
    (est.unverified = false → 8 ≤ s.core.mem.est.incRun →
      exec .unverified s = .next (put { est with unverified := true } [(0x4002, 0)] [(4, 0)])) ∧
    (est.coldMaj = false → 4 ≤ s.core.mem.est.coldRun →
      exec .coldMajority s = .next (put { est with coldMaj := true } [(0x4007, 0)] [(4, 2)])) ∧
    (est.coldMaj = true → 16 ≤ s.core.mem.est.noColdRun →
      exec .coldMajorityClear s = .next (put { est with coldMaj := false } [] [])) ∧
    (s.core.mem.est.inited = true → 4 ≤ s.core.mem.est.hotRun →
      let r := s.core.mem.est.hotMean
      ∃ (e : EstMem) (q : EstOut), exec .hotMajorityRaise s = .next (
          let u := put q [(0x4008, r)] []
          { u with core := { u.core with mem := { s.core.mem with est := e } } }) ∧
        e.hotRun = 0 ∧ (∀ x ∈ e.plaus, x.2.hot = 0) ∧ q.raises = (est.raises + 1) % 256 ∧ q.tModMax = est.tModMax + r ∧
        e.nodes = (s.pb.model.tiles.flatMap (fun t => (List.range 64).map (fun x => x + t.base))).foldl
          (fun t n => tset 0 n (tget 0 n t + 65536 * r) t) s.core.mem.est.nodes ∧
        e = { s.core.mem.est with hotRun := 0, plaus := e.plaus, nodes := e.nodes } ∧
        q = { est with raises := q.raises, sites := q.sites, tModMax := q.tModMax }) ∧
    (∀ (i : Nat), (tlook i s.pb.therm.sites).isSome = true → est.warmup = false → est.coldMaj = false →
      let p := tget sitePlaus0 i s.core.mem.est.plaus
      let lim := regIn s.core.im.cfg 0x4084
      p.broken = false → lim % 2 ^ 6 ≤ p.cold ∨ lim / 2 ^ 8 % 2 ^ 8 ≤ p.hot →
      let q := { p with broken := true, causeCold := decide (lim % 2 ^ 6 ≤ p.cold) }
      exec (.siteImplausible i) s = .next (
        let u := put { est with sites := tset sitePlaus0 i q est.sites } [(0x4006, (i : Int))] [(4, 1), (7, 2)]
        { u with
          core := { u.core with mem := { s.core.mem with
            est := { s.core.mem.est with plaus := tset sitePlaus0 i q s.core.mem.est.plaus } } } }))) ∧
  (∀ (p i : Nat) (s : State), s.portOpen → 1 ≤ p →
    exec (.resetAdapt p) s = .next (rpAnswer 0 0 (
      let u := putReg 0x4014 (2 ^ 31 + 1) { s with out := [] }
      { u with core := { s.core with
        estGo := some (1, wreg s 0x4088 % 2 ^ 9), estDone := false } })) ∧
    exec (.readmitSite p i) s = .next (rpAnswer 0 0 (
      let u := putReg 0x4014 (2 ^ 31 + 2) (putReg 0x4088 i { s with out := [] })
      { u with core := { s.core with
        estGo := some (2, wreg u 0x4088 % 2 ^ 9), estDone := false } })))

/-- R183, R185, R193, R196, R393. -/
def Obligations.ScenesAndCues : Prop :=
  (∀ (c b : Nat) (s : State), s.port.cueReady = true → clocked s = true →
    (running s = true → s.law.cueBuf.length < 8 → exec (.cue c b) s = .next { s with
      out := [], law := { s.law with cueBuf := s.law.cueBuf ++ [(c, b)] } }) ∧
    (running s = true → 8 ≤ s.law.cueBuf.length → exec (.cue c b) s = .next { s with out := [] }) ∧
    (holdOut s = true → exec (.cue c b) s = .next { s with
      out := [], core := { s.core with
        out := { s.core.out with law := { s.core.out.law with cueBad := (s.core.out.law.cueBad + 1) % 256 } },
        app := if programRuns s then s.core.app else
          { s.core.app with law := { s.core.app.law with cueBad := (s.core.app.law.cueBad + 1) % 256 } } } })) ∧
  (∀ (i : Nat) (q : CueEntry) (s : State), s.core.mem.law.cues[i]? = some q → clocked s = true →
    q.since + areg s 0x5100 % 2 ^ 10 ≤ s.time.up → q.view ≠ some s.core.im.k → q.anchor ∉ s.law.cueOld →
    s.law.cueOld.Nodup → exec (.cueExpire i) s = .next { s with
      out := [], law := { s.law with cueOld := s.law.cueOld ++ [q.anchor] } }) ∧
  (∀ (d : Nat) (s : State), exec (.settleHoldEnd d) s = .next { s with
    out := [], tk := { s.tk with settle := s.tk.settle.filter (fun x => x != d) } }) ∧
  (∀ (p : Nat) (w : Word) (s : State), s.portOpen → 1 ≤ p →
    let e := 2 * (wreg s 0x50C0 % 256)
    let k := e + wreg s 0x50C0 / 256 % 2
    let t := tset 0 k w.toNat (scenePending s.law)
    let w0 := tget 0 e t
    let w1 := tget 0 (e + 1) t
    let fits := w1 / 2 ^ 24 % 256 + w1 / 2 ^ 16 % 256 + w1 / 2 ^ 8 % 256 + w1 % 256 ≤ 256 ∧
      (w0.testBit 31 = true → w0 / 2 ^ 28 % 4 ≠ 3 → w0 / 2 ^ 22 % 64 < s.pb.law.ops.length)
    (fits → exec (.sceneDataWrite p w) s = .next (rpAnswer 0 0 { s with
      out := [], law := { s.law with sceneCmdSt := false, sceneWr := s.law.sceneWr ++ [(k, w.toNat)] } })) ∧
    (¬ fits → exec (.sceneDataWrite p w) s = .next (rpAnswer 0 0 { s with
      out := [], law := { s.law with sceneCmdSt := true } })))

/-- R208, R218, R222, R223, R225, R226. -/
def Obligations.CapsAndRamps : Prop :=
  (∀ (p : Nat) (w : Word) (s : State), s.portOpen → 1 ≤ p →
    let u := { s with out := [] }
    let refused := raiseIf (!s.cap.hostRefused) 5 5 { u with cap := { s.cap with hostRefused := true } }
    (s.cap.auth = 1 →
      (w.toNat = 2 ^ 32 - 1 → exec (.hostCapWrite p w) s = .next (rpAnswer 0 0 (putReg 0x6010 (2 ^ 32 - 1) u))) ∧
      (w.toNat ≠ 2 ^ 32 - 1 → 1000 ≤ s.pb.cap.dieCeil → exec (.hostCapWrite p w) s = .next (rpAnswer 0 0
        (putReg 0x6010 (max 1000 (min s.pb.cap.dieCeil w.toNat)) u))) ∧
      exec (.hostPrefWrite p w) s = .next (rpAnswer 0 0 (
        let v := putReg 0x6014 (hostPrefWord s.pb.law.ops.length w.toNat) u
        { v with cap := { s.cap with hostRefused := s.cap.hostRefused && !w.toNat.testBit 0 } }))) ∧
    (s.cap.auth ≠ 1 →
      exec (.hostCapWrite p w) s = .next (rpAnswer 0 0 refused) ∧
      (prefFields w.toNat ≠ prefFields (wreg s 0x6014) →
        exec (.hostPrefWrite p w) s = .next (rpAnswer 0 0 refused)) ∧
      (prefFields w.toNat = prefFields (wreg s 0x6014) →
        exec (.hostPrefWrite p w) s = .next (rpAnswer 0 0 { u with
          cap := { s.cap with hostRefused := s.cap.hostRefused && !w.toNat.testBit 0 } })))) ∧
  (∀ s : State, programRuns s = true →
    let m := s.core.mem.cap
    let o := s.core.out.cap
    let put : CapMem → CapOut → List (Nat × Nat) → State := fun x y cs => { s with
      out := [], core := { s.core with
        mem := { s.core.mem with cap := x }, out := { s.core.out with cap := y, causes := s.core.out.causes ++ cs } } }
    (m.fallback = false → modeBase s.pb s.core.im = 1 → max 1 (regIn s.core.im.cfg 0x601C / 2 ^ 16 % 2 ^ 16) ≤ m.fbRun →
      exec .ffFallback s = .next (put { m with fallback := true, retRun := 0, fbRun := 0 }
        { o with mode := 2, fbCount := (o.fbCount + 1) % 256 } [(5, 2)])) ∧
    (m.fallback = true → max 1 (regIn s.core.im.cfg 0x601C % 2 ^ 16) ≤ m.retRun →
      exec .ffReturn s = .next (put { m with fallback := false, fbRun := 0, retRun := 0 }
        { o with mode := modeBase s.pb s.core.im } [])) ∧
    (o.unatt = true → 64 ≤ m.unattRun →
      exec .capUnattClear s = .next (put { m with unattRun := 0 } { o with unatt := false, esc := false } []))) ∧
  (∀ s : State, running s = true → s.core.app.cap.esc = true → s.core.app.cap.escUp + 1000 ≤ s.time.up →
    ∃ (data : List Nat) (t : State), exec .supplyEscRepeat s = .next t ∧ t.out = [.alert 0x40 s.mgmt.alertSeq data] ∧
      data.length = 17 ∧ data.head? = some 0 ∧ t.mgmt = { s.mgmt with alertSeq := (s.mgmt.alertSeq + 1) % 2 ^ 32 } ∧
      t.core.app.cap = { s.core.app.cap with escUp := s.time.up } ∧
      t = { s with out := t.out, mgmt := t.mgmt, core := { s.core with app := t.core.app, out := t.core.out } }) ∧
  (∀ (r : Ramp) (s : State), clocked s = true → isLive s = true → s.cap.next = [] → s.cap.ramp = some r →
    s.time.holdover = false →
    let ms := (s.time.count - r.t0) / 1000
    let v := if s.time.count < r.t0 then r.c0 else if r.d ≤ ms then r.c1
      else ((r.c0 : Int) + Int.tdiv (((r.c1 : Int) - (r.c0 : Int)) * (ms : Int)) (r.d : Int)).toNat
    ∀ old : Nat, s.cap.val = some old →
    let new := if r.c1 ≤ r.c0 then min old v else max old v
    ∃ t, exec .rampStep s = .next t ∧ t.cap.val = some new ∧
      t.cap.changed = (s.cap.changed || decide (new ≠ old)) ∧ t.cap.rampStep = (s.cap.rampStep || decide (new ≠ old)) ∧
      t.cap = { s.cap with val := t.cap.val, changed := t.cap.changed, rampStep := t.cap.rampStep, prev := t.cap.prev } ∧
      t = { s with out := [], cap := t.cap, regs := { s.regs with cause := t.regs.cause } })

/-- R31, R32, R233, R234, R237, R240. -/
def Obligations.DroopReflex : Prop :=
  (∀ (d v ns : Nat) (c : DetCfg) (s : State), tlook d s.pb.dets = some c → s.start.blkUp = true →
    let ref := vrefAt s c.rail ns
    ∀ l : Nat, (l = 3 ∧ 1000 * v + 8000 * c.d3 < ref) ∨
      (l = 2 ∧ ref ≤ 1000 * v + 8000 * c.d3 ∧ 1000 * v + 8000 * c.d2 < ref) ∨
      (l = 1 ∧ ref ≤ 1000 * v + 8000 * c.d3 ∧ ref ≤ 1000 * v + 8000 * c.d2 ∧ 1000 * v + 8000 * c.d1 < ref) ∨
      (l = 0 ∧ ref ≤ 1000 * v + 8000 * c.d3 ∧ ref ≤ 1000 * v + 8000 * c.d2 ∧ ref ≤ 1000 * v + 8000 * c.d1) →
    let u := { s with out := [], margin := { s.margin with
      dets := tset detSt0 d { tget detSt0 d s.margin.dets with level := l, supply := v } s.margin.dets } }
    let h := highLevel u c.region
    let x := tget region0 c.region s.margin.regions
    (h = 0 → x.u = 0 → exec (.droopCrossing d v ns) s = .next u) ∧
    (0 < max h x.u → ∃ t, exec (.droopCrossing d v ns) s = .next t ∧
      (let y := tget region0 c.region t.margin.regions
       y.u = max h x.u ∧ y.drive = (if x.u < h then max h x.drive else x.drive) ∧ y.forced = x.forced ∧ y.events = (if x.u = 0 then (x.events + 1) % 2 ^ 16 else x.events)) ∧
      t.margin.events = (if x.u = 0 then s.margin.events + 1 else s.margin.events) ∧
      t.margin.window = (if x.u = 0 then s.margin.window + 1 else s.margin.window) ∧
      (∀ r, r ≠ c.region → tget region0 r t.margin.regions = tget region0 r s.margin.regions) ∧
      t = { u with margin := { s.margin with
        dets := t.margin.dets, regions := t.margin.regions, events := t.margin.events, window := t.margin.window } })) ∧
  (∀ (r : Nat) (s : State),
    let x := tget region0 r s.margin.regions
    let h := highLevel s r
    let fall : Nat → Nat := fun v => if h < v then v - 1 else v
    (h < x.u ∨ h < x.drive → exec (.stretchHoldExpiry r) s = .next { s with
      out := [],
      margin := { s.margin with
        regions := tset region0 r { x with
          u := fall x.u, drive := fall x.drive, hit := if fall x.u = 0 then [] else x.hit } s.margin.regions } }) ∧
    (x.u ≠ 0 → x.lifted = false → ∃ dets, exec (.holdMaxExpiry r) s = .next (raise 6 0 (report 0x6001 0 { s with
        out := [],
        margin := { s.margin with
          regions := tset region0 r { x with u := 0, forced := true, lifted := true, hit := [] } s.margin.regions,
          dets := dets, holdLifts := (s.margin.holdLifts + 1) % 256 } })) ∧
      (∀ d ∈ regionDets s r, 0 < (tget detSt0 d s.margin.dets).level → (tget detSt0 d dets).stuck = true) ∧
      (∀ d, d ∉ regionDets s r → tget detSt0 d dets = tget detSt0 d s.margin.dets))) ∧
  (∀ (n : Nat) (s : State), s.margin.due = some n →
    let lim := areg s 0x7004 / 2 ^ 16 % 2 ^ 16
    let high := areg s 0x7004 / 2 ^ 8 % 2 ^ 8
    let low := areg s 0x7004 % 2 ^ 8
    let top := areg s 0x7008 / 2 ^ 24 % 2 ^ 8
    let m := { s.margin with due := none, winEvents := min 65535 n }
    let is : MarginSt → Prop := fun y => s.margin.dueMore = 0 → exec .rateWindowEnd s = .next (
      if s.time.holdover then event 0xE009 4 { s with out := [], margin := y } else { s with out := [], margin := y })
    (∃ t, exec .rateWindowEnd s = .next t ∧ t.margin.due = none ∧ t.margin.dueMore = 0 ∧
      t.margin.vdr = (rateQuiet (areg s 0x7004) (areg s 0x7008) s.margin.dueMore
        (rateStep (areg s 0x7004) (areg s 0x7008) n s.margin).1).vdr) ∧
    (lim < n → high ≤ m.highRun + 1 → m.vdr < top → is { m with
      vdr := min top (m.vdr + 10), highRun := 0, lowRun := 0, drRaises := (m.drRaises + 1) % 256, raisePend := true }) ∧
    (lim < n → high ≤ m.highRun + 1 → top ≤ m.vdr → is { m with highRun := 0, lowRun := 0 }) ∧
    (lim < n → m.highRun + 1 < high → is { m with highRun := m.highRun + 1, lowRun := 0 }) ∧
    (n ≤ lim → n ≤ lim / 4 → low ≤ m.lowRun + 1 → is { m with vdr := m.vdr - 5, lowRun := 0, highRun := 0 }) ∧
    (n ≤ lim → n ≤ lim / 4 → m.lowRun + 1 < low → is { m with lowRun := m.lowRun + 1, highRun := 0 }) ∧
    (n ≤ lim → lim / 4 < n → is { m with highRun := 0, lowRun := 0 }))

/-- R31, R32, R241, R242, R244, R246. -/
def Obligations.MarginCare : Prop :=
  (∀ (m code region : Nat) (s : State), s.margin.readDue = true → tlook m s.pb.mons = some region → s.fault.inj = none →
    let x := tget ageMon0 m s.margin.mons
    x.failed = false →
    let put : AgeMon → State := fun y => { s with
      out := [], margin := { s.margin with readDue := false, mons := tset ageMon0 m y s.margin.mons } }
    exec (.agemonRead [(m, code, false)]) s = .next (report 0x6002 0 (put { x with failed := true })) ∧
    (readValid s region = true → exec (.agemonRead [(m, code, true)]) s = .next (put { x with
      minCode := min x.minCode (min 15 code), lastCode := min 15 code, reads := x.reads + 1 })) ∧
    (readValid s region = false → exec (.agemonRead [(m, code, true)]) s = .next { s with
      out := [], margin := { s.margin with readDue := false } })) ∧
  (∀ s : State, 0 < s.margin.trimDue →
    let ms := tadj ageMon0 (fun _ m => { m with excluded := m.exclNext }) s.margin.mons
    let mons := trimMons s ms
    let target := areg s 0x7040 / 2 ^ 27 % 2 ^ 4
    let low := (mons.map AgeMon.minCode).foldl min 15
    let w := { s.margin with
      mons := ms, trimDue := 0, skipped := (s.margin.skipped + (s.margin.trimDue - 1)) % 256 }
    let m := { w with mons := tadj ageMon0 (fun _ x => { x with minCode := 15, reads := 0 }) ms, lastS := low }
    let told : State :=
      if s.time.holdover then event 0xE009 3 { s with out := [], margin := w } else { s with out := [], margin := w }
    let given : MarginSt → State := fun y => { told with margin := y }
    ((areg s 0x7040).testBit 31 = false ∨ sumN (mons.map AgeMon.reads) < 64 → exec .trimInstant s = .next (given { w with
      skipped := (w.skipped + 1) % 256 })) ∧
    ((areg s 0x7040).testBit 31 = true → 64 ≤ sumN (mons.map AgeMon.reads) →
      (low < target → s.margin.trim < 32 → exec .trimInstant s = .next (
        let v := min 32 (s.margin.trim + ((target - low : Nat) : Int))
        event 0xE00A v (given { m with trim := v, upSteps := (m.upSteps + 1) % 256 }))) ∧
      (target + 1 < low → 720 ≤ diff32 s.book.opmin s.margin.lastDown → -24 < s.margin.trim →
        exec .trimInstant s = .next (event 0xE00A (s.margin.trim - 1) (given { m with
          trim := s.margin.trim - 1, lastDown := s.book.opmin, downSteps := (m.downSteps + 1) % 256 }))) ∧
      (target + 1 < low → diff32 s.book.opmin s.margin.lastDown < 720 → exec .trimInstant s = .next (given m)) ∧
      (target ≤ low → low ≤ target + 1 → exec .trimInstant s = .next (given m)))) ∧
  (∀ (p : Nat) (s : State), s.portOpen → 1 ≤ p →
    (s.margin.done = false → exec (.store p) s = .next (rpAnswer 0 0 { s with
      out := [], margin := { s.margin with status := 1 } })) ∧
    (s.margin.done = true → s.pb.valid = true → exec (.store p) s = .next (rpAnswer 0 0 { s with
      out := [], margin := { s.margin with storing := some (marginRecord s), done := false } }))) ∧
  (∀ (error : Bool) (back rec : List Nat) (s : State), s.margin.storing = some rec → s.book.storing = none →
    s.book.storeWait = false → s.port.storeAll = none → s.mgmt.shutdown = none → s.start.restartWait = false →
    ∃ (flash : Tab Nat) (st : Nat),
      st = (if error then 3 else if back = rec then 0 else 2) ∧
      (let u := { s with
         out := [], flash := flash,
         margin := { s.margin with
           storing := none, done := true, status := st,
           stores := if st = 0 then (s.margin.stores + 1) % 2 ^ 32 else s.margin.stores } }
       exec (.marginStoreDone error back) s = .next (raise 6 2 (if st = 0 then u else report 0x6004 0 u))) ∧
      (back.length ≤ 1024 → ∀ a, a < s.pb.marginOffset ∨ s.pb.marginOffset + 4096 ≤ a →
        tget 0xFF a flash = tget 0xFF a s.flash) ∧
      (back.length ≤ 1024 → ∀ i, i < back.length → flashWord flash (s.pb.marginOffset + 4 * i) = back.getD i 0 % 2 ^ 32) ∧
      (∀ i, 4 * back.length ≤ i → i < 4096 → tget 0xFF (s.pb.marginOffset + i) flash = 0xFF))

/-- R11, R109, R248, R249, R258, R259. -/
def Obligations.ThermalSites : Prop :=
  (∀ (i : Nat) (raw : Int) (c : SiteCfg) (s : State), tlook i s.pb.therm.sites = some c → clocked s = true →
    s.fault.inj = none →
    let x := tget siteSt0 i s.therm.sites
    let y := max (-32768) (min 32767 (roundEven (raw * c.gain) 65536 + c.off))
    let put : SiteSt → State := fun z => { s with
      out := [], therm := { s.therm with sites := tset siteSt0 i z s.therm.sites } }
    let good := fun (z : State) => { z with
      time := { s.time with came := tset 0 (srcSite i) s.time.edgeN s.time.came } }
    let kept := good (put { x with reading := some y, readId := x.readId + 1, since := s.time.up, parity := false })
    (-640 ≤ y → y ≤ 2400 → (∀ p, x.reading = some p → p ≤ y + 320) →
      exec (.thermalSiteRead i raw true) s = .next kept) ∧
    (y < -640 ∨ 2400 < y → (∀ p, x.reading = some p → p ≤ y + 320) →
      exec (.thermalSiteRead i raw true) s = .next (siteBreak false i 4 kept)) ∧
    (-640 ≤ y → y ≤ 2400 → (∃ p, x.reading = some p ∧ y + 320 < p) →
      exec (.thermalSiteRead i raw true) s = .next (siteBreak false i 8 kept)) ∧
    (x.parity = false → exec (.thermalSiteRead i raw false) s = .next (report 0x7002 (i : Int) (
      let u := put { x with parity := true }
      { u with therm := { u.therm with parityDiscard := (s.therm.parityDiscard + 1) % 2 ^ 16 } }))) ∧
    (x.parity = true → exec (.thermalSiteRead i raw false) s = .next (siteBreak false i 2 (
      let u := put { x with parity := true }
      { u with therm := { u.therm with parityDiscard := (s.therm.parityDiscard + 1) % 2 ^ 16 } })))) ∧
  (∀ (i : Nat) (s : State), (tlook i s.pb.therm.sites).isSome = true → clocked s = true →
    s.start.state = 8 ∨ s.start.state = 9 → (tget siteSt0 i s.therm.sites).since + 24 ≤ s.time.up →
    exec (.siteTimeout i) s = .next (siteBreak false i 1 { s with out := [] })) ∧
  (∀ (i c : Nat) (s : State),
    let x := tget siteSt0 i s.therm.sites
    (x.cause ||| c = x.cause → siteBreak false i c s = s) ∧
    (x.cause ||| c ≠ x.cause → siteBreak false i c s = raise 7 2 (report 0x7001 (i : Int) { s with
      therm := { s.therm with sites := tset siteSt0 i { x with cause := x.cause ||| c } s.therm.sites } }))) ∧
  (∀ s : State, s.start.blkUp = true →
    let a := if holdOut s then 15 else s.therm.level
    s.therm.level ≤ 15 → exec .thrAck s = .next { s with
      out := [], therm := { s.therm with ackLvl := a, exceeds := false, grace := none, enfDue := false } }) ∧
  (∀ (g : Nat) (s : State), s.therm.grace = some g → running s = true →
    (g = s.time.k + 1 → exec .graceExpiry s = .next { s with out := [], therm := { s.therm with enfDue := true } }) ∧
    (g ≤ s.time.k → ∃ t, exec .graceExpiry s = .next t ∧ t.therm.enforcing = true ∧ t.therm.grace = none ∧
      t.therm.pRef = s.core.app.est.pCtl ∧ t.therm.enfEntries = (s.therm.enfEntries + 1) % 256 ∧
      t.core.im.enf = some t.therm.cEnf ∧ t.core.mem = s.core.mem ∧ t.core.app = s.core.app ∧
      t = { s with out := [], therm := t.therm, tk := { s.tk with bds := t.tk.bds }, core := t.core, regs := t.regs }))

/-- R82, R270, R271, R272, R396. -/
def Obligations.CoolantInputs : Prop :=
  (∀ (ns : Nat) (s : State), s.start.live = true → s.start.blkUp = true →
    let ok := { s with
      out := [],
      therm := { s.therm with lastHb := some ns, hbUp := some s.time.up, hbOk := true, wdRun := true, hbRun := some (s.therm.hbRun.getD ns) } }
    (s.therm.lastHb = none → exec (.coolHbEdge ns) s = .next ok) ∧
    (∀ t0, s.therm.lastHb = some t0 →
      (t0 + 400000 ≤ ns → ns ≤ t0 + 600000 → exec (.coolHbEdge ns) s = .next ok) ∧
      (ns < t0 + 400000 ∨ t0 + 600000 < ns → exec (.coolHbEdge ns) s = .next { s with
        out := [], port := { s.port with hbBad := (s.port.hbBad + 1) % 256 } }))) ∧
  (∀ s : State, s.therm.wdRun = true → s.start.blkUp = true →
    s.therm.hbUp ≠ some s.time.up ∨ s.start.bclkAbsent = true →
    exec .coolHbExpiry s = .next (raise 7 3 (report 0x9001 0 { s with
      out := [],
      therm := { s.therm with
        coolFault := true, hbOk := false, wdRun := false, lastHb := none, hbRun := none,
        hbLosses := (s.therm.hbLosses + 1) % 256 } }))) ∧
  (∀ (a b : Nat) (s : State), s.therm.hbRun = some a → s.therm.lastHb = some b → a + 1000000000 ≤ b →
    exec .coolFaultClose s = .next { s with out := [], therm := { s.therm with coolFault := false } }) ∧
  (∀ (p n : Bool) (s : State), s.start.blkUp = true →
    (p = false → n = true → exec (.leakState p n) s = .next { s with
      out := [], therm := { s.therm with leakP := p, leakN := n, leakRun := false } }) ∧
    (p = true ∨ n = false → (p ≠ s.therm.leakP ∨ n ≠ s.therm.leakN) → exec (.leakState p n) s = .next { s with
      out := [], therm := { s.therm with leakP := p, leakN := n, leakRun := true } })) ∧
  (∀ s : State, s.therm.leakRun = true → s.start.blkUp = true →
    let e := (s.therm.leakEvents + 1) % 256
    let pair := (if s.therm.leakP then 1 else 0) + (if s.therm.leakN then 2 else 0)
    let u := raise 7 4 { s with
      out := [.alert 0x41 s.mgmt.alertSeq [pair, e]],
      mgmt := { s.mgmt with alertSeq := (s.mgmt.alertSeq + 1) % 2 ^ 32 },
      therm := { s.therm with
        leakRun := false, leakFault := true, leakEvents := e,
        leakHold := s.therm.leakHold || decide (s.pb.cap.leakAction = 1) } }
    exec .leakFiltExpiry s = .next (report (if s.pb.cap.leakAction = 1 then 0x9003 else 0x9002) 0 u)) ∧
  (∀ (run : Bool) (froze : Nat) (wr : List (Nat × Nat)) (s : State),
    let im := latchImage run froze wr s
    (im.coolHold = true ↔ s.therm.coolFault = true ∨ s.therm.leakHold = true) ∧
    (im.coolWarn = true ↔ s.therm.coolFault = true ∨ s.therm.leakFault = true))

/-- R252, R265, R266, R267, R268, R269, R407. -/
def Obligations.CurtainTrips : Prop :=
  (∀ (r : List (Option Int)) (split : List Nat) (s : State), s.start.aoUp = true → s.fault.inj = none →
    s.fault.underTest = none →
    let new := curtSense r split (curtThr s) (curtRestart s) (fun _ => false) s.curt
    let trips := (List.range 8).filter (fun p => s.curt.primary.contains p && new.primary.contains p &&
      (s.curt.checker.contains p && new.checker.contains p))
    let bad := (List.range 8).filter (fun p => s.curt.split.contains p && new.split.contains p)
    ∃ t, exec (.curtainRead r split) s = .next t ∧
      (trips = [] → bad = [] → (∀ i ∈ new.failed, i ∈ s.curt.failed) →
        (∀ p, p < 8 → (pairDiffer { new with disRun := s.curt.disRun } p).2 = false) →
        t = { s with out := [], curt := new }) ∧
      (∀ p l, trips = p :: l → s.curt.tripped = false → t.curt.tripped = true ∧ t.curt.tripPair = p ∧
        t.curt.trips = (s.curt.trips + 1) % 2 ^ 16 ∧ t.core.app.therm.state = 3 ∧ t.curt.times = (new.cyc :: s.curt.times).take 4 ∧
        (∀ a b c, s.curt.times.take 3 = [a, b, c] → new.cyc ≤ c + 3600 * 27500000 → t.curt.lockout = true) ∧
        .curtain true false ∈ t.out) ∧
      (bad ≠ [] → t.curt.lockout = true ∧ t.curt.tripped = true)) ∧
  (∀ s : State, s.curt.tripped = true ∨ s.curt.lockout = true → clocked s = true →
    exec .railOffRepeat s = .next { s with
      out := [.frame 3 63 0 (s.time.count % 2 ^ 16) s.port.fseq (frameCrc 3 63 0 (s.time.count % 2 ^ 16) s.port.fseq)],
      port := { s.port with fseq := (s.port.fseq + 1) % 256 } }) ∧
  (∀ s : State, s.start.aoUp = true → s.curt.tripped = true → s.curt.lockout = false → curtCooled s = true →
    ∃ t, exec .curtainRelease s = .next t ∧ t.curt.tripped = false ∧ t.curt.lockout = false ∧ t.flash = s.flash ∧
      t.par = s.par ∧ .curtain false true ∈ t.out ∧
      (s.start.blkUp = true → s.start.porstLow = false → s.start.hrstLow = false →
        t.start.state = 1 ∧ t.start.causeCode = 2))

/-- R109, R276, R277, R278, R279, R280, R282, R286, R292, R298. -/
def Obligations.PackageMessages : Prop :=
  ∀ (src dst role w : Nat) (s : State), clocked s = true → s.pb.valid = true →
    let field := fun hi lo => w / 2 ^ lo % 2 ^ (hi + 1 - lo)
    let own := s.pb.pkg.dieId
    let d := tget dieRec0 src s.pkg.dies
    let rec_ : DieRec → State := fun x => { s with
      out := [], pkg := { s.pkg with dies := tset dieRec0 src x s.pkg.dies } }
    let seen := if src = s.pkg.smId then s.time.up else s.pkg.smSeen
    let aged : State → State := fun z => { z with
      time := { s.time with came := tset 0 (srcDie src) s.time.edgeN s.time.came } }
    (src ≠ own → exec (.dbpReport src dst role w) s = .next (aged (
      let u := rec_ { d with
        seen := some s.time.up, rptUp := some s.time.up,
        rptK := some (s.time.k - (s.time.k + 256 - field 47 40) % 256),
        power := 500 * field 39 27, demand := 500 * field 26 14, applied := 500 * field 13 1, cu := w.testBit 0 }
      { u with pkg := { u.pkg with smSeen := seen } }))) ∧
    (src ≠ own → exec (.dbpJoin src dst role w) s = .next (aged (rec_ { d with
      seen := some s.time.up, build := field 39 37, floor := 500 * field 33 21, ceil := 500 * field 20 8,
      minor := field 7 0, left := false, departed := false }))) ∧
    (src = own → exec (.dbpJoin src dst role w) s = .next (setRole 0 (report 0xA001 0 { s with
      out := [], pkg := { s.pkg with dup := true } }))) ∧
    exec (.dbpSlack src dst role w) s = .next (aged (rec_ { d with slack := field 39 24 })) ∧
    exec (.dbpLeave src dst role w) s = .next (aged (
      let f := 500 * field 39 27
      let u := rec_ { d with left := true, floor := f, applied := f }
      { u with pkg := { u.pkg with led := { s.pkg.led with
        sent := tset [] src [] s.pkg.led.sent, a := tset 0 src (min f (tget 0 src s.pkg.led.a)) s.pkg.led.a } } })) ∧
    (s.pkg.heard = true → field 39 32 = s.pkg.term →
      let u := { s.pkg with smSeen := seen }
      let c := some (500 * field 31 19, w.testBit 18, field 17 10)
      let given : PkgSt → State := fun p => aged { s with out := [], pkg := p }
      let copied : State → State := fun z => { z with
        time := { z.time with came := tset 0 srcAlloc s.time.edgeN z.time.came } }
      (dst = own ∨ dst = 31 → field 47 40 = s.time.k % 256 →
        (role = 2 → exec (.dbpAlloc src dst role w) s = .next (copied (given { u with smCopy := c }))) ∧
        (role = 1 → exec (.dbpAlloc src dst role w) s = .next (copied (given { u with usCopy := c })))) ∧
      (dst = own ∨ dst = 31 → field 47 40 ≠ s.time.k % 256 →
        exec (.dbpAlloc src dst role w) s = .next (given { u with late := (s.pkg.late + 1) % 256 })) ∧
      exec (.dbpRoles src dst role w) s = .next (setRole
        (if field 31 27 = own ∧ s.pkg.role = 2 then 2 else if field 26 22 = own ∧ s.pkg.dup = false then 1 else 0)
        (given { s.pkg with
          smId := field 31 27, usId := field 26 22,
          smSeen := if field 31 27 = s.pkg.smId then s.pkg.smSeen else s.time.up }))) ∧
    (s.pkg.heard = true → field 39 32 ≠ s.pkg.term → termNewer s.pkg.term (field 39 32) = false →
      let bad := { s with out := [], pkg := { s.pkg with bad := (s.pkg.bad + 1) % 256 } }
      exec (.dbpAlloc src dst role w) s = .next bad ∧ exec (.dbpRoles src dst role w) s = .next bad) ∧
    exec .dbpBad s = .next (report 0xA002 0 { s with out := [], pkg := { s.pkg with bad := (s.pkg.bad + 1) % 256 } })

/-- R279, R280, R287, R288, R289, R290. -/
def Obligations.PackageTimers : Prop :=
  ∀ s : State, clocked s = true →
    let own := s.pb.pkg.dieId
    let given : PkgSt → State := fun p => { s with out := [], pkg := p }
    (s.pkg.joined = false → s.start.live = true → s.pkg.liveUp + 200 ≤ s.time.up →
      let j := { s.pkg with joined := true, copyUp := s.time.up, rptUp := s.time.up, smSeen := s.time.up }
      (s.pkg.heard = true → exec .joinPhaseEnd s = .next (setRole 0 (given j))) ∧
      (s.pkg.heard = false →
        let sm := (eligibles s).headD 31
        let us := ((eligibles s).filter (fun x => x != sm)).headD 31
        exec .joinPhaseEnd s = .next (setRole (if sm = own then 2 else if us = own then 1 else 0) (given { j with
          heard := true, term := 1, smId := sm, usId := us, rolesDue := sm == own })))) ∧
    (s.pkg.role = 1 → s.pkg.smSeen + 50 ≤ s.time.up →
      let us := ((eligibles s).filter (fun x => x != own && x != s.pkg.smId)).headD 31
      exec .takeover s = .next (report 0xA003 (((s.pkg.term + 1) % 256 : Nat) : Int) (setRole 2 (given { s.pkg with
        term := (s.pkg.term + 1) % 256, smId := own, usId := us, rolesDue := true,
        takeovers := (s.pkg.takeovers + 1) % 256, barred := some s.time.k,
        led := { s.pkg.led with sent := [], since := [], stay := [] } })))) ∧
    (s.pkg.joined = true → s.pkg.silence = 0 → s.pkg.copyUp + 50 ≤ s.time.up ∨ s.pkg.rptUp + 50 ≤ s.time.up →
      exec .memberSilence s = .next (raise 9 1 (given { s.pkg with
        silence := 1, silentUp := s.time.up, heldAlloc := s.pkg.alloc.getD 0 }))) ∧
    (∀ (j u : Nat), s.pkg.role = 2 → (tget dieRec0 j s.pkg.dies).rptUp = some u → u + 50 ≤ s.time.up →
      tlook j s.pkg.led.held = none →
      exec (.dieSilence j) s = .next (given { s.pkg with led := { s.pkg.led with
        held := tins j (tget 0 j s.pkg.led.h) s.pkg.led.held } })) ∧
    (∀ (j u : Nat), s.pkg.role = 2 → tlook j s.pkg.led.since = some u → u + areg s 0x901C / 2 ^ 16 % 2 ^ 16 ≤ s.time.up →
      exec (.donorTimeout j) s = .next (report 0xA004 0 (given { s.pkg with
        donorTimeouts := (s.pkg.donorTimeouts + 1) % 256,
        led := { s.pkg.led with stay := s.pkg.led.stay ++ [j], since := terase j s.pkg.led.since } }))) ∧
    (running s = true → s.core.app.ledger.esc = true → s.pkg.role = 2 → s.pkg.led.escUp + 1000 ≤ s.time.up →
      ∃ data, data.length = 17 ∧ data.head? = some 1 ∧ exec .pkgEscRepeat s = .next { s with
        out := [.alert 0x40 s.mgmt.alertSeq data], mgmt := { s.mgmt with alertSeq := (s.mgmt.alertSeq + 1) % 2 ^ 32 },
        pkg := { s.pkg with led := { s.pkg.led with escUp := s.time.up } } })

/-- R109, R282, R291, R293, R294, R296, R298, R299, R420. -/
def Obligations.ZilterMessages : Prop :=
  (∀ (src dst seq term : Nat) (b : List Nat) (s : State), clocked s = true → s.zilt.placed = true → 1 ≤ s.pkg.role →
    dst = s.zilt.id →
    let le4 := fun i => b.getD i 0 % 256 + 256 * (b.getD (i + 1) 0 % 256) + 65536 * (b.getD (i + 2) 0 % 256) +
      16777216 * (b.getD (i + 3) 0 % 256)
    let le2 := fun i => b.getD i 0 % 256 + 256 * (b.getD (i + 1) 0 % 256)
    let aged : Nat → TimeSt := fun x => { s.time with came := tset 0 x s.time.edgeN s.time.came }
    let kids : (Child → Child) → State := fun f => { s with
      out := [], zilt := { s.zilt with children := s.zilt.children.map (fun c => if c.id = src then f c else c) },
      time := aged (srcChild src) }
    ((∀ c ∈ s.zilt.children, c.id ≠ src) →
      exec (.zltReport src dst seq term b) s = .next { s with out := [] } ∧
      exec (.zltLeave src dst seq term b) s = .next { s with out := [] }) ∧
    (∀ c, s.zilt.children.find? (fun x => x.id = src) = some c → term = c.term ∨ termNewer c.term term = true →
      44 ≤ b.length →
      exec (.zltReport src dst seq term b) s = .next (kids (fun c => { c with
        term := term, power := le4 0, demand := le4 4, floor := le4 8, ceil := le4 12, applied := le4 16,
        slack := le2 20, pkgs := le2 22, laggards := le2 24, seq := seq, rptUp := s.time.up, silent := false,
        sent := c.sent.filter (fun x => decide (seq < x.1)) })) ∧
      (s.pkg.role = 2 → exec (.zltLeave src dst seq term b) s = .next (emit
        (.zlt 5 src (s.time.count / 100 % 2 ^ 32) s.pkg.term (leBytes 4 (c.h - le4 0) ++ List.replicate 40 0))
        (kids (fun c => { c with
          term := term, left := true, floor := le4 0, applied := le4 0, a := min c.a (le4 0), h := min c.h (le4 0),
          sent := [], seq := seq, rptUp := s.time.up }))))) ∧
    (src = s.zilt.parent → s.zilt.level ≠ 0 → (∀ t, s.zilt.parentTerm = some t → term = t ∨ termNewer t term = true) →
      44 ≤ b.length →
      let stuck := le4 8 = s.zilt.lastRpt ∧ s.zilt.rptUp + 300 ≤ s.time.up
      exec (.zltAlloc src dst seq term b) s = .next { s with
        out := [], time := aged srcFleet,
        zilt := { s.zilt with
          f := some (le4 0), fWait := (b.getD 4 0).testBit 0, lagHold := (b.getD 4 0).testBit 1, parentTerm := some term,
          silence := if stuck then s.zilt.silence else 0, heldF := if stuck then le4 0 else s.zilt.heldF,
          allocUp := s.time.up, rptUp := if le4 8 = s.zilt.lastRpt then s.zilt.rptUp else s.time.up,
          lastRpt := le4 8, lastAlloc := seq } }) ∧
    (src ≠ s.zilt.id → (∀ c ∈ s.zilt.children, c.id ≠ src) → s.zilt.children.length < 128 → 44 ≤ b.length →
      ∃ l, exec (.zltJoin src dst seq term b) s = .next { s with
          out := [], zilt := { s.zilt with children := l }, time := aged (srcChild src) } ∧
        (∀ c, c ∈ l ↔ c ∈ s.zilt.children ∨ c = { child0 with
          id := src, term := term, floor := le4 0, ceil := le4 4, pkgs := le2 8, seq := seq, rptUp := s.time.up,
          wait := true })) ∧
    (∀ c, src ≠ s.zilt.id → s.zilt.children.find? (fun x => x.id = src) = some c → 44 ≤ b.length →
      (term = c.term ∨ termNewer c.term term = true → exec (.zltJoin src dst seq term b) s = .next (kids (fun _ => { c with
        id := src, term := term, floor := le4 0, ceil := le4 4, pkgs := le2 8, seq := seq, rptUp := s.time.up,
        left := false, silent := false }))) ∧
      (term ≠ c.term → termNewer c.term term = false →
        exec (.zltJoin src dst seq term b) s = .next { s with out := [] })) ∧
    (src = s.zilt.parent → s.zilt.leaving = 2 → exec (.zltLeaveAck src dst seq term b) s = .next { s with
      out := [], zilt := { s.zilt with leaving := 3 } })) ∧
  (∀ s : State, clocked s = true →
    exec (.zltBad false) s = .next { s with out := [], zilt := { s.zilt with bad := (s.zilt.bad + 1) % 256 } } ∧
    exec (.zltBad true) s = .next (report 0xB001 0 { s with out := [], zilt := { s.zilt with bad := (s.zilt.bad + 1) % 256 } }) ∧
    exec .fmpTxTimeout s = .next { s with out := [], zilt := { s.zilt with txDrop := (s.zilt.txDrop + 1) % 256 } })

/-- R32, R295, R296, R299. -/
def Obligations.FleetInterval : Prop :=
  (∀ s : State, running s = true → s.zilt.placed = true → 1 ≤ s.pkg.role →
    s.zilt.interval ≠ some (s.time.count / 100 % 2 ^ 32) →
    ∃ t, exec .zilterInterval s = .next t ∧ t.zilt.interval = some (s.time.count / 100 % 2 ^ 32) ∧ t.zilt.energy = 0 ∧
      t.time = s.time ∧ t.tk = s.tk ∧ t.cap = s.cap ∧ t.therm = s.therm ∧ t.margin = s.margin ∧ t.curt = s.curt ∧
      t.pkg = s.pkg ∧ t.par = s.par ∧ t.pb = s.pb ∧ t.flash = s.flash ∧ t.pending = s.pending ∧
      (s.zilt.level ≠ 0 → s.zilt.children = [] → s.zilt.f = none → s.zilt.leaving = 0 →
        let u := { s with
          out := if s.pkg.role = 2 then [.zlt 3 s.zilt.parent (s.time.count / 100 % 2 ^ 32) s.pkg.term
            (leBytes 4 (floorW s) ++ leBytes 4 (ceilW s) ++ leBytes 2 1 ++ [s.zilt.level] ++ List.replicate 33 0)] else [],
          zilt := { s.zilt with interval := some (s.time.count / 100 % 2 ^ 32), energy := 0 } }
        t = if s.time.holdover then event 0xE009 4 u else u)) ∧
  (∀ s : State, clocked s = true → s.zilt.placed = true → s.zilt.level ≠ 0 → 1 ≤ s.pkg.role → s.zilt.silence = 0 →
    s.zilt.allocUp + 300 ≤ s.time.up ∨ s.zilt.rptUp + 300 ≤ s.time.up →
    exec .parentSilence s = .next (raise 9 4 { s with
      out := [], zilt := { s.zilt with silence := 1, silentUp := s.time.up, heldF := s.zilt.f.getD 0 } })) ∧
  (∀ (p : Nat) (c : Child) (s : State), s.zilt.children.find? (fun x => x.id = p) = some c → c.silent = false →
    p ≠ s.zilt.id → c.rptUp + 300 ≤ s.time.up →
    exec (.childSilence p) s = .next { s with
      out := [],
      zilt := { s.zilt with
        children := s.zilt.children.map (fun x => if x.id = p then { x with silent := true, held := x.h } else x) } }) ∧
  (∀ (b : Nat) (l : List (Nat × Nat)), (∀ x ∈ l, x.1 ≤ x.2) →
    (lowerTo b l).length = l.length ∧
    (∀ i, i < l.length → (l.getD i (0, 0)).1 ≤ (lowerTo b l).getD i 0 ∧ (lowerTo b l).getD i 0 ≤ (l.getD i (0, 0)).2) ∧
    sumN (lowerTo b l) ≤ max b (sumN (l.map Prod.fst)))

/-- R301, R415, R416: execution of a command at its turn. -/
def Obligations.MgmtTurn : Prop :=
  ∀ (seq : Nat) (s : State), running s = true → (s.mgmt.next = none ∨ s.mgmt.next = some (seq % 2 ^ 32)) →
    (∀ h ∈ s.mgmt.held, h.seq ≠ (seq % 2 ^ 32 + 1) % 2 ^ 32) →
    let came : TimeSt := { s.time with came := tset 0 srcMgmt s.time.edgeN s.time.came }
    let took := fun (code : Nat) (a : List Int) => { s with
      out := [],
      time := came,
      mgmt := { s.mgmt with
        next := some ((seq % 2 ^ 32 + 1) % 2 ^ 32), lastUp := s.time.up,
        todo := s.mgmt.todo ++ [(code, 1 :: ((seq % 2 ^ 32 : Nat) : Int) :: a)] } }
    let ok := fun (code : Nat) (a : List Int) => mgmtJudge (mgmtAhead { s with out := [], time := came }) code a = 0
    (∀ c : Nat, ok 0x10 [((c % 2 ^ 64 : Nat) : Int)] →
      exec (.setTickCount seq c) s = .next { took 0x10 [((c % 2 ^ 64 : Nat) : Int)] with
        time := { came with pendCount := some (c % 2 ^ 64) } }) ∧
    (∀ a b c : Nat, ok 0x11 [a, b, c] → exec (.setLimit seq a b c) s = .next (took 0x11 [a, b, c])) ∧
    (∀ (a : Nat) (v : Int), ok 0x12 [a, v] → exec (.setThermalThreshold seq a v) s = .next (took 0x12 [a, v])) ∧
    (∀ a : Nat, ok 0x13 [a] → exec (.setThrottleLevel seq a) s = .next (took 0x13 [a])) ∧
    (∀ a : Nat, ok 0x14 [a] → exec (.setAuthority seq a) s = .next (took 0x14 [a])) ∧
    (∀ a : Nat, ok 0x15 [a] → exec (.setAllowedModes seq a) s = .next (took 0x15 [a])) ∧
    (∀ a : Nat, ok 0x16 [a] → exec (.setDieSlew seq a) s = .next (took 0x16 [a])) ∧
    (∀ a : Nat, ok 0x17 [a] → exec (.setHoldoverPercent seq a) s = .next (took 0x17 [a])) ∧
    (∀ a b c d : Nat, ok 0x20 [a, b, c, d] → exec (.startRamp seq a b c d) s = .next (took 0x20 [a, b, c, d])) ∧
    (∀ a : Nat, ok 0x21 [a] → exec (.cancelRamp seq a) s = .next (took 0x21 [a])) ∧
    (∀ a b c : Nat, ok 0x22 [a, b, c] → exec (.setZilterPosition seq a b c) s = .next (took 0x22 [a, b, c])) ∧
    (∀ a : Nat, ok 0x23 [a] → exec (.setFleetBudget seq a) s = .next (took 0x23 [a])) ∧
    (∀ a : Nat, ok 0x24 [a] → exec (.orderlyDeparture seq a) s = .next (took 0x24 [a])) ∧
    (∀ a b : Nat, ok 0x25 [a, b] → exec (.departed seq a b) s = .next (took 0x25 [a, b])) ∧
    (∀ (a : Nat) (f : Bool), ok 0x26 [a, (f.toNat : Int)] →
      exec (.scheduleSnapshot seq a f) s = .next { took 0x26 [a, (f.toNat : Int)] with
        obs := { s.obs with
          snap := if snapStatus s a = 0 then
              { s.obs.snap with status := 0, state := 1, tick := a, freeze := f, due := false }
            else { s.obs.snap with status := snapStatus s a } } }) ∧
    (ok 0x27 [] → exec (.orderlyShutdown seq) s = .next (took 0x27 []))

/-- R26, R72, R206, R207, R208, R224, R227, R257, R416, R209. -/
def Obligations.MgmtJudged : Prop :=
  (∀ s : State,
    (∀ c : Nat, mgmtJudge s 0x10 [(c : Int)] = 0 ↔ c % 1000 = 0) ∧
    (∀ a b c : Nat, mgmtJudge s 0x11 [a, b, c] = 0 ↔
      (a = 0 ∧ b = 1 ∧ (c = 0xFFFFFFFF ∨ 16 ≤ c ∧ c ≤ 65535)) ∨
      (a = 0 ∧ 2 ≤ b ∧ b ≤ 6 ∧ (c = 0xFFFFFFFF ∨ 1000 ≤ c ∧ c ≤ 2500000)) ∨
      (a = 1 ∧ 2 ≤ b ∧ b ≤ 6 ∧ (c = 0xFFFFFFFF ∨ 10000 ≤ c ∧ c ≤ 60000000))) ∧
    (∀ a : Nat, mgmtJudge s 0x13 [(a : Int)] = 0 ↔ a ≤ 15) ∧
    (∀ a : Nat, mgmtJudge s 0x14 [(a : Int)] = 0 ↔ a ≤ 1) ∧
    (∀ a : Nat, mgmtJudge s 0x15 [(a : Int)] = 0) ∧
    (∀ a : Nat, mgmtJudge s 0x16 [(a : Int)] = 0 ↔ 4 ≤ a ∧ a ≤ 96) ∧
    (∀ a : Nat, mgmtJudge s 0x17 [(a : Int)] = 0 ↔ 50 ≤ a ∧ a ≤ 100) ∧
    (∀ a b c d : Nat, mgmtJudge s 0x20 [a, b, c, d] = if s.time.countSet = false then 3
      else if c % 1000 = 0 ∧ d ≤ 86400000 ∧ 10000 ≤ b ∧ b ≤ 60000000 then 0 else 4) ∧
    (∀ a : Nat, mgmtJudge s 0x21 [(a : Int)] = if rampKnown s a then 0 else 6) ∧
    mgmtJudge s 0x27 [] = (if storeRuns s then 6 else 0)) ∧
  (∀ (seq a : Nat) (s : State), running s = true → s.mgmt.next = some (seq % 2 ^ 32) → s.mgmt.held = [] →
    let came : TimeSt := { s.time with came := tset 0 srcMgmt s.time.edgeN s.time.came }
    mgmtJudge (mgmtAhead { s with out := [], time := came }) 0x13 [(a : Int)] = 4 →
    exec (.setThrottleLevel seq a) s = .next (emit (.resp 0x13 (seq % 2 ^ 32) 4 []) (event 0xE006 0x13 { s with
      out := [],
      time := came,
      mgmt := { s.mgmt with next := some ((seq % 2 ^ 32 + 1) % 2 ^ 32), lastUp := s.time.up } })))

/-- R206, R207, R208, R251, R257, R263, R291, R298, R415. -/
def Obligations.MgmtEffects : Prop :=
  ∀ s : State,
    (∀ w v : Nat, mgmtEffect 0x11 [0, (w : Int), (v : Int)] s =
      { s with cap := { s.cap with mDie := tset 0xFFFFFFFF w v s.cap.mDie } }) ∧
    (∀ w v : Nat, mgmtEffect 0x11 [1, (w : Int), (v : Int)] s =
      { s with cap := { s.cap with mPkg := tset 0xFFFFFFFF w v s.cap.mPkg } }) ∧
    (∀ (i : Nat) (v : Int), v ≠ 0x7FFF → ∃ m, mgmtEffect 0x12 [(i : Int), v] s =
      { s with therm := { s.therm with
        mgmt := tset 0 i (if i = 4 then min s.par.curtWired v else v) s.therm.mgmt, mgmtSet := m } } ∧
      (i < 5 → i ∈ m)) ∧
    (∀ i : Nat, ∃ m, mgmtEffect 0x12 [(i : Int), 0x7FFF] s =
      { s with therm := { s.therm with mgmt := tset 0 i 0 s.therm.mgmt, mgmtSet := m } } ∧ i ∉ m) ∧
    (∀ a : Nat, mgmtEffect 0x13 [(a : Int)] s = { s with therm := { s.therm with mgmtLvl := a } }) ∧
    (∀ a : Nat, mgmtEffect 0x14 [(a : Int)] s = { s with cap := { s.cap with auth := a, authSet := true } }) ∧
    (∀ a : Nat, ∃ m, mgmtEffect 0x15 [(a : Int)] s = { s with cap := { s.cap with mAllow := some m } } ∧
      m.testBit 2 = true ∧ m.testBit 0 = a.testBit 0 ∧ m.testBit 1 = a.testBit 1 ∧ m < 8) ∧
    (∀ a : Nat, mgmtEffect 0x16 [(a : Int)] s = { s with cap := { s.cap with mSlew := some a } }) ∧
    (∀ a : Nat, mgmtEffect 0x17 [(a : Int)] s = { s with cap := { s.cap with mHold := some a } }) ∧
    (∀ a : Nat, mgmtEffect 0x23 [(a : Int)] s = { s with zilt := { s.zilt with budget := some a } }) ∧
    (s.pkg.leaving = 0 → mgmtEffect 0x24 [0] s = { s with pkg := { s.pkg with leaving := 1 } }) ∧
    (s.zilt.leaving = 0 → mgmtEffect 0x24 [1] s = { s with zilt := { s.zilt with leaving := 1 } }) ∧
    (∀ i l p : Nat, s.zilt.placed = true → s.zilt.id = i → s.zilt.level = l → s.zilt.parent = p →
      mgmtEffect 0x22 [(i : Int), (l : Int), (p : Int)] s = s) ∧
    (∀ i : Nat, ∃ t, mgmtEffect 0x25 [1, (i : Int)] s = t ∧ (∀ c ∈ t.zilt.children, c.id ≠ i) ∧
      t.zilt.departures = (s.zilt.departures + 1) % 256 ∧
      t = { s with zilt := { s.zilt with children := t.zilt.children, departures := t.zilt.departures } }) ∧
    (∀ (code seq : Nat) (tell : Bool) (a : List Int), code ≠ 0x10 → code ≠ 0x27 →
      let t := mgmtEffect code a s
      let u : State := { t with cap := { t.cap with changed := t.cap.changed || decide (mgmtLimits t ≠ mgmtLimits s) } }
      mgmtEdgeOne (code, (tell.toNat : Int) :: (seq : Int) :: a) s =
        if tell then { u with out := u.out ++ [.resp code seq 0 []] } else u) ∧
    (∀ l : List Int, s.time.pendCount.isSome = true →
      mgmtEdgeOne (0x10, l) s = { s with mgmt := { s.mgmt with todo := s.mgmt.todo ++ [(0x10, l)] } })

/-- R301, Table 10-7, R309. -/
def Obligations.MgmtOutOfTurn : Prop :=
  (∀ (seq a : Nat) (s : State), s.start.blkUp = true → s.start.bclkAbsent = false → s.start.state ≠ 0 → holdOut s = true →
    exec (.setThrottleLevel seq a) s =
      .next (emit (.resp 0x13 (seq % 2 ^ 32) 5 []) (event 0xE006 0x13 { s with out := [] }))) ∧
  (∀ (seq a n : Nat) (s : State), running s = true → s.mgmt.next = some n → n < 2 ^ 32 → seq < 2 ^ 32 →
    let d := (seq + 2 ^ 32 - n) % 2 ^ 32
    let came : TimeSt := { s.time with came := tset 0 srcMgmt s.time.edgeN s.time.came }
    (1 ≤ d → d < 2 ^ 31 → s.mgmt.held.length < 8 → (∀ h ∈ s.mgmt.held, h.seq ≠ seq) →
      ∃ t, exec (.setThrottleLevel seq a) s = .next t ∧ t.out = [.resp 0x13 seq 1 []] ∧
        t.mgmt.held.length = s.mgmt.held.length + 1 ∧
        t = { s with out := t.out, time := came, mgmt := { s.mgmt with lastUp := s.time.up, held := t.mgmt.held } }) ∧
    (2 ^ 31 ≤ d ∨ (1 ≤ d ∧ ∃ h ∈ s.mgmt.held, h.seq = seq) →
      exec (.setThrottleLevel seq a) s = .next { s with
        out := [.resp 0x13 seq 2 []], time := came, mgmt := { s.mgmt with dupCmds := (s.mgmt.dupCmds + 1) % 2 ^ 16 } }))

/-- R153, R301, R302, R415, R416. -/
def Obligations.MgmtOther : Prop :=
  ∀ s : State, running s = true →
    (∀ seq : Nat, ∃ t, exec (.managementHeartbeat seq) s = .next t ∧ t.mgmt.state = 0 ∧ t.mgmt.lastUp = s.time.up ∧
      (∃ d, t.out = [.resp 1 seq 0 d]) ∧
      t = { s with out := t.out, mgmt := { s.mgmt with state := 0, lastUp := s.time.up },
                   regs := { s.regs with cause := if s.mgmt.state = 0 then s.regs.cause else causeSet 10 0 s.regs.cause } }) ∧
    (∀ seq : Nat, exec (.getSequenceState seq) s = .next { s with out := [.resp 2 seq 0
      (leBytes 4 (s.mgmt.next.getD 0) ++ [s.mgmt.held.length] ++ leBytes 4 s.mgmt.gapFirst ++ leBytes 4 s.mgmt.gapLen)] }) ∧
    (∀ seq : Nat, ∃ d, exec (.getStatus seq) s = .next { s with out := [.resp 3 seq 0 d] } ∧ d.length = 24) ∧
    (∀ seq off : Nat, rpResp false false 1 off = 0 → ∃ t, exec (.getRegister seq off) s = .next t ∧
      t.out = [.resp 4 seq 0 (leBytes 4 (regValue { s with out := [] } 1 0 off).toNat)] ∧
      t = { s with out := t.out, free := s.free + 1, time := { s.time with hiLatch := t.time.hiLatch } }) ∧
    (∀ seq off : Nat, rpResp false false 1 off ≠ 0 →
      exec (.getRegister seq off) s = .next { s with out := [.resp 4 seq (rpResp false false 1 off) [0, 0, 0, 0]] }) ∧
    (∀ (seq : Nat) (v : Int), -640 ≤ v → v ≤ 2000 →
      exec (.reportCoolantTemperature seq v) s = .next { s with
        out := [.resp 5 seq 0 []], time := { s.time with came := tset 0 srcCool s.time.edgeN s.time.came },
        tel := { s.tel with coolant := some (v, s.time.up), coolNew := true } }) ∧
    (∀ (code seq : Nat) (w : Bool), code ≠ 0x20 → exec (.unknownCommand code seq w) s =
      .next (emit (.resp code seq (if w then 8 else 7) []) (event 0xE006 (code : Int) { s with out := [] }))) ∧
    (∀ (n : Nat) (h : HeldCmd) (r : List HeldCmd), s.mgmt.next = some n → s.mgmt.held = h :: r →
      h.since + 1000 * bits (areg s 0x9090) 15 0 ≤ s.time.up →
      ∃ t, exec .mgmtGapTimeout s = .next t ∧ t.mgmt.gaps = (s.mgmt.gaps + 1) % 256 ∧ t.mgmt.gapFirst = n ∧
        t.mgmt.gapLen = seqDist n h.seq ∧ (tget 0 10 t.regs.cause).testBit 1 = true ∧ t.flash = s.flash ∧
        t.curt = s.curt ∧ t.tk = s.tk ∧ t.pending = s.pending) ∧
    (s.mgmt.state = 0 → s.mgmt.lastUp + 2000000 ≤ s.time.up →
      exec .heartbeatLost s = .next (raise 10 0 (report 0xB004 0 { s with
        out := [], mgmt := { s.mgmt with state := 1 } }))) ∧
    (s.mgmt.state = 1 → s.mgmt.lastUp + 30000000 ≤ s.time.up →
      exec .orphan s = .next { s with
        out := [], mgmt := { s.mgmt with state := 2 }, regs := { s.regs with cause := causeSet 10 0 s.regs.cause } })

/-- R411, R412, R413, R414. The numeric codes are those of log entry 70; free bytes are Config.standardBytes. -/
def Obligations.PortAnswers : Prop :=
  ∀ s : State, s.start.blkUp = true → s.start.bclkAbsent = false → s.start.state ≠ 0 →
    let answer : Emit → Host.Outcome State Fault Refusal := fun e => .next { s with out := [e] }
    let sets : PortSt → Host.Outcome State Fault Refusal := fun p => .next { s with out := [], port := p }
    (∀ e, e % 256 = 0 ∨ e % 256 = 255 → exec (.setEndpointId e) s = answer (.mctp 1 2 [])) ∧
    (∀ e, e % 256 ≠ 0 → e % 256 ≠ 255 → exec (.setEndpointId e) s = .next { s with
      out := [.mctp 1 0 [0, e % 256, 0]], port := { s.port with eid := e % 256 } }) ∧
    (∃ l, exec .getEndpointId s = answer (.mctp 2 0 (s.port.eid :: l))) ∧
    (∃ l, exec .getEndpointUuid s = answer (.mctp 3 0 l)) ∧
    (∀ t, ∃ l, exec (.getMctpVersionSupport t) s = answer (.mctp 4 0 l)) ∧
    exec .getMessageTypeSupport s = answer (.mctp 5 0 [2, 1, 0x7F]) ∧
    (∃ l, exec (.getVendorDefinedMessageSupport 0) s = answer (.mctp 6 0 ([0xFF, 1, s.par.ianaPen / 2 ^ 24 % 256,
      s.par.ianaPen / 2 ^ 16 % 256, s.par.ianaPen / 2 ^ 8 % 256, s.par.ianaPen % 256] ++ l))) ∧
    (∀ n, n ≠ 0 → exec (.getVendorDefinedMessageSupport n) s = answer (.mctp 6 2 [])) ∧
    exec .mctpReassemblyTimeout s = sets { s.port with mctpDrop := (s.port.mctpDrop + 1) % 256 } ∧
    (∃ l, exec .getTid s = answer (.pldm 0 2 0 l)) ∧
    (∀ t, ∃ l, exec (.getPldmVersion t) s = answer (.pldm 0 3 0 l)) ∧
    exec .getPldmTypes s = answer (.pldm 0 4 0 [5, 0, 0, 0, 0, 0, 0, 0]) ∧
    exec (.getPldmCommands 0) s = answer (.pldm 0 5 0 (0x3C :: List.replicate 31 0)) ∧
    exec (.getPldmCommands 2) s = answer (.pldm 0 5 0
      ([0, 0, 2, 0, 2, 0, 0, 0, 0, 0, 3] ++ List.replicate 21 0)) ∧
    (∀ t, t ≠ 0 → t ≠ 2 → exec (.getPldmCommands t) s = answer (.pldm 0 5 0x83 [])) ∧
    exec (.getSensorReading 1) s = answer (.pldm 2 0x11 0 (leBytes 8 (twos 64 (s.core.app.est.pCtl : Int)))) ∧
    exec (.getSensorReading 2) s = answer (.pldm 2 0x11 0 (leBytes 8 (twos 64 s.core.app.therm.tTh))) ∧
    exec (.getSensorReading 4) s = answer (.pldm 2 0x11 0 (leBytes 8 (twos 64 ((s.tel.eMeas / 65536 : Nat) : Int)))) ∧
    (∃ l, exec (.getSensorReading 3) s = answer (.pldm 2 0x11 0 l) ∧
      ∀ v, hottestPair s.curt = some v → l = leBytes 8 (twos 64 v)) ∧
    (∀ n, n = 0 ∨ 4 < n → exec (.getSensorReading n) s = answer (.pldm 2 0x11 0x80 [])) ∧
    exec (.getStateSensorReadings 5) s = answer (.pldm 2 0x21 0 [s.core.app.therm.state]) ∧
    exec (.getStateSensorReadings 6) s = answer (.pldm 2 0x21 0 [s.fault.cls]) ∧
    (∀ n, n ≠ 5 → n ≠ 6 → exec (.getStateSensorReadings n) s = answer (.pldm 2 0x21 0x80 [])) ∧
    (∃ l, exec .getPdrRepositoryInfo s = answer (.pldm 2 0x50 0 (6 :: l))) ∧
    (∀ r, ∃ l, exec (.getPdr r) s = answer (.pldm 2 0x51 0 l)) ∧
    (∀ t c, exec (.unsupportedPldmCmd t c) s = answer (.pldm t c 5 [])) ∧
    (∀ a, s.port.da = none → exec (.entdaa a) s = sets { s.port with da := some (a % 128) }) ∧
    (∀ a d, s.port.da = some d → exec (.entdaa a) s = sets s.port) ∧
    (∀ a, s.port.da = none → s.par.i3cStatic ≠ 0 →
      exec (.setdasa s.par.i3cStatic a) s = sets { s.port with da := some (a % 128) }) ∧
    exec .rstdaa s = sets { s.port with da := none } ∧
    (∀ m, exec (.enec m) s = sets { s.port with events := s.port.events ||| m % 256 }) ∧
    (∀ m, exec (.disec m) s = sets { s.port with events := s.port.events - (s.port.events &&& m) }) ∧
    (∃ l, exec .getPid s = answer (.ccc 0x8D l)) ∧ (∃ l, exec .getBcr s = answer (.ccc 0x8E l)) ∧
    (∃ l, exec .getDcr s = answer (.ccc 0x8F l)) ∧
    (∃ l, exec .i3cGetStatus s = .next { s with out := [.ccc 0x90 l], free := s.free + 1 }) ∧
    (∀ n, exec (.setMwl n) s = sets { s.port with mwl := min 69 n }) ∧
    (∀ n, exec (.setMrl n) s = sets { s.port with mrl := min 69 n }) ∧
    exec .getMwl s = answer (.ccc 0x8B [s.port.mwl / 256, s.port.mwl % 256]) ∧
    exec .getMrl s = answer (.ccc 0x8C [s.port.mrl / 256, s.port.mrl % 256]) ∧
    exec .rstact s = sets { s.port with da := none, events := 0, mwl := 69, mrl := 69 } ∧
    (∀ t, exec .getPldmTypes s = .next t → ibiSignal t = (s.port.da.isSome && s.port.events.testBit 0))

/-- R400. -/
def Obligations.RegisterPort : Prop :=
  ∀ (p ctx off : Nat) (d : Word) (s : State),
    (rpAlive s = false → portWaits s off = false →
      exec (.registerWrite p off d) s = .next { s with out := [] } ∧
      exec (.loRegisterRead p ctx off) s = .next { s with out := [] }) ∧
    (rpAlive s = true →
      (let r := if regClass off = none then 2 else if s.start.state = 15 then 3
         else if (regClass off).map (mayWrite p) = some false then 1 else 0
       portWaits s off = false →
       (r ≠ 0 → exec (.registerWrite p off d) s = .next { s with
         out := [.reg r 0],
         regs := { s.regs with
           resp := r, rdata := 0,
           privDenied := if r = 1 then (s.regs.privDenied + 1) % 2 ^ 16 else s.regs.privDenied,
           badAddr := if r = 2 then (s.regs.badAddr + 1) % 2 ^ 8 else s.regs.badAddr,
           lockWrites := if r = 3 then (s.regs.lockWrites + 1) % 2 ^ 8 else s.regs.lockWrites } }) ∧
       (r = 0 → ∃ u, u = regWrite p off d.toNat { s with out := [] } ∧ exec (.registerWrite p off d) s = .next { u with
         out := u.out ++ [.reg 0 0], regs := { u.regs with resp := 0, rdata := 0 } })) ∧
      (let r := if regClass off = none then 2 else if (regClass off).map (mayRead p) = some false then 1 else 0
       (r ≠ 0 → exec (.loRegisterRead p ctx off) s = .next { s with
         out := [.reg r 0],
         regs := { s.regs with
           resp := r, rdata := 0,
           privDenied := if r = 1 then (s.regs.privDenied + 1) % 2 ^ 16 else s.regs.privDenied,
           badAddr := if r = 2 then (s.regs.badAddr + 1) % 2 ^ 8 else s.regs.badAddr } }) ∧
       (r = 0 → ∃ (v : Word) (hi : Tab Nat), v = regValue { s with out := [] } p ctx off ∧
         exec (.loRegisterRead p ctx off) s = .next { s with
           out := [.reg 0 v], regs := { s.regs with resp := 0, rdata := v }, time := { s.time with hiLatch := hi },
           free := s.free + 1 })))

/-- R11, R15, R401, R435. -/
def Obligations.HostAccess : Prop :=
  (∀ (p off : Nat) (d : Word) (s : State), s.portOpen → 1 ≤ p → p ≤ 2 →
    (regRow off).isSome = true → (regClass off).isSome = true → (∀ c, regClass off = some c → mayWrite p c = true) →
    off ∉ [0x200C, 0x2030, 0x2034, 0x2094, 0x3008, 0x3010, 0x301C, 0x4014, 0x5004, 0x5010, 0x5084, 0x50C4, 0x6010, 0x6014,
      0x704C, 0x7060, 0x8010, 0xA014, 0xA01C, 0xB028, 0xB040, 0xB048, 0xC00C, 0xC014, 0xD060, 0xD104, 0xD108, 0xD10C, 0xD110,
      0xD114, 0xD118, 0xD124, 0xD188, 0xE020, 0xE024] → ¬ (0xA040 ≤ off ∧ off ≤ 0xA074) → ¬ (0xE000 ≤ off ∧ off ≤ 0xE01C) →
    ¬ (0x80 ≤ off ∧ off ≤ 0xF4 ∧ off % 8 = 0) →
    exec (.registerWrite p off d) s = .next (rpAnswer 0 0 { s with
      out := [],
      regs := { s.regs with
        wr := tset (regReset off) off (regWord off (tget (regReset off) off s.regs.wr) d.toNat) s.regs.wr } })) ∧
  (∀ (p : Nat) (d : Word) (s : State), s.portOpen → 1 ≤ p → p ≤ 2 →
    let put : Nat → Nat → Host.Outcome State Fault Refusal := fun off w => .next (rpAnswer 0 0 { s with
      out := [],
      regs := { s.regs with
        wr := tset (regReset off) off (regWord off (tget (regReset off) off s.regs.wr) w) s.regs.wr } })
    exec (.registerWrite p 0x8010 d) s = put 0x8010 (twos 16 (thmTargetOf (thrNow s) d.toNat)) ∧
    (∀ off, off = 0xD108 ∨ off = 0xD124 → exec (.registerWrite p off d) s =
      if (trcSel s).isSome then put off d.toNat else .next (rpAnswer 0 0 { s with out := [] }))) ∧
  (∀ (p g : Nat) (d : Word) (s : State), s.portOpen → 1 ≤ p → g ≤ 14 →
    exec (.registerWrite p (0x80 + 8 * g) d) s = .next (rpAnswer 0 0 { s with
      out := [],
      regs := { s.regs with
        cause := tset 0 g (tget 0 g s.regs.cause - (tget 0 g s.regs.cause &&& d.toNat)) s.regs.cause } })) ∧
  (∀ (p : Nat) (d : Word) (s : State), s.portOpen → 1 ≤ p →
    (s.port.posted = none → exec (.registerWrite p 0xE020 d) s = .next (rpAnswer 0 0 { s with
      out := [], port := { s.port with posted := some (d.toNat / 2 ^ 16 % 2 ^ 16, d.toNat % 2 ^ 8) } })) ∧
    (s.port.posted.isSome = true → exec (.registerWrite p 0xE020 d) s = .next (rpAnswer 0 0 (raise 14 1 { s with
      out := [], port := { s.port with overrun := true } })))) ∧
  (∀ (seq code : Nat) (s : State), s.port.posted = some (seq, code) → clocked s = true → s.start.state ≠ 15 →
    let u := { s with out := [] }
    let fin : Nat → Tab Nat → State → Host.Outcome State Fault Refusal := fun res out x => .next (raise 14 0 { x with
      port := { x.port with posted := none, echoSeq := seq, echoCode := code, result := res, res := out } })
    (code = 0 → exec .nop s = fin 0 s.port.res u) ∧
    (code = 1 →
      let n := tget 0 0 s.port.args
      let ps := (List.range n).map (fun i => (tget 0 (2 * i + 1) s.port.args, tget 0 (2 * i + 2) s.port.args))
      (1 ≤ n → n ≤ 3 → (∀ x ∈ ps, pairOk x = true) → ∃ v, v = ps.foldl (fun x q => regWrite 1 q.1 q.2 x) u ∧
        exec .apply s = fin 0 v.port.res v) ∧
      (n = 0 ∨ 3 < n ∨ (∃ x ∈ ps, pairOk x = false) → exec .apply s = fin 2 s.port.res u)) ∧
    (code = 2 →
      (programOn s = false → exec .readCut s = fin 4 s.port.res u) ∧
      (programOn s = true → ∃ res, exec .readCut s = fin 0 res u ∧ tget 0 0 res = s.time.count % 2 ^ 32 ∧
        tget 0 1 res = s.time.count / 2 ^ 32 % 2 ^ 32 ∧ tget 0 4 res = (regValue u 1 0 0x6000).toNat ∧
        tget 0 5 res = (regValue u 1 0 0x8000).toNat)) ∧
    (code = 3 → s.port.storeAll = none → s.margin.done = true → s.pb.valid = true → s.book.storing = none →
      s.book.storeWait = false → exec .storeAll s = .next { u with
        margin := { s.margin with storing := some (marginRecord s), done := false },
        book := { s.book with storeWait := true, done := false }, port := { s.port with storeAll := some seq } }))

/-- R304, R305, R306, R269, R337. -/
def Obligations.ResetCommands : Prop :=
  (∀ s : State, s.start.aoUp = true → s.curt.lockout = false → s.start.porstLow = false →
    ∃ t, exec .porstNAssert s = .next t ∧ t.start.porstLow = true ∧ t.start.state = 0 ∧ holdOut t = true ∧
      t.time = State.reset.time ∧ t.ord = State.reset.ord ∧ t.core = State.reset.core ∧ t.tk = State.reset.tk ∧
      t.tel = State.reset.tel ∧ t.law = State.reset.law ∧ t.cap = State.reset.cap ∧ t.margin = State.reset.margin ∧
      t.pkg = State.reset.pkg ∧ t.zilt = State.reset.zilt ∧ t.mgmt = State.reset.mgmt ∧ t.book = State.reset.book ∧
      t.regs = State.reset.regs ∧ t.obs = State.reset.obs ∧ t.pb = State.reset.pb ∧ t.fault.isOpen = false ∧
      t.par = s.par ∧ t.curt = s.curt ∧ t.pending = s.pending) ∧
  (∀ s : State, s.start.aoUp = true → s.start.porstLow = true → s.start.hrstLow = false → s.start.blkUp = true →
    s.curt.lockout = false →
    exec .porstNRelease s = .next { s with
      out := [],
      start := { s.start with porstLow := false, state := 1, causeCode := 0, curtPend := false, warm := false,
                              starts := 0 } }) ∧
  (∀ s : State, s.start.hrstLow = false → s.curt.lockout = false → s.start.blkUp = true → s.start.porstLow = false →
    s.start.undef = false →
    ∃ t, exec .hrstNAssert s = .next t ∧ t.start.hrstLow = true ∧ t.start.state = 0 ∧ holdOut t = true ∧
      t.time = { s.time with hiLatch := [], begun := false } ∧ t.margin.trim = s.margin.trim ∧ t.margin.lastDown = s.margin.lastDown ∧
      t.cap.mDie = s.cap.mDie ∧ t.cap.mPkg = s.cap.mPkg ∧ t.cap.ramp = s.cap.ramp ∧ t.therm.mgmt = s.therm.mgmt ∧
      t.start.keyDigest = s.start.keyDigest ∧ t.start.keyLocked = s.start.keyLocked ∧ t.mgmt.next = s.mgmt.next ∧
      t.tel.eMeas = s.tel.eMeas ∧ t.core.app.est.ctxE = s.core.app.est.ctxE ∧
      t.tk = State.reset.tk ∧ t.law = State.reset.law ∧ t.pkg = State.reset.pkg ∧ t.regs = State.reset.regs ∧
      t.ord = State.reset.ord ∧ t.pb = State.reset.pb ∧ t.fault.isOpen = false ∧
      t.par = s.par ∧ t.curt = s.curt ∧ t.pending = s.pending) ∧
  (∀ s : State, s.start.hrstLow = false → s.curt.lockout = false → s.start.blkUp = true → s.start.porstLow = false →
    s.start.undef = true →
    ∃ t, exec .hrstNAssert s = .next t ∧ t.start.hrstLow = true ∧ t.start.undef = true ∧ t.time = State.reset.time ∧
      t.tk = State.reset.tk ∧ t.margin = State.reset.margin ∧ t.mgmt = State.reset.mgmt ∧ t.par = s.par ∧
      t.curt = s.curt ∧ t.pending = s.pending) ∧
  (∀ s : State, s.start.hrstLow = true → s.start.porstLow = false → s.start.blkUp = true → s.curt.lockout = false →
    exec .hrstNRelease s = .next { s with
      out := [],
      start := { s.start with
        hrstLow := false, undef := false, state := 1, causeCode := 1, curtPend := false, warm := !s.start.undef,
        starts := if s.start.undef then 0 else (s.start.starts + 1) % 2 ^ 16 } }) ∧
  (∀ s : State, s.start.blkUp = true →
    ∃ t, exec .blockSupplyLoss s = .next t ∧ t.start.blkUp = false ∧ holdOut t = true ∧
      t.start.causeCode = s.start.causeCode ∧ t.start.curtPend = s.start.curtPend ∧
      t.time = State.reset.time ∧ t.tk = State.reset.tk ∧ t.law = State.reset.law ∧ t.cap = State.reset.cap ∧
      t.margin = State.reset.margin ∧ t.mgmt = State.reset.mgmt ∧ t.regs = State.reset.regs ∧
      t.fault.isOpen = false ∧ t.fault.held = s.fault.held ∧
      t.par = s.par ∧ t.curt = s.curt ∧ t.pending = s.pending) ∧
  (∀ s : State, s.start.blkUp = false → s.start.porstLow = false → s.start.hrstLow = false → s.curt.lockout = false →
    s.fault.held = [] →
    exec .blockSupplyReturn s = .next { s with
      out := [],
      start := { s.start with blkUp := true, aoUp := true, state := 1, causeCode := if s.start.curtPend then 2 else 0,
                              curtPend := false, warm := false, starts := 0 } }) ∧
  (∀ s : State, ∃ t, exec .alwaysOnSupplyRemoval s = .next t ∧ t.start.aoUp = false ∧ t.start.blkUp = false ∧
      t.curt = State.reset.curt ∧ t.time = State.reset.time ∧ t.cap = State.reset.cap ∧ t.fault = State.reset.fault ∧
      t.par = s.par ∧ t.pending = s.pending) ∧
  (∀ s : State, s.curt.lockout = true →
    exec .porstNAssert s = .next { s with out := [] } ∧ exec .hrstNAssert s = .next { s with out := [] })

/-- R267, R306, R310, R317, R318, R319, R320, R408, R434. -/
def Obligations.StartStages : Prop :=
  (∀ s : State, inStage s 1 = true → exec (.curtainTest []) s = .next { s with
      out := [], start := { s.start with state := 2 }, curt := { s.curt with selftestOk := true } }) ∧
  (∀ s : State, inStage s 2 = true → ∃ t, exec .memInit s = .next t ∧ t.start.state = 3 ∧ t.port.cueReady = true ∧
      t = { s with out := t.out, start := { s.start with state := 3 }, law := { s.law with railV := t.law.railV },
                   port := { s.port with fseq := t.port.fseq, cueReady := true } }) ∧
  (∀ (rev d : Nat) (quad : Bool) (s : State), inStage s 3 = true → 27 ≤ d →
    exec (.discover true rev d true quad) s = .next { s with
      out := [],
      start := { s.start with state := 4, flashOk := true, density := d, sfdpRev := rev, mode := if quad then 2 else 1,
                              addr4 := decide (27 < d) } }) ∧
  (∀ s : State, inStage s 4 = true → readBad s.par.build (startSrc s) = none →
    ∃ t, exec .read s = .next t ∧
      t.start.state = (if s.par.secRelease = 1 ∧ s.start.keyLocked = false then 5 else 6) ∧
      t.start.coldDue = false ∧
      State.onlyTold { s with out := [], start := { s.start with state := t.start.state, coldDue := false },
                              margin := t.margin } t) ∧
  (∀ s : State, inStage s 5 = true →
    exec .keyWaitAttn s = .next { s with out := [], start := { s.start with keyWaitLong := true } }) ∧
  (∀ s : State, s.portOpen → s.start.keyLocked = false →
    exec (.release 3) s = .next (rpAnswer 0 0 { s with
      out := [], start := { s.start with keyLocked := true, state := if s.start.state = 5 then 6 else s.start.state } })) ∧
  (∀ (data : Word) (s : State), s.portOpen → s.start.keyLocked = false → s.par.secRelease = 1 →
    exec (.keyRegWrite 3 0xA070 data) s = .next (rpAnswer 0 0 { s with
      out := [], start := { s.start with keyMinVer := data.toNat } })) ∧
  (∀ (i : Nat) (data : Word) (s : State), s.portOpen → s.start.keyLocked = false → s.par.keySource = 1 → i < 12 →
    exec (.keyRegWrite 3 (0xA040 + 4 * i) data) s = .next (rpAnswer 0 0 { s with
      out := [], start := { s.start with keyDigest := s.start.keyDigest.set i data.toNat } })) ∧
  (∀ s : State, inStage s 6 = true → ∃ t, exec .verify s = .next t ∧ t.flash = s.flash ∧ t.pb = s.pb ∧
      (verifyNow s (startSrc s) = none → t = { s with out := [], start := { s.start with state := 7 } }) ∧
      (∀ b : Bad, verifyNow s (startSrc s) = some b → t.start.state = 14 ∧ t.start.reason = b.reason ∧
        t.start.offset = b.off ∧ t.fault.safe = true)) ∧
  (∀ s : State, inStage s 7 = true → ∃ t, exec .check s = .next t ∧ t.par = s.par ∧ t.curt = s.curt ∧
      t.flash = s.flash ∧ t.pending = s.pending ∧
      (contentBad s.par (startSrc s) (sections s.par.build (startSrc s).rd).2 (startContent s).1 = none →
        t.start.state = 8 ∧ t.pb = (startContent s).1 ∧ t.regs.act = t.regs.wr ∧ t.tk.cost = t.pb.cost ∧
        t.law.scene = t.pb.scenes ∧ t.time.pSel = t.pb.cap.pSel ∧ t.mgmt = s.mgmt) ∧
      (∀ b : Bad, contentBad s.par (startSrc s) (sections s.par.build (startSrc s).rd).2 (startContent s).1 = some b →
        t.start.state = 14 ∧ t.start.reason = b.reason ∧ t.start.offset = b.off ∧ t.fault.safe = true)) ∧
  (∀ s : State, s.start.live = false → s.start.blkUp = true → s.start.bclkAbsent = false → 3 ≤ s.start.state →
    s.start.state ≤ 8 →
    ∃ t, exec .pingRepeat s = .next t ∧
      t.out.length = (s.pb.law.rails.filter (fun r => r.2.iface = 0 && !s.port.replied.contains r.1)).length ∧
      t = { s with out := t.out, port := { s.port with fseq := t.port.fseq } })

/-- R267, R319, R321, R421. -/
def Obligations.StartRefused : Prop :=
  (∀ (a : Nat) (l : List Nat) (s : State), inStage s 1 = true → s.curt.lockout = false →
    ∃ t, exec (.curtainTest (a :: l)) s = .next t ∧ t.curt.lockout = true ∧ t.curt.lockCause = 1 ∧
      t.curt.selftestOk = false ∧ t.start.state = 15 ∧ t.fault.safe = true) ∧
  (∀ (rev d : Nat) (e q : Bool) (s : State), inStage s 3 = true →
    (∃ t, exec (.discover false rev d e q) s = .next t ∧ t.start.state = 14 ∧ t.start.reason = 1 ∧ t.fault.safe = true ∧
      t.fault.isOpen = true ∧ 4 ≤ t.fault.cls) ∧
    (d < 27 ∨ e = false → ∃ t, exec (.discover true rev d e q) s = .next t ∧ t.start.state = 14 ∧ t.start.reason = 2 ∧
      t.start.density = d ∧ t.start.sfdpRev = rev ∧ t.fault.safe = true)) ∧
  (∀ (b : Bad) (s : State), inStage s 4 = true → readBad s.par.build (startSrc s) = some b →
    ∃ t, exec .read s = .next t ∧ t.start.state = 14 ∧ t.start.reason = b.reason ∧ t.start.sect = b.sect ∧
      t.start.detail = b.detail ∧ t.start.offset = b.off ∧ t.fault.safe = true ∧ t.flash = s.flash ∧ t.pb = s.pb) ∧
  (∀ s : State, inStage s 3 = true ∨ inStage s 4 = true → s.margin.storing = none → s.book.storing = none →
    ∃ t, exec .flashReadTimeout s = .next t ∧ t.start.state = 14 ∧ t.start.reason = 3 ∧ t.fault.safe = true ∧
      t.flash = s.flash ∧ t.pb = s.pb)

/-- R308, R338. -/
def Obligations.GoesLive : Prop :=
  ∀ (c u i : Nat) (s : State), s.start.blkUp = true → s.start.bclkAbsent = false → s.start.state = 8 →
    programRuns s = true → edgeDue s.time = some (c, u, i) → s.start.restartWait = false → (∀ r ∈ s.core.out.reports, faultClass r.1 < 4) →
    ∃ t, exec .live s = .next t ∧ t.start.state = 9 ∧ t.start.live = true ∧ t.fault.errFault = false ∧
      t.time.k = edgeNumber s.time.pSel c i ∧ t.time.edgeUp = u ∧ t.time.subIdx = i ∧
      t.par = s.par ∧ t.pb = s.pb ∧ t.flash = s.flash ∧ t.curt = s.curt ∧ t.pending = s.pending

/-- R322, R323. -/
def Obligations.LoaderCommands : Prop :=
  (∀ (p : Nat) (s : State), s.portOpen → 1 ≤ p → s.start.state = 14 → s.start.ldBusy = false →
    ∃ t, exec (.load p) s = .next t ∧ t.start.state = 10 ∧ t.start.streaming = true ∧ t.start.ldOp = 1 ∧
      t.start.ldBusy = true ∧ t.start.ldDone = false ∧ t.start.ldGot = [] ∧ t.start.warm = true ∧
      t.start.causeCode = 3 ∧ t.regs.resp = 0 ∧ t.flash = s.flash ∧ t.par = s.par ∧ t.curt = s.curt ∧
      t.pending = s.pending) ∧
  (∀ (p : Nat) (s : State), s.portOpen → 1 ≤ p → s.start.state = 14 ∨ s.start.state = 9 → s.start.ldBusy = false →
    s.start.flashOk = true →
    let began := fun (op : Nat) => rpAnswer 0 0 (putReg 0xA014 op { s with
      out := [],
      start := { s.start with
        ldOp := op, ldLen := clampN 4 8388608 (wreg s 0xA018 / 4 * 4), ldGot := [], ldUp := none, ldBusy := true,
        ldDone := false, ldStatus := 0 } })
    exec (.program p) s = .next (began 2) ∧ exec (.programCal p) s = .next (began 3)) ∧
  (∀ (p : Nat) (s : State), s.portOpen → 1 ≤ p → s.start.state = 14 ∨ s.start.state = 9 → s.start.ldBusy = false →
    storeRuns s = false → s.curt.lockout = false → s.start.porstLow = false → s.start.hrstLow = false →
    ∃ t, exec (.restart p) s = .next t ∧ t.start.state = 1 ∧ t.start.causeCode = 3 ∧ t.start.warm = true ∧
      t.time = { s.time with hiLatch := [], begun := false } ∧ t.tk = State.reset.tk ∧ t.law = State.reset.law ∧
      t.flash = s.flash ∧ t.par = s.par ∧ t.curt = s.curt ∧ t.pending = s.pending) ∧
  (∀ (p : Nat) (data : Word) (s : State), s.portOpen → 1 ≤ p → streamOpen s = true → storeRuns s = false →
    4 * (s.start.ldGot.length + 1) < s.start.ldLen →
    streamWrong s.start.ldOp s.start.ldLen (s.start.ldGot ++ [data.toNat]) = false →
    exec (.loadData p data) s = .next (rpAnswer 0 0 { s with
      out := [], start := { s.start with ldGot := s.start.ldGot ++ [data.toNat], ldUp := some s.time.up } })) ∧
  (∀ s : State, s.start.blkUp = true → s.start.bclkAbsent = false → streamOpen s = true → storeRuns s = false →
    s.start.ldOp = 3 → s.start.ldUp ≠ some s.time.up →
    exec .loadStreamTimeout s = .next (raise 11 1 { s with
      out := [],
      start := { s.start with
        ldBusy := false, ldDone := true, ldStatus := 3, ldGot := [], reason := 0x60, sect := 0, detail := 0,
        offset := 4 * s.start.ldGot.length } })) ∧
  (∀ s : State, s.start.ldBusy = true → streamOpen s = false → storeRuns s = false → s.start.ldOp = 3 →
    exec (.loaderDone false s.start.ldGot) s = .next (raise 11 1 { s with
      out := [],
      flash := flashWrite (flashWord s.flash 28) (ceilDiv s.start.ldLen 4096 * 4096) s.start.ldGot s.flash,
      start := { s.start with ldBusy := false, ldDone := true, ldStatus := 0, ldGot := [] } }))

/-- R349, R351, R352, R353, R357, R358, R360, R361. -/
def Obligations.BookKept : Prop :=
  (∀ (b : BookSt) (cap up tick code sev i : Nat) (v : Int), bookFind b code = none →
    i < cap → (tget bookSlot0 i b.slots).work = none → (∀ j, j < i → (tget bookSlot0 j b.slots).work ≠ none) →
    ∃ (x : BookSlot) (e : Entry), bookDeliver b cap up tick code sev v =
        ({ b with slots := tset bookSlot0 i x b.slots }, false) ∧
      x.work = some e ∧ x.pub = some e ∧ x.seq = ((tget bookSlot0 i b.slots).seq + 2) % 2 ^ 32 ∧ e.code = code ∧
      e.sev = sev ∧ e.count = 1 ∧ e.min = v ∧ e.max = v ∧ e.lastValue = v ∧ e.firstTick = tick ∧ e.lastTick = tick ∧
      e.firstOpmin = b.opmin ∧ e.lastOpmin = b.opmin) ∧
  (∀ (b : BookSt) (cap up tick code sev i : Nat) (e : Entry) (v : Int), bookFind b code = some i →
    (tget bookSlot0 i b.slots).work = some e →
    ∃ (x : BookSlot) (f : Entry), bookDeliver b cap up tick code sev v =
        ({ b with slots := tset bookSlot0 i x b.slots }, false) ∧
      x.work = some f ∧ f.code = e.code ∧ f.sev = e.sev ∧ f.count = e.count + 1 ∧ f.min = min e.min v ∧
      f.max = max e.max v ∧ f.lastValue = v ∧ f.lastTick = tick ∧ f.firstTick = e.firstTick ∧
      f.firstOpmin = e.firstOpmin ∧ (x.pub = some f ∨ x.pub = (tget bookSlot0 i b.slots).pub)) ∧
  (∀ (code i : Nat) (s : State), bookFind s.book code = some i →
    let x := tget bookSlot0 i s.book.slots
    x.dirty = true → (∀ t, x.lastPub = some t → t + (codeRow s.book.codes code).rate ≤ s.time.up) →
    exec (.pbPublish code) s = .next { s with
      out := [],
      book := { s.book with
        slots := tset bookSlot0 i { x with
          seq := (x.seq + 2) % 2 ^ 32, pub := x.work, lastPub := some s.time.up, dirty := false } s.book.slots } }) ∧
  (∀ (p : Nat) (s : State), s.portOpen → 1 ≤ p →
    let given : BookSt → Host.Outcome State Fault Refusal := fun b => .next (rpAnswer 0 0 { s with out := [], book := b })
    (s.book.storing.isSome = true ∨ s.book.storeWait = true →
      exec (.clear p) s = given { s.book with status := 1 } ∧ exec (.pbStore p) s = given { s.book with status := 1 }) ∧
    (s.book.storing = none → s.book.storeWait = false →
      exec (.clear p) s = given { s.book with clearReq := true } ∧
      (s.pb.valid = true → exec (.pbStore p) s = given { s.book with
        storing := some (bookImage s), done := false,
        ready := s.book.ready && !(wreg s 0xC00C).testBit 31 })) ∧
    (let i := wreg s 0xC00C % 2 ^ 12
     let ok := decide (s.book.stored = 0) && s.book.storing.isNone && !s.book.storeWait
     exec (.pbStoredFetch p) s = .next (rpAnswer 0 0 (
      let u := putReg 0xC00C (2 ^ 31 + i) { s with out := [] }
      { u with book := { s.book with ready := ok, fetched := if ok then some i else none } }))) ∧
    (∀ code, ∃ w : Word, exec (.pbFind p code) s = .next (
        let u := putReg 0xC010 (code % 2 ^ 16 * 2 ^ 16) { s with out := [] }
        { u with out := [.reg 0 0, .reg 0 w], regs := { u.regs with resp := 0, rdata := w } }))) ∧
  (∀ (error : Bool) (back img : List Nat) (s : State), s.book.storing = some img → s.margin.done = true →
    s.book.storeWait = false → s.port.storeAll = none → s.mgmt.shutdown = none → s.start.restartWait = false →
    ∃ (flash : Tab Nat) (ready : Bool) (st : Nat), st = (if error then 3 else if back = img then 0 else 2) ∧
      exec (.pbStoreDone error back) s = .next (raise 12 0 { s with
        out := [], flash := flash,
        book := { s.book with
          storing := none, done := true, status := st, ready := ready,
          stores := if st = 0 then (s.book.stores + 1) % 2 ^ 32 else s.book.stores } }) ∧
      (back.length ≤ 16 + 32 * bookCap s → ∀ a, a < s.pb.bookOffset ∨ s.pb.bookOffset + 2 ^ 20 ≤ a →
        tget 0xFF a flash = tget 0xFF a s.flash))

/-- R370, R374, R375, R377, R378, R381. -/
def Obligations.Observation : Prop :=
  (∀ (p : Nat) (s : State), s.portOpen → 1 ≤ p →
    let o := s.obs
    let given : ObsSt → State := fun x => { s with out := [], obs := x }
    let ok : State → Host.Outcome State Fault Refusal := fun x => .next (rpAnswer 0 0 x)
    (o.opReset = false → exec (.obsOpLatch p) s = ok (given { o with
      latched := true, final := false, capOrd := o.opOrd, capCyc := o.opCyc, capStall := o.opStall, capTkt := o.opTkt })) ∧
    (o.opReset = true → exec (.obsOpLatch p) s = ok (given { o with
      latched := true, final := true, capOrd := o.lastOrd, capCyc := o.lastCyc, capStall := o.lastStall,
      capTkt := o.lastTkt })) ∧
    (∀ i, trcSel s = some i →
      let b := tget traceBuf0 i o.bufs
      let keep := { b with link := b.link % 16, post := b.post % 2 ^ 14 }
      exec (.arm p) s = ok (given { o with bufs := tset traceBuf0 i { keep with armReq := true, asked := trcHolds keep } o.bufs }) ∧
      (b.state = 1 ∨ b.state = 2 → exec (.stop p) s = ok (raise 13 1 (given { o with
        bufs := tset traceBuf0 i { keep with armReq := false, state := 3 } o.bufs }))) ∧
      (b.state ≠ 1 → b.state ≠ 2 → exec (.stop p) s = ok (given { o with
        bufs := tset traceBuf0 i { keep with armReq := false } o.bufs }))) ∧
    (let tick := wreg s 0xD180 + 2 ^ 32 * wreg s 0xD184
     let hold := wreg s 0xD188 / 2 ^ 27 % 2
     let put : Nat → SnapSt → State := fun w x =>
       { putReg 0xD188 (w + 2 ^ 27 * hold) { s with out := [] } with obs := { o with snap := x } }
     (s.time.countSet = false → exec (.snapArm p) s = ok (put (2 ^ 31) { o.snap with status := 1 })) ∧
     (s.time.countSet = true → tick < s.time.count + 2 →
       exec (.snapArm p) s = ok (put (2 ^ 31) { o.snap with status := 2 })) ∧
     (s.time.countSet = true → s.time.count + 2 ≤ tick → o.snap.state = 2 →
       exec (.snapArm p) s = ok (put (2 ^ 31) { o.snap with status := 3 })) ∧
     (s.time.countSet = true → s.time.count + 2 ≤ tick → o.snap.state ≠ 2 →
       exec (.snapArm p) s = ok (put (2 ^ 31) { o.snap with
         status := 0, state := 1, tick := tick, freeze := decide (hold = 1), due := false })) ∧
     (o.snap.state = 1 → exec (.cancel p) s = ok (put (2 ^ 30) { o.snap with
       state := if o.snap.store = [] then 0 else 3, due := false })))) ∧
  (∀ s : State, clocked s = true → ∃ t, exec .snapIn s = .next t ∧
    (trcArmed s 3 (fun _ => true) = [] → t = { s with out := [], free := s.free + 1 }) ∧
    t = { s with
      out := [], free := s.free + 1, obs := { s.obs with bufs := t.obs.bufs },
      core := { s.core with freezeReq := t.core.freezeReq }, regs := { s.regs with cause := t.regs.cause } } ∧
    (∀ i ∈ trcArmed s 3 (fun _ => true), (tget traceBuf0 i s.obs.bufs).state = 1 →
      (tget traceBuf0 i s.obs.bufs).aFreezeOn = true → t.core.freezeReq = true)) ∧
  (∀ s : State, clocked s = true → s.obs.snap.due = true → s.time.holdover = false → ∃ t, exec .snapshotEdge s = .next t ∧
    t.obs.snap = { s.obs.snap with
      state := 2, due := false, timed := false, snaps := (s.obs.snap.snaps + 1) % 2 ^ 16, extend := 0,
      store := snapStore { s with out := [] } } ∧
    tget 0 0 t.obs.snap.store = (s.time.count + s.time.edgeUp + 2 ^ 64 - s.time.up % 2 ^ 64) % 2 ^ 32 ∧
    t = { s with
      out := [], port := { s.port with snapOutUp := s.time.up + 1 },
      obs := { s.obs with snap := t.obs.snap, bufs := t.obs.bufs },
      core := { s.core with freezeReq := t.core.freezeReq }, regs := { s.regs with cause := t.regs.cause } }) ∧
  (∀ s : State, s.obs.snap.state = 2 → exec .snapDrainDone s = .next (raise 13 2 { s with
    out := [], obs := { s.obs with snap := { s.obs.snap with state := 3 } } }))

/-- R422, R445, R446. -/
def Obligations.TestPort : Prop :=
  (∀ s : State, s.port.ir ∉ [0x10, 0x11, 0x12, 0x13, 0x14] → s.start.testMode = false →
    let at_ : Nat → State := fun n => { s with out := [], port := { s.port with ir := n } }
    exec .tapIdcode s = .next (emit (.tap 1 (leBytes 4
      (numOf [(31, 28, 3), (27, 12, 0x5452), (11, 1, s.par.idcodeMfr), (0, 0, 1)]))) (at_ 1)) ∧
    exec .tapBypass s = .next (emit (.tap 0xFF [0]) (at_ 0xFF)) ∧
    (∃ l, exec .samplePreload s = .next { emit (.tap 2 l) (at_ 2) with free := s.free + 1 })) ∧
  (∀ s : State, s.port.ir ∉ [0x10, 0x12] →
    let entered : Nat → List Nat → State → Prop := fun n l t =>
      .tap n l ∈ t.out ∧ t.port.ir = n ∧ t.start.testMode = true ∧ t.fault.errFault = true ∧
      holdOut t = true ∧ running t = false ∧ programRuns t = false ∧ t.start.state = s.start.state ∧
      t.time = s.time ∧ t.cap = s.cap ∧ t.margin = s.margin ∧ t.therm = s.therm ∧ t.curt = s.curt ∧ t.pkg = s.pkg ∧
      t.zilt = s.zilt ∧ t.mgmt = s.mgmt ∧ t.book = s.book ∧ t.obs = s.obs ∧ t.regs = s.regs ∧ t.pb = s.pb ∧
      t.par = s.par ∧ t.flash = s.flash ∧ t.pending = s.pending ∧ (holdOut s = true → t.tk = s.tk ∧ t.law = s.law)
    (∃ t, exec .mbistRun s = .next t ∧ entered 0x10 [1] t ∧ t.port.mbistBusy = true ∧ t.port.mbistDone = false) ∧
    (∃ t, exec .mbistResult s = .next t ∧ entered 0x11 (leBytes 4 s.port.mbistResult.toNat) t ∧
      t.port = { s.port with ir := 0x11, fseq := t.port.fseq, friQ := t.port.friQ }) ∧
    (∃ (l : List Nat) (t : State), exec .scanBlock s = .next t ∧ entered 0x12 l t ∧
      t.port = { s.port with ir := 0x12, fseq := t.port.fseq, friQ := t.port.friQ }) ∧
    (∃ t, exec .paramRead s = .next t ∧ entered 0x13 [s.par.build, s.par.patch, s.par.keySource, s.par.secRelease,
      twos 16 s.par.curtWired, s.par.safeFreq, s.par.safeVolt, s.par.safeRails, s.par.i3cStatic, s.par.i3cPidInst,
      s.par.dbpVendor, s.par.ianaPen, s.par.idcodeMfr] t) ∧
    (∃ (l : List Nat) (t : State), exec .aoMirror s = .next t ∧ entered 0x14 l t ∧ l.length = 36)) ∧
  (∀ s : State, s.port.ir = 0x10 ∨ s.port.ir = 0x12 → s.start.testMode = true →
    ∃ t, exec .tapBypass s = .next t ∧ t.start.undef = true ∧ t.start.state = 0 ∧ t.start.testMode = false ∧
      t.fault.errFault = true ∧ t.port.ir = 0xFF) ∧
  (∀ s : State, s.port.ir = 0x11 ∨ s.port.ir = 0x13 ∨ s.port.ir = 0x14 → s.start.testMode = true →
    ∃ t, exec .tapBypass s = .next t ∧ t.start = { s.start with testMode := false } ∧
      (t.fault.errFault = true ↔ running t = false) ∧
      t = { s with
        out := [.tap 0xFF [0]], start := t.start, fault := { s.fault with errFault := t.fault.errFault },
        port := { s.port with ir := 0xFF } }) ∧
  (∀ (w : Word) (s : State), s.port.mbistBusy = true → exec (.mbistDone w) s = .next { s with
    out := [], port := { s.port with mbistBusy := false, mbistDone := true, mbistResult := w } })

/-- The model's own form of the flash of R246, R322 and R360 (log entry 4). -/
def Obligations.FlashCanonical : Prop :=
  ∀ s t : State, s.canonical → step s = .next t → t.canonical

/-- R304, R309, R331 at State.reset. -/
def Obligations.ResetStands : Prop :=
  State.reset.canonical ∧ State.reset.pending = [] ∧ State.reset.held ∧ running State.reset = false ∧
  programRuns State.reset = false ∧ State.reset.out = [] ∧ State.reset.tk.agents = [] ∧
  State.reset.fault.isOpen = false ∧ State.reset.start.state = 0 ∧ State.reset.curt.tripped = false

/-- R269, R325, R337, R444. -/
def Obligations.LockoutStays : Prop :=
  (∀ (c : Instr) (s : State), ∃ t, exec c s = .next t ∧ t.par = s.par ∧ t.pending = s.pending) ∧
  ∀ s t : State, step s = .next t →
    t.par = s.par ∧
    (s.curt.lockout = true → (∀ r, s.pending ≠ .alwaysOnSupplyRemoval :: r) → t.curt.lockout = true)
end

