-- ==== Sys2Proof/Laws/State.lean ====
section
/-! SUPPORT. One lemma for each field of the state and each small update of it, so that no proof unfolds a record update. -/

namespace Sys2Proof.Machine

open Sys2Proof

/-! ### `fresh`: the outputs alone -/

@[simp] theorem fresh_par (s : State) : (fresh s).par = s.par := rfl
@[simp] theorem fresh_time (s : State) : (fresh s).time = s.time := rfl
@[simp] theorem fresh_ord (s : State) : (fresh s).ord = s.ord := rfl
@[simp] theorem fresh_core (s : State) : (fresh s).core = s.core := rfl
@[simp] theorem fresh_tk (s : State) : (fresh s).tk = s.tk := rfl
@[simp] theorem fresh_tel (s : State) : (fresh s).tel = s.tel := rfl
@[simp] theorem fresh_law (s : State) : (fresh s).law = s.law := rfl
@[simp] theorem fresh_cap (s : State) : (fresh s).cap = s.cap := rfl
@[simp] theorem fresh_margin (s : State) : (fresh s).margin = s.margin := rfl
@[simp] theorem fresh_therm (s : State) : (fresh s).therm = s.therm := rfl
@[simp] theorem fresh_curt (s : State) : (fresh s).curt = s.curt := rfl
@[simp] theorem fresh_pkg (s : State) : (fresh s).pkg = s.pkg := rfl
@[simp] theorem fresh_zilt (s : State) : (fresh s).zilt = s.zilt := rfl
@[simp] theorem fresh_mgmt (s : State) : (fresh s).mgmt = s.mgmt := rfl
@[simp] theorem fresh_start (s : State) : (fresh s).start = s.start := rfl
@[simp] theorem fresh_fault (s : State) : (fresh s).fault = s.fault := rfl
@[simp] theorem fresh_book (s : State) : (fresh s).book = s.book := rfl
@[simp] theorem fresh_obs (s : State) : (fresh s).obs = s.obs := rfl
@[simp] theorem fresh_port (s : State) : (fresh s).port = s.port := rfl
@[simp] theorem fresh_regs (s : State) : (fresh s).regs = s.regs := rfl
@[simp] theorem fresh_pb (s : State) : (fresh s).pb = s.pb := rfl
@[simp] theorem fresh_flash (s : State) : (fresh s).flash = s.flash := rfl
@[simp] theorem fresh_free (s : State) : (fresh s).free = s.free := rfl
@[simp] theorem fresh_pending (s : State) : (fresh s).pending = s.pending := rfl
@[simp] theorem fresh_out (s : State) : (fresh s).out = [] := rfl

/-! ### `emit`, `emitAll` -/

@[simp] theorem emit_par (e : Emit) (s : State) : (emit e s).par = s.par := rfl
@[simp] theorem emit_time (e : Emit) (s : State) : (emit e s).time = s.time := rfl
@[simp] theorem emit_ord (e : Emit) (s : State) : (emit e s).ord = s.ord := rfl
@[simp] theorem emit_core (e : Emit) (s : State) : (emit e s).core = s.core := rfl
@[simp] theorem emit_tk (e : Emit) (s : State) : (emit e s).tk = s.tk := rfl
@[simp] theorem emit_tel (e : Emit) (s : State) : (emit e s).tel = s.tel := rfl
@[simp] theorem emit_law (e : Emit) (s : State) : (emit e s).law = s.law := rfl
@[simp] theorem emit_cap (e : Emit) (s : State) : (emit e s).cap = s.cap := rfl
@[simp] theorem emit_margin (e : Emit) (s : State) : (emit e s).margin = s.margin := rfl
@[simp] theorem emit_therm (e : Emit) (s : State) : (emit e s).therm = s.therm := rfl
@[simp] theorem emit_curt (e : Emit) (s : State) : (emit e s).curt = s.curt := rfl
@[simp] theorem emit_pkg (e : Emit) (s : State) : (emit e s).pkg = s.pkg := rfl
@[simp] theorem emit_zilt (e : Emit) (s : State) : (emit e s).zilt = s.zilt := rfl
@[simp] theorem emit_mgmt (e : Emit) (s : State) : (emit e s).mgmt = s.mgmt := rfl
@[simp] theorem emit_start (e : Emit) (s : State) : (emit e s).start = s.start := rfl
@[simp] theorem emit_fault (e : Emit) (s : State) : (emit e s).fault = s.fault := rfl
@[simp] theorem emit_book (e : Emit) (s : State) : (emit e s).book = s.book := rfl
@[simp] theorem emit_obs (e : Emit) (s : State) : (emit e s).obs = s.obs := rfl
@[simp] theorem emit_port (e : Emit) (s : State) : (emit e s).port = s.port := rfl
@[simp] theorem emit_regs (e : Emit) (s : State) : (emit e s).regs = s.regs := rfl
@[simp] theorem emit_pb (e : Emit) (s : State) : (emit e s).pb = s.pb := rfl
@[simp] theorem emit_flash (e : Emit) (s : State) : (emit e s).flash = s.flash := rfl
@[simp] theorem emit_free (e : Emit) (s : State) : (emit e s).free = s.free := rfl
@[simp] theorem emit_pending (e : Emit) (s : State) : (emit e s).pending = s.pending := rfl
@[simp] theorem emit_out (e : Emit) (s : State) : (emit e s).out = s.out ++ [e] := rfl
@[simp] theorem emitAll_par (l : List Emit) (s : State) : (emitAll l s).par = s.par := rfl
@[simp] theorem emitAll_time (l : List Emit) (s : State) : (emitAll l s).time = s.time := rfl
@[simp] theorem emitAll_ord (l : List Emit) (s : State) : (emitAll l s).ord = s.ord := rfl
@[simp] theorem emitAll_core (l : List Emit) (s : State) : (emitAll l s).core = s.core := rfl
@[simp] theorem emitAll_tk (l : List Emit) (s : State) : (emitAll l s).tk = s.tk := rfl
@[simp] theorem emitAll_tel (l : List Emit) (s : State) : (emitAll l s).tel = s.tel := rfl
@[simp] theorem emitAll_law (l : List Emit) (s : State) : (emitAll l s).law = s.law := rfl
@[simp] theorem emitAll_cap (l : List Emit) (s : State) : (emitAll l s).cap = s.cap := rfl
@[simp] theorem emitAll_margin (l : List Emit) (s : State) : (emitAll l s).margin = s.margin := rfl
@[simp] theorem emitAll_therm (l : List Emit) (s : State) : (emitAll l s).therm = s.therm := rfl
@[simp] theorem emitAll_curt (l : List Emit) (s : State) : (emitAll l s).curt = s.curt := rfl
@[simp] theorem emitAll_pkg (l : List Emit) (s : State) : (emitAll l s).pkg = s.pkg := rfl
@[simp] theorem emitAll_zilt (l : List Emit) (s : State) : (emitAll l s).zilt = s.zilt := rfl
@[simp] theorem emitAll_mgmt (l : List Emit) (s : State) : (emitAll l s).mgmt = s.mgmt := rfl
@[simp] theorem emitAll_start (l : List Emit) (s : State) : (emitAll l s).start = s.start := rfl
@[simp] theorem emitAll_fault (l : List Emit) (s : State) : (emitAll l s).fault = s.fault := rfl
@[simp] theorem emitAll_book (l : List Emit) (s : State) : (emitAll l s).book = s.book := rfl
@[simp] theorem emitAll_obs (l : List Emit) (s : State) : (emitAll l s).obs = s.obs := rfl
@[simp] theorem emitAll_port (l : List Emit) (s : State) : (emitAll l s).port = s.port := rfl
@[simp] theorem emitAll_regs (l : List Emit) (s : State) : (emitAll l s).regs = s.regs := rfl
@[simp] theorem emitAll_pb (l : List Emit) (s : State) : (emitAll l s).pb = s.pb := rfl
@[simp] theorem emitAll_flash (l : List Emit) (s : State) : (emitAll l s).flash = s.flash := rfl
@[simp] theorem emitAll_free (l : List Emit) (s : State) : (emitAll l s).free = s.free := rfl
@[simp] theorem emitAll_pending (l : List Emit) (s : State) : (emitAll l s).pending = s.pending := rfl
@[simp] theorem emitAll_out (l : List Emit) (s : State) : (emitAll l s).out = s.out ++ l := rfl

/-! ### `raise`: the cause bits alone -/

@[simp] theorem raise_par (g b : Nat) (s : State) : (raise g b s).par = s.par := rfl
@[simp] theorem raise_time (g b : Nat) (s : State) : (raise g b s).time = s.time := rfl
@[simp] theorem raise_ord (g b : Nat) (s : State) : (raise g b s).ord = s.ord := rfl
@[simp] theorem raise_core (g b : Nat) (s : State) : (raise g b s).core = s.core := rfl
@[simp] theorem raise_tk (g b : Nat) (s : State) : (raise g b s).tk = s.tk := rfl
@[simp] theorem raise_tel (g b : Nat) (s : State) : (raise g b s).tel = s.tel := rfl
@[simp] theorem raise_law (g b : Nat) (s : State) : (raise g b s).law = s.law := rfl
@[simp] theorem raise_cap (g b : Nat) (s : State) : (raise g b s).cap = s.cap := rfl
@[simp] theorem raise_margin (g b : Nat) (s : State) : (raise g b s).margin = s.margin := rfl
@[simp] theorem raise_therm (g b : Nat) (s : State) : (raise g b s).therm = s.therm := rfl
@[simp] theorem raise_curt (g b : Nat) (s : State) : (raise g b s).curt = s.curt := rfl
@[simp] theorem raise_pkg (g b : Nat) (s : State) : (raise g b s).pkg = s.pkg := rfl
@[simp] theorem raise_zilt (g b : Nat) (s : State) : (raise g b s).zilt = s.zilt := rfl
@[simp] theorem raise_mgmt (g b : Nat) (s : State) : (raise g b s).mgmt = s.mgmt := rfl
@[simp] theorem raise_start (g b : Nat) (s : State) : (raise g b s).start = s.start := rfl
@[simp] theorem raise_fault (g b : Nat) (s : State) : (raise g b s).fault = s.fault := rfl
@[simp] theorem raise_book (g b : Nat) (s : State) : (raise g b s).book = s.book := rfl
@[simp] theorem raise_obs (g b : Nat) (s : State) : (raise g b s).obs = s.obs := rfl
@[simp] theorem raise_port (g b : Nat) (s : State) : (raise g b s).port = s.port := rfl
@[simp] theorem raise_pb (g b : Nat) (s : State) : (raise g b s).pb = s.pb := rfl
@[simp] theorem raise_flash (g b : Nat) (s : State) : (raise g b s).flash = s.flash := rfl
@[simp] theorem raise_out (g b : Nat) (s : State) : (raise g b s).out = s.out := rfl
@[simp] theorem raise_free (g b : Nat) (s : State) : (raise g b s).free = s.free := rfl
@[simp] theorem raise_pending (g b : Nat) (s : State) : (raise g b s).pending = s.pending := rfl
@[simp] theorem raise_cause (g b : Nat) (s : State) : (raise g b s).regs.cause = causeSet g b s.regs.cause := rfl
@[simp] theorem raise_regs_wr (g b : Nat) (s : State) : (raise g b s).regs.wr = s.regs.wr := rfl
@[simp] theorem raise_regs_act (g b : Nat) (s : State) : (raise g b s).regs.act = s.regs.act := rfl
@[simp] theorem raise_regs_privDenied (g b : Nat) (s : State) : (raise g b s).regs.privDenied = s.regs.privDenied := rfl
@[simp] theorem raise_regs_badAddr (g b : Nat) (s : State) : (raise g b s).regs.badAddr = s.regs.badAddr := rfl
@[simp] theorem raise_regs_lockWrites (g b : Nat) (s : State) : (raise g b s).regs.lockWrites = s.regs.lockWrites := rfl
@[simp] theorem raise_regs_resp (g b : Nat) (s : State) : (raise g b s).regs.resp = s.regs.resp := rfl
@[simp] theorem raise_regs_rdata (g b : Nat) (s : State) : (raise g b s).regs.rdata = s.regs.rdata := rfl

/-! ### `putReg`: the written words alone -/

@[simp] theorem putReg_par (off w : Nat) (s : State) : (putReg off w s).par = s.par := rfl
@[simp] theorem putReg_time (off w : Nat) (s : State) : (putReg off w s).time = s.time := rfl
@[simp] theorem putReg_ord (off w : Nat) (s : State) : (putReg off w s).ord = s.ord := rfl
@[simp] theorem putReg_core (off w : Nat) (s : State) : (putReg off w s).core = s.core := rfl
@[simp] theorem putReg_tk (off w : Nat) (s : State) : (putReg off w s).tk = s.tk := rfl
@[simp] theorem putReg_tel (off w : Nat) (s : State) : (putReg off w s).tel = s.tel := rfl
@[simp] theorem putReg_law (off w : Nat) (s : State) : (putReg off w s).law = s.law := rfl
@[simp] theorem putReg_cap (off w : Nat) (s : State) : (putReg off w s).cap = s.cap := rfl
@[simp] theorem putReg_margin (off w : Nat) (s : State) : (putReg off w s).margin = s.margin := rfl
@[simp] theorem putReg_therm (off w : Nat) (s : State) : (putReg off w s).therm = s.therm := rfl
@[simp] theorem putReg_curt (off w : Nat) (s : State) : (putReg off w s).curt = s.curt := rfl
@[simp] theorem putReg_pkg (off w : Nat) (s : State) : (putReg off w s).pkg = s.pkg := rfl
@[simp] theorem putReg_zilt (off w : Nat) (s : State) : (putReg off w s).zilt = s.zilt := rfl
@[simp] theorem putReg_mgmt (off w : Nat) (s : State) : (putReg off w s).mgmt = s.mgmt := rfl
@[simp] theorem putReg_start (off w : Nat) (s : State) : (putReg off w s).start = s.start := rfl
@[simp] theorem putReg_fault (off w : Nat) (s : State) : (putReg off w s).fault = s.fault := rfl
@[simp] theorem putReg_book (off w : Nat) (s : State) : (putReg off w s).book = s.book := rfl
@[simp] theorem putReg_obs (off w : Nat) (s : State) : (putReg off w s).obs = s.obs := rfl
@[simp] theorem putReg_port (off w : Nat) (s : State) : (putReg off w s).port = s.port := rfl
@[simp] theorem putReg_pb (off w : Nat) (s : State) : (putReg off w s).pb = s.pb := rfl
@[simp] theorem putReg_flash (off w : Nat) (s : State) : (putReg off w s).flash = s.flash := rfl
@[simp] theorem putReg_out (off w : Nat) (s : State) : (putReg off w s).out = s.out := rfl
@[simp] theorem putReg_free (off w : Nat) (s : State) : (putReg off w s).free = s.free := rfl
@[simp] theorem putReg_pending (off w : Nat) (s : State) : (putReg off w s).pending = s.pending := rfl
@[simp] theorem putReg_regs_act (off w : Nat) (s : State) : (putReg off w s).regs.act = s.regs.act := rfl
@[simp] theorem putReg_regs_cause (off w : Nat) (s : State) : (putReg off w s).regs.cause = s.regs.cause := rfl
@[simp] theorem putReg_regs_privDenied (off w : Nat) (s : State) : (putReg off w s).regs.privDenied = s.regs.privDenied := rfl
@[simp] theorem putReg_regs_badAddr (off w : Nat) (s : State) : (putReg off w s).regs.badAddr = s.regs.badAddr := rfl
@[simp] theorem putReg_regs_lockWrites (off w : Nat) (s : State) : (putReg off w s).regs.lockWrites = s.regs.lockWrites := rfl
@[simp] theorem putReg_regs_resp (off w : Nat) (s : State) : (putReg off w s).regs.resp = s.regs.resp := rfl
@[simp] theorem putReg_regs_rdata (off w : Nat) (s : State) : (putReg off w s).regs.rdata = s.regs.rdata := rfl

/-! ### `putAgent`: the Agents alone -/

@[simp] theorem putAgent_par (a : Nat) (g : Agent) (s : State) : (putAgent a g s).par = s.par := rfl
@[simp] theorem putAgent_time (a : Nat) (g : Agent) (s : State) : (putAgent a g s).time = s.time := rfl
@[simp] theorem putAgent_ord (a : Nat) (g : Agent) (s : State) : (putAgent a g s).ord = s.ord := rfl
@[simp] theorem putAgent_core (a : Nat) (g : Agent) (s : State) : (putAgent a g s).core = s.core := rfl
@[simp] theorem putAgent_tel (a : Nat) (g : Agent) (s : State) : (putAgent a g s).tel = s.tel := rfl
@[simp] theorem putAgent_law (a : Nat) (g : Agent) (s : State) : (putAgent a g s).law = s.law := rfl
@[simp] theorem putAgent_cap (a : Nat) (g : Agent) (s : State) : (putAgent a g s).cap = s.cap := rfl
@[simp] theorem putAgent_margin (a : Nat) (g : Agent) (s : State) : (putAgent a g s).margin = s.margin := rfl
@[simp] theorem putAgent_therm (a : Nat) (g : Agent) (s : State) : (putAgent a g s).therm = s.therm := rfl
@[simp] theorem putAgent_curt (a : Nat) (g : Agent) (s : State) : (putAgent a g s).curt = s.curt := rfl
@[simp] theorem putAgent_pkg (a : Nat) (g : Agent) (s : State) : (putAgent a g s).pkg = s.pkg := rfl
@[simp] theorem putAgent_zilt (a : Nat) (g : Agent) (s : State) : (putAgent a g s).zilt = s.zilt := rfl
@[simp] theorem putAgent_mgmt (a : Nat) (g : Agent) (s : State) : (putAgent a g s).mgmt = s.mgmt := rfl
@[simp] theorem putAgent_start (a : Nat) (g : Agent) (s : State) : (putAgent a g s).start = s.start := rfl
@[simp] theorem putAgent_fault (a : Nat) (g : Agent) (s : State) : (putAgent a g s).fault = s.fault := rfl
@[simp] theorem putAgent_book (a : Nat) (g : Agent) (s : State) : (putAgent a g s).book = s.book := rfl
@[simp] theorem putAgent_obs (a : Nat) (g : Agent) (s : State) : (putAgent a g s).obs = s.obs := rfl
@[simp] theorem putAgent_port (a : Nat) (g : Agent) (s : State) : (putAgent a g s).port = s.port := rfl
@[simp] theorem putAgent_regs (a : Nat) (g : Agent) (s : State) : (putAgent a g s).regs = s.regs := rfl
@[simp] theorem putAgent_pb (a : Nat) (g : Agent) (s : State) : (putAgent a g s).pb = s.pb := rfl
@[simp] theorem putAgent_flash (a : Nat) (g : Agent) (s : State) : (putAgent a g s).flash = s.flash := rfl
@[simp] theorem putAgent_out (a : Nat) (g : Agent) (s : State) : (putAgent a g s).out = s.out := rfl
@[simp] theorem putAgent_free (a : Nat) (g : Agent) (s : State) : (putAgent a g s).free = s.free := rfl
@[simp] theorem putAgent_pending (a : Nat) (g : Agent) (s : State) : (putAgent a g s).pending = s.pending := rfl
@[simp] theorem putAgent_agents (a : Nat) (g : Agent) (s : State) :
    (putAgent a g s).tk.agents = tset agent0 a g s.tk.agents := rfl

end Sys2Proof.Machine
end

