-- ==== Sys2Proof/Laws/Ops.lean ====
section
/-! SUPPORT. What the shared operations can do, said once: telling of a fault or an event, the safe state, the telemetry
request. Provers cite these lemmas and do not unfold the operations. -/

namespace Sys2Proof.Machine

open Sys2Proof

theorem clocked_of {s : State} (h1 : s.start.blkUp = true) (h2 : s.start.bclkAbsent = false) : clocked s = true := by
  simp [clocked, h1, h2]

@[simp] theorem clocked_fresh (s : State) : clocked (fresh s) = clocked s := rfl

@[simp] theorem raiseIf_true (g b : Nat) (s : State) : raiseIf true g b s = raise g b s := rfl
@[simp] theorem raiseIf_false (g b : Nat) (s : State) : raiseIf false g b s = s := rfl
@[simp] theorem reportIf_true (code : Nat) (v : Int) (s : State) : reportIf true code v s = report code v s := rfl
@[simp] theorem reportIf_false (code : Nat) (v : Int) (s : State) : reportIf false code v s = s := rfl

theorem raiseIf_frame (c : Bool) (g b : Nat) (s : State) :
    ∃ cs, raiseIf c g b s = { s with regs := { s.regs with cause := cs } } := by
  cases c
  · exact ⟨s.regs.cause, rfl⟩
  · exact ⟨_, rfl⟩

/-! ### Trace triggers, deliveries, events -/

/-- A trigger changes the buffers, the freeze request and cause bits. -/
theorem trcFire_frame (type code cycle : Nat) (l : List Nat) (s : State) :
    ∃ bufs fz cs, trcFire type code cycle l s =
      { s with obs := { s.obs with bufs := bufs }, core := { s.core with freezeReq := fz },
               regs := { s.regs with cause := cs } } := by
  unfold trcFire
  split
  · exact ⟨s.obs.bufs, s.core.freezeReq, s.regs.cause, rfl⟩
  · obtain ⟨c1, h1⟩ := raiseIf_frame
      (((List.range (trcBufs s)).foldl (fun x _ => trcLinked s.obs.bufs (trcBufs s) x) l).filter
        (fun b => (tget traceBuf0 b s.obs.bufs).state == 1) ≠ []) 13 0 s
    simp only [raiseIf]
    split <;> split <;> exact ⟨_, _, _, rfl⟩

theorem trcDelivery_frame (code : Nat) (s : State) :
    ∃ bufs fz cs fr, trcDelivery code s =
      { s with obs := { s.obs with bufs := bufs }, core := { s.core with freezeReq := fz },
               regs := { s.regs with cause := cs }, free := fr } := by
  simp only [trcDelivery]
  split
  · exact ⟨s.obs.bufs, s.core.freezeReq, s.regs.cause, s.free, rfl⟩
  · obtain ⟨a, b, c, h⟩ := trcFire_frame 1 code ((Config.freeWord s.free).toNat % 16384)
      (trcArmed s 1 (fun b => code &&& fieldOf b.aTrig2 31 16 == fieldOf b.aTrig 15 0 &&& fieldOf b.aTrig2 31 16))
      { s with free := s.free + 1 }
    rw [h]
    exact ⟨a, b, c, _, rfl⟩

/-- A delivery changes the book, the trace buffers, the freeze request, cause bits and the count of free values. -/
theorem deliver_frame (code sev : Nat) (v : Int) (s : State) :
    ∃ bk bufs fz cs fr, deliver code sev v s =
      { s with book := bk, obs := { s.obs with bufs := bufs }, core := { s.core with freezeReq := fz },
               regs := { s.regs with cause := cs }, free := fr } := by
  simp only [deliver]
  generalize bookDeliver s.book (bookCap s) s.time.up s.time.count code sev (clampI (-(2 ^ 31)) (2 ^ 31 - 1) v) = r
  obtain ⟨c1, h1⟩ := raiseIf_frame r.2 12 1 { s with book := r.1 }
  rw [h1]
  obtain ⟨a, b, c, d, h⟩ := trcDelivery_frame code { s with book := r.1, regs := { s.regs with cause := c1 } }
  rw [h]
  exact ⟨_, a, b, c, d, rfl⟩

theorem event_frame (code : Nat) (v : Int) (s : State) :
    ∃ bk bufs fz cs fr, event code v s =
      { s with book := bk, obs := { s.obs with bufs := bufs }, core := { s.core with freezeReq := fz },
               regs := { s.regs with cause := cs }, free := fr } := deliver_frame _ _ _ _

/-! ### Hold outputs and the safe state -/

theorem friSend_frame (type addr value : Nat) (s : State) :
    ∃ o q, friSend type addr value s = { s with out := o, port := { s.port with fseq := q } } := ⟨_, _, rfl⟩

theorem friSend_fold (l : List Nat) (v : Nat) (s : State) :
    ∃ o q, l.foldl (fun x r => friSend 1 r v x) s = { s with out := o, port := { s.port with fseq := q } } := by
  induction l generalizing s with
  | nil => exact ⟨s.out, s.port.fseq, rfl⟩
  | cons a r ih =>
    obtain ⟨o, q, h⟩ := ih (friSend 1 a v s)
    exact ⟨o, q, by rw [List.foldl_cons, h]; rfl⟩

/-- Taking up the hold outputs: frames and clock loads are sent, rail targets and clocks follow, leases fall to 0. -/
theorem holdDrive_frame (s : State) :
    ∃ o q fq cl rv ag, holdDrive s =
      { s with out := o, port := { s.port with fseq := q, friQ := fq },
               law := { s.law with clock := cl, railV := rv },
               tk := { s.tk with agents := ag } } := by
  obtain ⟨o, q, h⟩ := friSend_fold (safeRailList s) s.par.safeVolt s
  simp only [holdDrive]
  rw [h]
  exact ⟨_, _, _, _, _, _, rfl⟩

theorem enterSafe_frame (s : State) :
    ∃ o q fq lw ag f co cs, enterSafe s =
      { s with out := o, port := { s.port with fseq := q, friQ := fq }, law := lw, tk := { s.tk with agents := ag },
               fault := f, core := co, regs := { s.regs with cause := cs } } ∧ f.safe = true ∧ f.errFault = true := by
  unfold enterSafe
  split
  · rename_i h
    exact ⟨s.out, s.port.fseq, s.port.friQ, s.law, s.tk.agents, _, _, s.regs.cause, rfl, h, rfl⟩
  · obtain ⟨o, q, fq, cl, rv, ag, h⟩ := holdDrive_frame s
    rw [h]
    cases s.core.frozen
    · exact ⟨_, _, _, _, _, _, _, s.regs.cause, rfl, rfl, rfl⟩
    · exact ⟨_, _, _, _, _, _, _, _, rfl, rfl, rfl⟩

/-! ### Faults -/

/-- A fault below class S changes the record and its counters, the book, the trace buffers, the freeze request and the note
of a fault, cause bits and the count of free values. -/
theorem reportInj_frame (inj : Bool) (code : Nat) (v : Int) (s : State) (hc : faultClass code < 4) :
    ∃ f bk bufs fz fs cs fr, reportInj inj code v s =
      { s with fault := f, book := bk, obs := { s.obs with bufs := bufs },
               core := { s.core with freezeReq := fz, faultSince := fs },
               regs := { s.regs with cause := cs }, free := fr } := by
  unfold reportInj
  split
  · exact ⟨s.fault, s.book, s.obs.bufs, s.core.freezeReq, s.core.faultSince, s.regs.cause, s.free, rfl⟩
  · split
    · simp only [collect]
      obtain ⟨a, b, c, d, e, h⟩ := deliver_frame code (classSev (faultClass code)) v
        { s with fault := countFault (faultClass code) inj s.fault }
      rw [h]
      by_cases h3 : faultClass code < 3
      · rw [if_pos h3]; exact ⟨_, _, _, _, s.core.faultSince, _, _, rfl⟩
      · rw [if_neg h3, if_pos hc]; exact ⟨_, _, _, _, _, _, _, rfl⟩
    · split
      · exact ⟨_, s.book, s.obs.bufs, s.core.freezeReq, s.core.faultSince, s.regs.cause, s.free, rfl⟩
      · exact ⟨s.fault, s.book, s.obs.bufs, s.core.freezeReq, s.core.faultSince, s.regs.cause, s.free, rfl⟩

theorem report_frame (code : Nat) (v : Int) (s : State) (hc : faultClass code < 4) :
    ∃ f bk bufs fz fs cs fr, report code v s =
      { s with fault := f, book := bk, obs := { s.obs with bufs := bufs },
               core := { s.core with freezeReq := fz, faultSince := fs },
               regs := { s.regs with cause := cs }, free := fr } := reportInj_frame false code v s hc

/-- A fault of any class: beside what one below class S changes, the hold outputs, the control core and the start state. -/
theorem reportInj_any (inj : Bool) (code : Nat) (v : Int) (s : State) :
    ∃ f bk bufs co cs fr o q fq lw ag st, reportInj inj code v s =
      { s with fault := f, book := bk, obs := { s.obs with bufs := bufs }, core := co,
               regs := { s.regs with cause := cs }, free := fr, out := o, port := { s.port with fseq := q, friQ := fq },
               law := lw, tk := { s.tk with agents := ag }, start := { s.start with state := st } } := by
  by_cases hc : faultClass code < 4
  · obtain ⟨a, b, c, d, e, f, g, h⟩ := reportInj_frame inj code v s hc
    exact ⟨a, b, c, _, f, g, s.out, s.port.fseq, s.port.friQ, s.law, s.tk.agents, s.start.state, h⟩
  · unfold reportInj
    split
    · exact ⟨_, _, _, _, _, _, _, _, _, _, _, _, rfl⟩
    · split
      · simp only [collect]
        obtain ⟨a, b, c, d, e, h⟩ := deliver_frame code (classSev (faultClass code)) v
          { s with fault := countFault (faultClass code) inj s.fault }
        rw [if_neg (by omega), if_neg hc, h]
        split
        · obtain ⟨o, q, fq, lw, ag, f, co, cs, h2, -, -⟩ := enterSafe_frame (raise 0 0 { s with
            book := a, obs := { s.obs with bufs := b }, regs := { s.regs with cause := d }, free := e,
            fault := recordFault (faultClass code) code s.time.count s.book.opmin inj
              (countFault (faultClass code) inj s.fault),
            core := { s.core with freezeReq := c, faultSince := true } })
          exact ⟨_, _, _, _, _, _, _, _, _, _, _, s.start.state, h2⟩
        · obtain ⟨o, q, fq, lw, ag, f, co, cs, h2, -, -⟩ := enterSafe_frame (raise 0 0 { s with
            book := a, obs := { s.obs with bufs := b }, regs := { s.regs with cause := d }, free := e,
            fault := recordFault (faultClass code) code s.time.count s.book.opmin inj
              (countFault (faultClass code) inj s.fault),
            core := { s.core with freezeReq := c, faultSince := true } })
          rw [h2]
          exact ⟨_, _, _, _, _, _, _, _, _, _, _, _, rfl⟩
      · split
        · exact ⟨_, _, _, _, _, _, _, _, _, _, _, _, rfl⟩
        · exact ⟨_, _, _, _, _, _, _, _, _, _, _, _, rfl⟩

/-- R330, R331: the counters and the record after a fault below class S, while the collector has its clock. -/
theorem report_fault (code : Nat) (v : Int) (s : State) (hk : clocked s = true) (h0 : faultClass code ≠ 0)
    (h4 : faultClass code < 4) :
    (report code v s).fault = if faultClass code < 3 then countFault (faultClass code) false s.fault
      else recordFault (faultClass code) code s.time.count s.book.opmin false (countFault (faultClass code) false s.fault) := by
  simp only [report, reportInj, if_neg h0, hk, if_true, collect]
  obtain ⟨a, b, c, d, e, h⟩ := deliver_frame code (classSev (faultClass code)) v
    { s with fault := countFault (faultClass code) false s.fault }
  rw [h]
  by_cases h3 : faultClass code < 3
  · simp only [if_pos h3]
  · simp only [if_neg h3, if_pos h4, raise_fault]

/-! ### Cause bits -/

theorem tget_tins {α : Type} (d : α) (k : Nat) (v : α) (t : Tab α) : tget d k (tins k v t) = v := by
  induction t with
  | nil => simp [tins, tget]
  | cons p r ih =>
    obtain ⟨j, w⟩ := p
    simp only [tins]
    split
    · simp [tget]
    · split
      · simp [tget]
      · rename_i h1 h2; simp [tget, h2, ih]

/-- R435: a raised cause bit reads as set. -/
theorem raise_bit (g b : Nat) (s : State) : (tget 0 g (raise g b s).regs.cause).testBit b = true := by
  have h : tget 0 g s.regs.cause ||| 2 ^ b ≠ 0 := by
    intro h
    have := congrArg (fun x => x.testBit b) h
    simp [Nat.testBit_or, Nat.testBit_two_pow_self] at this
  simp [raise, causeSet, tset, h, tget_tins, Nat.testBit_or, Nat.testBit_two_pow_self]

/-! ### Fields that no fault changes -/

@[simp] theorem report_par (code : Nat) (v : Int) (s : State) : (report code v s).par = s.par := by
  obtain ⟨_, _, _, _, _, _, _, _, _, _, _, _, h⟩ := reportInj_any false code v s
  rw [report, h]
@[simp] theorem report_time (code : Nat) (v : Int) (s : State) : (report code v s).time = s.time := by
  obtain ⟨_, _, _, _, _, _, _, _, _, _, _, _, h⟩ := reportInj_any false code v s
  rw [report, h]
@[simp] theorem report_ord (code : Nat) (v : Int) (s : State) : (report code v s).ord = s.ord := by
  obtain ⟨_, _, _, _, _, _, _, _, _, _, _, _, h⟩ := reportInj_any false code v s
  rw [report, h]
@[simp] theorem report_tel (code : Nat) (v : Int) (s : State) : (report code v s).tel = s.tel := by
  obtain ⟨_, _, _, _, _, _, _, _, _, _, _, _, h⟩ := reportInj_any false code v s
  rw [report, h]
@[simp] theorem report_cap (code : Nat) (v : Int) (s : State) : (report code v s).cap = s.cap := by
  obtain ⟨_, _, _, _, _, _, _, _, _, _, _, _, h⟩ := reportInj_any false code v s
  rw [report, h]
@[simp] theorem report_margin (code : Nat) (v : Int) (s : State) : (report code v s).margin = s.margin := by
  obtain ⟨_, _, _, _, _, _, _, _, _, _, _, _, h⟩ := reportInj_any false code v s
  rw [report, h]
@[simp] theorem report_therm (code : Nat) (v : Int) (s : State) : (report code v s).therm = s.therm := by
  obtain ⟨_, _, _, _, _, _, _, _, _, _, _, _, h⟩ := reportInj_any false code v s
  rw [report, h]
@[simp] theorem report_curt (code : Nat) (v : Int) (s : State) : (report code v s).curt = s.curt := by
  obtain ⟨_, _, _, _, _, _, _, _, _, _, _, _, h⟩ := reportInj_any false code v s
  rw [report, h]
@[simp] theorem report_pkg (code : Nat) (v : Int) (s : State) : (report code v s).pkg = s.pkg := by
  obtain ⟨_, _, _, _, _, _, _, _, _, _, _, _, h⟩ := reportInj_any false code v s
  rw [report, h]
@[simp] theorem report_zilt (code : Nat) (v : Int) (s : State) : (report code v s).zilt = s.zilt := by
  obtain ⟨_, _, _, _, _, _, _, _, _, _, _, _, h⟩ := reportInj_any false code v s
  rw [report, h]
@[simp] theorem report_mgmt (code : Nat) (v : Int) (s : State) : (report code v s).mgmt = s.mgmt := by
  obtain ⟨_, _, _, _, _, _, _, _, _, _, _, _, h⟩ := reportInj_any false code v s
  rw [report, h]
@[simp] theorem report_pb (code : Nat) (v : Int) (s : State) : (report code v s).pb = s.pb := by
  obtain ⟨_, _, _, _, _, _, _, _, _, _, _, _, h⟩ := reportInj_any false code v s
  rw [report, h]
@[simp] theorem report_flash (code : Nat) (v : Int) (s : State) : (report code v s).flash = s.flash := by
  obtain ⟨_, _, _, _, _, _, _, _, _, _, _, _, h⟩ := reportInj_any false code v s
  rw [report, h]
@[simp] theorem report_pending (code : Nat) (v : Int) (s : State) : (report code v s).pending = s.pending := by
  obtain ⟨_, _, _, _, _, _, _, _, _, _, _, _, h⟩ := reportInj_any false code v s
  rw [report, h]

/-! ### Fields that no event changes -/

@[simp] theorem event_par (code : Nat) (v : Int) (s : State) : (event code v s).par = s.par := by
  obtain ⟨_, _, _, _, _, h⟩ := event_frame code v s
  rw [h]
@[simp] theorem event_time (code : Nat) (v : Int) (s : State) : (event code v s).time = s.time := by
  obtain ⟨_, _, _, _, _, h⟩ := event_frame code v s
  rw [h]
@[simp] theorem event_ord (code : Nat) (v : Int) (s : State) : (event code v s).ord = s.ord := by
  obtain ⟨_, _, _, _, _, h⟩ := event_frame code v s
  rw [h]
@[simp] theorem event_tk (code : Nat) (v : Int) (s : State) : (event code v s).tk = s.tk := by
  obtain ⟨_, _, _, _, _, h⟩ := event_frame code v s
  rw [h]
@[simp] theorem event_tel (code : Nat) (v : Int) (s : State) : (event code v s).tel = s.tel := by
  obtain ⟨_, _, _, _, _, h⟩ := event_frame code v s
  rw [h]
@[simp] theorem event_law (code : Nat) (v : Int) (s : State) : (event code v s).law = s.law := by
  obtain ⟨_, _, _, _, _, h⟩ := event_frame code v s
  rw [h]
@[simp] theorem event_cap (code : Nat) (v : Int) (s : State) : (event code v s).cap = s.cap := by
  obtain ⟨_, _, _, _, _, h⟩ := event_frame code v s
  rw [h]
@[simp] theorem event_margin (code : Nat) (v : Int) (s : State) : (event code v s).margin = s.margin := by
  obtain ⟨_, _, _, _, _, h⟩ := event_frame code v s
  rw [h]
@[simp] theorem event_therm (code : Nat) (v : Int) (s : State) : (event code v s).therm = s.therm := by
  obtain ⟨_, _, _, _, _, h⟩ := event_frame code v s
  rw [h]
@[simp] theorem event_curt (code : Nat) (v : Int) (s : State) : (event code v s).curt = s.curt := by
  obtain ⟨_, _, _, _, _, h⟩ := event_frame code v s
  rw [h]
@[simp] theorem event_pkg (code : Nat) (v : Int) (s : State) : (event code v s).pkg = s.pkg := by
  obtain ⟨_, _, _, _, _, h⟩ := event_frame code v s
  rw [h]
@[simp] theorem event_zilt (code : Nat) (v : Int) (s : State) : (event code v s).zilt = s.zilt := by
  obtain ⟨_, _, _, _, _, h⟩ := event_frame code v s
  rw [h]
@[simp] theorem event_mgmt (code : Nat) (v : Int) (s : State) : (event code v s).mgmt = s.mgmt := by
  obtain ⟨_, _, _, _, _, h⟩ := event_frame code v s
  rw [h]
@[simp] theorem event_start (code : Nat) (v : Int) (s : State) : (event code v s).start = s.start := by
  obtain ⟨_, _, _, _, _, h⟩ := event_frame code v s
  rw [h]
@[simp] theorem event_fault (code : Nat) (v : Int) (s : State) : (event code v s).fault = s.fault := by
  obtain ⟨_, _, _, _, _, h⟩ := event_frame code v s
  rw [h]
@[simp] theorem event_port (code : Nat) (v : Int) (s : State) : (event code v s).port = s.port := by
  obtain ⟨_, _, _, _, _, h⟩ := event_frame code v s
  rw [h]
@[simp] theorem event_pb (code : Nat) (v : Int) (s : State) : (event code v s).pb = s.pb := by
  obtain ⟨_, _, _, _, _, h⟩ := event_frame code v s
  rw [h]
@[simp] theorem event_flash (code : Nat) (v : Int) (s : State) : (event code v s).flash = s.flash := by
  obtain ⟨_, _, _, _, _, h⟩ := event_frame code v s
  rw [h]
@[simp] theorem event_out (code : Nat) (v : Int) (s : State) : (event code v s).out = s.out := by
  obtain ⟨_, _, _, _, _, h⟩ := event_frame code v s
  rw [h]
@[simp] theorem event_pending (code : Nat) (v : Int) (s : State) : (event code v s).pending = s.pending := by
  obtain ⟨_, _, _, _, _, h⟩ := event_frame code v s
  rw [h]

/-! ### The telemetry request -/

/-- A telemetry request sends a frame and opens a phase; one that ends an open phase notes when the sample came. -/
theorem telRequest_frame (s : State) :
    ∃ o te po cm, telRequest s = { s with out := o, tel := te, port := po, time := { s.time with came := cm } } := by
  unfold telRequest
  split
  · cases s.tel.phase <;> exact ⟨_, _, _, _, rfl⟩
  · exact ⟨_, _, _, _, rfl⟩

@[simp] theorem telRequest_par (s : State) : (telRequest s).par = s.par := by
  obtain ⟨_, _, _, _, h⟩ := telRequest_frame s
  rw [h]
@[simp] theorem telRequest_count (s : State) : (telRequest s).time.count = s.time.count := by
  obtain ⟨_, _, _, _, h⟩ := telRequest_frame s
  rw [h]
@[simp] theorem telRequest_up (s : State) : (telRequest s).time.up = s.time.up := by
  obtain ⟨_, _, _, _, h⟩ := telRequest_frame s
  rw [h]
@[simp] theorem telRequest_k (s : State) : (telRequest s).time.k = s.time.k := by
  obtain ⟨_, _, _, _, h⟩ := telRequest_frame s
  rw [h]
@[simp] theorem telRequest_pSel (s : State) : (telRequest s).time.pSel = s.time.pSel := by
  obtain ⟨_, _, _, _, h⟩ := telRequest_frame s
  rw [h]
@[simp] theorem telRequest_locked (s : State) : (telRequest s).time.locked = s.time.locked := by
  obtain ⟨_, _, _, _, h⟩ := telRequest_frame s
  rw [h]
@[simp] theorem telRequest_ord (s : State) : (telRequest s).ord = s.ord := by
  obtain ⟨_, _, _, _, h⟩ := telRequest_frame s
  rw [h]
@[simp] theorem telRequest_core (s : State) : (telRequest s).core = s.core := by
  obtain ⟨_, _, _, _, h⟩ := telRequest_frame s
  rw [h]
@[simp] theorem telRequest_tk (s : State) : (telRequest s).tk = s.tk := by
  obtain ⟨_, _, _, _, h⟩ := telRequest_frame s
  rw [h]
@[simp] theorem telRequest_law (s : State) : (telRequest s).law = s.law := by
  obtain ⟨_, _, _, _, h⟩ := telRequest_frame s
  rw [h]
@[simp] theorem telRequest_cap (s : State) : (telRequest s).cap = s.cap := by
  obtain ⟨_, _, _, _, h⟩ := telRequest_frame s
  rw [h]
@[simp] theorem telRequest_margin (s : State) : (telRequest s).margin = s.margin := by
  obtain ⟨_, _, _, _, h⟩ := telRequest_frame s
  rw [h]
@[simp] theorem telRequest_therm (s : State) : (telRequest s).therm = s.therm := by
  obtain ⟨_, _, _, _, h⟩ := telRequest_frame s
  rw [h]
@[simp] theorem telRequest_curt (s : State) : (telRequest s).curt = s.curt := by
  obtain ⟨_, _, _, _, h⟩ := telRequest_frame s
  rw [h]
@[simp] theorem telRequest_pkg (s : State) : (telRequest s).pkg = s.pkg := by
  obtain ⟨_, _, _, _, h⟩ := telRequest_frame s
  rw [h]
@[simp] theorem telRequest_zilt (s : State) : (telRequest s).zilt = s.zilt := by
  obtain ⟨_, _, _, _, h⟩ := telRequest_frame s
  rw [h]
@[simp] theorem telRequest_mgmt (s : State) : (telRequest s).mgmt = s.mgmt := by
  obtain ⟨_, _, _, _, h⟩ := telRequest_frame s
  rw [h]
@[simp] theorem telRequest_start (s : State) : (telRequest s).start = s.start := by
  obtain ⟨_, _, _, _, h⟩ := telRequest_frame s
  rw [h]
@[simp] theorem telRequest_fault (s : State) : (telRequest s).fault = s.fault := by
  obtain ⟨_, _, _, _, h⟩ := telRequest_frame s
  rw [h]
@[simp] theorem telRequest_book (s : State) : (telRequest s).book = s.book := by
  obtain ⟨_, _, _, _, h⟩ := telRequest_frame s
  rw [h]
@[simp] theorem telRequest_obs (s : State) : (telRequest s).obs = s.obs := by
  obtain ⟨_, _, _, _, h⟩ := telRequest_frame s
  rw [h]
@[simp] theorem telRequest_regs (s : State) : (telRequest s).regs = s.regs := by
  obtain ⟨_, _, _, _, h⟩ := telRequest_frame s
  rw [h]
@[simp] theorem telRequest_pb (s : State) : (telRequest s).pb = s.pb := by
  obtain ⟨_, _, _, _, h⟩ := telRequest_frame s
  rw [h]
@[simp] theorem telRequest_flash (s : State) : (telRequest s).flash = s.flash := by
  obtain ⟨_, _, _, _, h⟩ := telRequest_frame s
  rw [h]
@[simp] theorem telRequest_free (s : State) : (telRequest s).free = s.free := by
  obtain ⟨_, _, _, _, h⟩ := telRequest_frame s
  rw [h]
@[simp] theorem telRequest_pending (s : State) : (telRequest s).pending = s.pending := by
  obtain ⟨_, _, _, _, h⟩ := telRequest_frame s
  rw [h]

end Sys2Proof.Machine
end

