-- ==== Sys2Proof/Laws/Management.lean ====
section
/-! SUPPORT. The management commands: the port they come through, their turn and the commands held for it. -/

namespace Sys2Proof.Machine

open Sys2Proof

/-- A running machine has its port alive, no hold output, a clock, and is live. -/
theorem running_facts {s : State} (h : running s = true) :
    rpAlive (fresh s) = true ∧ holdOut (fresh s) = false ∧ clocked (fresh s) = true ∧ isLive s = true := by
  simp only [running, Bool.and_eq_true, Bool.not_eq_true'] at h
  obtain ⟨⟨h1, h2⟩, h3⟩ := h
  have hl : isLive s = true := by
    cases hx : isLive s
    · simp [holdOut, hx] at h1
    · rfl
  refine ⟨?_, h1, ?_, hl⟩
  · have : s.start.state = 9 := by simpa [isLive] using hl
    simp [rpAlive, clocked, h2, h3, this]
  · simp [clocked, h2, h3]

/-- A command's own acts leave the order of turns as it was. -/
theorem mgmtNow_mgmt (c : Nat) (a : List Int) (s : State) : (mgmtNow c a s).mgmt = s.mgmt := by
  unfold mgmtNow; split
  · rfl
  · split <;> rfl

/-- With no held command whose turn it is, nothing more is taken (R301). -/
theorem mgmtDrain_nil (n : Nat) (s : State) (h : ∀ m, s.mgmt.next = some m → ∀ x ∈ s.mgmt.held, x.seq ≠ m) :
    mgmtDrain n s = s := by
  cases n with
  | zero => rfl
  | succ n =>
    unfold mgmtDrain
    cases hn : s.mgmt.next with
    | none => simp
    | some m =>
      cases hh : s.mgmt.held with
      | nil => simp
      | cons x r => simp [h m hn x (by simp [hh])]

/-- One more entry in a sorted list. -/
theorem insertBy_length (le : HeldCmd → HeldCmd → Bool) (x : HeldCmd) (l : List HeldCmd) :
    (insertBy le x l).length = l.length + 1 := by
  induction l with
  | nil => rfl
  | cons y r ih => simp only [insertBy]; split <;> simp [ih]

end Sys2Proof.Machine
end

