-- ==== Sys2Proof/Laws/Port.lean ====
section
/-! SUPPORT. The Register Port and the hand operations: what a write that has the privilege does, said once. -/

namespace Sys2Proof.Machine

open Sys2Proof

/-- An open port is alive, and no Lockout holds it (R304, R389). -/
theorem State.portOpen.alive {s : State} (h : s.portOpen) : rpAlive (fresh s) = true := by
  obtain ⟨h1, h2, h3, _⟩ := h
  simp [rpAlive, clocked, h1, h2, h3]

/-- Software privilege and above write a register of class 2 (R426). -/
theorem mayWrite_two {p : Nat} (h : 1 ≤ p) : mayWrite p 2 = true := by simp [mayWrite]; omega

/-- A write with the privilege its register asks for takes its effect and is answered OK (R400, R426). -/
theorem rpWrite_open {p off : Nat} {f : State → State} {s : State} (h : s.portOpen) (c : Nat)
    (hc : regClass off = some c) (hm : mayWrite p c = true) :
    rpWrite p off f (fresh s) = rpAnswer 0 0 (f (fresh s)) := by
  have ha := h.alive
  obtain ⟨_, _, _, h4⟩ := h
  have hl : lockout (fresh s) = false := by simp [lockout, h4]
  have hr : rpResp (lockout (fresh s)) true p off = 0 := by simp [rpResp, hl, hc, hm]
  unfold rpWrite
  simp only [ha, hr]; rfl

/-- A hand operation on an open port with no other in progress runs on the registers it wrote (R102). -/
theorem handOp_open {op p a h n : Nat} {s : State} (ho : s.portOpen) (hp : 1 ≤ p) (hd : s.tk.cmdDone = true) :
    handOp op p a h n s = .next (rpAnswer 0 0 (handRun ⟨op, p, a, h, n⟩ (
      let u := putReg 0x2094 op (putReg 0x2098 n (putReg 0x200C (a * 256 + h) { s with out := [] }))
      { u with tk := { u.tk with cmd := none, cmdDone := false } }))) := by
  unfold handOp
  rw [rpWrite_open ho 2 (by decide) (mayWrite_two hp)]
  have : (fresh s).tk.cmdDone = true := hd
  simp only [this]
  simp only [handBoundary, handLatch,
    show (putReg 0x2094 op (putReg 0x2098 n (putReg 0x200C (a * 256 + h) (fresh s)))).tk.cmdDone = true from hd]
  rfl

/-- As `handOp_open`, for a state that the caller describes by what it knows of it, so that no record is written out. -/
theorem handOp_open_of {op p a h n : Nat} {s : State} (h1 : s.portOpen) (hp : 1 ≤ p) (hd : s.tk.cmdDone = true) {y : State}
    (hy : ∀ x, x = (let u := putReg 0x2094 op (putReg 0x2098 n (putReg 0x200C (a * 256 + h) { s with out := [] }))
      { u with tk := { u.tk with cmd := none, cmdDone := false } } : State) → handRun ⟨op, p, a, h, n⟩ x = y) :
    handOp op p a h n s = .next (rpAnswer 0 0 y) := by rw [handOp_open h1 hp hd, hy _ rfl]

/-- An Agent that the Playbill lists and a supplied block: the Agent answers. -/
theorem agentHere_of {s : State} {a : Nat} (h1 : (tlook a s.pb.agents).isSome = true) (h2 : s.start.blkUp = true) :
    agentHere (fresh s) a = true := by
  simp [agentHere, h1, h2]

theorem bits_7_4 (x : Nat) : bits x 7 4 = x / 16 % 16 := by simp [bits, Nat.shiftRight_eq_div_pow]
theorem bits_23_0 (x : Nat) : bits x 23 0 = x % 2 ^ 24 := by simp [bits]
theorem bits_3_0 (x : Nat) : bits x 3 0 = x % 16 := by simp [bits]
theorem bits_9_0 (x : Nat) : bits x 9 0 = x % 2 ^ 10 := by simp [bits]

/-- With no injection armed, an injection check is silent (R340). -/
theorem injCheck_none (c : Nat) (s : State) (h : s.fault.inj = none) : injCheck c s = (0, s) := by simp [injCheck, h]

end Sys2Proof.Machine
end

