-- ==== Sys2Proof/Laws/Table.lean ====
section
/-! SUPPORT. Sparse tables and the flash: a write is read back, it leaves every other key alone, and it keeps the canonical form. -/

namespace Sys2Proof.Machine

open Sys2Proof

variable {α : Type}

/-! ### The canonical form -/

theorem twf_cons [DecidableEq α] (d : α) (j : Nat) (v : α) (r : Tab α) :
    twf d ((j, v) :: r) = true ↔ v ≠ d ∧ (∀ p ∈ r, j < p.1) ∧ twf d r = true := by
  induction r generalizing j v with
  | nil => simp [twf]
  | cons q r ih =>
    obtain ⟨k, w⟩ := q
    simp only [twf, Bool.and_eq_true, decide_eq_true_eq, ih, List.mem_cons]
    constructor
    · rintro ⟨⟨hjk, hv⟩, hw, hr, ht⟩
      refine ⟨hv, ?_, hw, hr, ht⟩
      rintro p (rfl | hp)
      · exact hjk
      · exact Nat.lt_trans hjk (hr p hp)
    · rintro ⟨hv, hr, hw, hr', ht⟩
      exact ⟨⟨hr (k, w) (Or.inl rfl), hv⟩, hw, hr', ht⟩

theorem twf_filter [DecidableEq α] (d : α) (f : Nat × α → Bool) (t : Tab α) (h : twf d t = true) :
    twf d (t.filter f) = true := by
  induction t with
  | nil => rfl
  | cons q r ih =>
    obtain ⟨j, v⟩ := q
    obtain ⟨hv, hr, ht⟩ := (twf_cons d j v r).1 h
    rw [List.filter_cons]
    split
    · exact (twf_cons d j v _).2 ⟨hv, fun p hp => hr p (List.mem_filter.1 hp).1, ih ht⟩
    · exact ih ht

theorem mem_terase (k : Nat) (t : Tab α) (p : Nat × α) (h : p ∈ terase k t) : p ∈ t := by
  induction t with
  | nil => simp [terase] at h
  | cons q r ih =>
    obtain ⟨j, v⟩ := q
    simp only [terase] at h
    split at h
    · exact List.mem_cons_of_mem _ h
    · rcases List.mem_cons.1 h with h | h
      · exact h ▸ List.mem_cons_self
      · exact List.mem_cons_of_mem _ (ih h)

theorem twf_terase [DecidableEq α] (d : α) (k : Nat) (t : Tab α) (h : twf d t = true) : twf d (terase k t) = true := by
  induction t with
  | nil => rfl
  | cons q r ih =>
    obtain ⟨j, v⟩ := q
    obtain ⟨hv, hr, ht⟩ := (twf_cons d j v r).1 h
    simp only [terase]
    split
    · exact ht
    · exact (twf_cons d j v _).2 ⟨hv, fun p hp => hr p (mem_terase k r p hp), ih ht⟩

theorem mem_tins (k : Nat) (v : α) (t : Tab α) (p : Nat × α) (h : p ∈ tins k v t) : p = (k, v) ∨ p ∈ t := by
  induction t with
  | nil => simpa [tins] using h
  | cons q r ih =>
    obtain ⟨j, w⟩ := q
    simp only [tins] at h
    split at h
    · exact List.mem_cons.1 h
    · split at h
      · rcases List.mem_cons.1 h with h | h
        · exact .inl h
        · exact .inr (List.mem_cons_of_mem _ h)
      · rcases List.mem_cons.1 h with h | h
        · exact .inr (h ▸ List.mem_cons_self)
        · exact (ih h).imp id (List.mem_cons_of_mem _)

theorem twf_tins [DecidableEq α] (d : α) (k : Nat) (v : α) (t : Tab α) (hv : v ≠ d) (h : twf d t = true) :
    twf d (tins k v t) = true := by
  induction t with
  | nil => simp [tins, twf, hv]
  | cons q r ih =>
    obtain ⟨j, w⟩ := q
    obtain ⟨hw, hr, ht⟩ := (twf_cons d j w r).1 h
    simp only [tins]
    split
    · rename_i hk
      refine (twf_cons d k v _).2 ⟨hv, ?_, h⟩
      intro p hp
      rcases List.mem_cons.1 hp with rfl | hp
      · exact hk
      · exact Nat.lt_trans hk (hr p hp)
    · split
      · rename_i hjk
        subst hjk
        exact (twf_cons d j v _).2 ⟨hv, hr, ht⟩
      · refine (twf_cons d j w _).2 ⟨hw, ?_, ih ht⟩
        intro p hp
        rcases mem_tins k v r p hp with rfl | hp
        · simp only; omega
        · exact hr p hp

/-- A write keeps the canonical form. -/
theorem twf_tset [DecidableEq α] (d : α) (k : Nat) (v : α) (t : Tab α) (h : twf d t = true) : twf d (tset d k v t) = true := by
  unfold tset
  split
  · exact twf_terase d k t h
  · exact twf_tins d k v t ‹_› h

/-! ### Reads -/

theorem tget_tins_ne (d : α) (j k : Nat) (v : α) (t : Tab α) (h : j ≠ k) : tget d j (tins k v t) = tget d j t := by
  induction t with
  | nil => simp [tins, tget, Ne.symm h]
  | cons q r ih =>
    obtain ⟨i, w⟩ := q
    simp only [tins]
    split
    · simp [tget, Ne.symm h]
    · split
      · rename_i hik
        subst hik
        simp [tget, Ne.symm h]
      · simp [tget, ih]

theorem tget_terase_ne (d : α) (j k : Nat) (t : Tab α) (h : j ≠ k) : tget d j (terase k t) = tget d j t := by
  induction t with
  | nil => rfl
  | cons q r ih =>
    obtain ⟨i, w⟩ := q
    simp only [terase]
    split
    · rename_i hik
      subst hik
      simp [tget, Ne.symm h]
    · simp [tget, ih]

/-- A write leaves every other key alone. -/
@[simp] theorem tget_tset_ne [DecidableEq α] (d : α) (j k : Nat) (v : α) (t : Tab α) (h : j ≠ k) :
    tget d j (tset d k v t) = tget d j t := by
  unfold tset
  split
  · exact tget_terase_ne d j k t h
  · exact tget_tins_ne d j k v t h

theorem tget_of_lt [DecidableEq α] (d : α) (k : Nat) (t : Tab α) (h : ∀ p ∈ t, k ≠ p.1) : tget d k t = d := by
  induction t with
  | nil => rfl
  | cons q r ih =>
    obtain ⟨j, v⟩ := q
    simp only [tget]
    rw [if_neg (fun e => h (j, v) List.mem_cons_self e.symm)]
    exact ih (fun p hp => h p (List.mem_cons_of_mem _ hp))

theorem tget_terase_self [DecidableEq α] (d : α) (k : Nat) (t : Tab α) (h : twf d t = true) : tget d k (terase k t) = d := by
  induction t with
  | nil => rfl
  | cons q r ih =>
    obtain ⟨j, v⟩ := q
    obtain ⟨hv, hr, ht⟩ := (twf_cons d j v r).1 h
    simp only [terase]
    split
    · rename_i hjk
      exact tget_of_lt d k r (fun p hp => Nat.ne_of_lt (hjk ▸ hr p hp))
    · rename_i hjk
      simp [tget, hjk, ih ht]

/-- In a canonical table a write is read back. -/
theorem tget_tset_self [DecidableEq α] (d : α) (k : Nat) (v : α) (t : Tab α) (h : twf d t = true) :
    tget d k (tset d k v t) = v := by
  unfold tset
  split
  · rename_i hv
    rw [tget_terase_self d k t h, hv]
  · rename_i hv
    clear h hv
    induction t with
    | nil => simp [tins, tget]
    | cons q r ih =>
      obtain ⟨j, w⟩ := q
      simp only [tins]
      split
      · simp [tget]
      · split
        · simp [tget]
        · rename_i h2
          simp [tget, h2, ih]

/-! ### The flash -/

theorem twf_flashErase (off span : Nat) (t : Tab Nat) (h : twf 0xFF t = true) : twf 0xFF (flashErase off span t) = true :=
  twf_filter _ _ _ h

theorem twf_flashProgram (off : Nat) (ws : List Nat) (t : Tab Nat) (h : twf 0xFF t = true) :
    twf 0xFF (flashProgram off ws t) = true := by
  unfold flashProgram
  generalize (bytesOfWords ws).zipIdx = l
  induction l generalizing t with
  | nil => exact h
  | cons b l ih => exact ih _ (twf_tset _ _ _ _ h)

/-- Every operation on the flash keeps its canonical form. -/
theorem twf_flashWrite (off span : Nat) (ws : List Nat) (t : Tab Nat) (h : twf 0xFF t = true) :
    twf 0xFF (flashWrite off span ws t) = true := twf_flashProgram _ _ _ (twf_flashErase _ _ _ h)

/-- Bytes outside the erased span are unchanged. -/
theorem tget_flashErase (off span a : Nat) (t : Tab Nat) (h : a < off ∨ off + span ≤ a) :
    tget 0xFF a (flashErase off span t) = tget 0xFF a t := by
  induction t with
  | nil => rfl
  | cons q r ih =>
    obtain ⟨j, v⟩ := q
    unfold flashErase at *
    rw [List.filter_cons]
    split
    · simp only [tget]; split
      · rfl
      · exact ih
    · rename_i hk
      simp only [tget, ih]
      rw [if_neg]
      rintro rfl
      simp at hk
      omega

/-- Bytes outside the words programmed are unchanged. -/
theorem tget_flashProgram (off a : Nat) (ws : List Nat) (t : Tab Nat) (h : a < off ∨ off + 4 * ws.length ≤ a) :
    tget 0xFF a (flashProgram off ws t) = tget 0xFF a t := by
  have hl : (bytesOfWords ws).length = 4 * ws.length := by
    induction ws with
    | nil => rfl
    | cons w ws ih =>
      have ih := ih (by simp only [List.length_cons] at h; omega)
      simp only [bytesOfWords, List.flatMap_cons, List.length_append, List.length_cons] at *
      simp [bytesOfWord, ih]; omega
  unfold flashProgram
  have key : ∀ (l : List (Nat × Nat)) (u : Tab Nat), (∀ b ∈ l, a ≠ off + b.2) →
      tget 0xFF a (l.foldl (fun u b => tset 255 (off + b.2) b.1 u) u) = tget 0xFF a u := by
    intro l
    induction l with
    | nil => intros; rfl
    | cons b l ih =>
      intro u hb
      rw [List.foldl_cons, ih _ (fun c hc => hb c (List.mem_cons_of_mem _ hc))]
      exact tget_tset_ne _ _ _ _ _ (hb b List.mem_cons_self)
  refine key _ _ (fun b hb => ?_)
  have := (List.mem_zipIdx hb).2.1
  omega

end Sys2Proof.Machine
end

