-- ==== Sys2Proof/Laws/Time.lean ====
section
/-! SUPPORT. Time: what a step start and the entry into holdover can do. -/

namespace Sys2Proof.Machine

open Sys2Proof

/-- A step start changes the start, the lengths, the lock, the timeout, feed-forward and the counts of active samples. -/
theorem stepStart_frame (oo : Nat) (o : OrdSt) :
    ∃ p l t f a b, (stepStart oo o).1 =
      { o with start := some oo, prevLen := p, lockLen := l, timeout := t, ffOff := f, active := a, activeLast := b, expired := false } := by
  cases h : o.start with
  | none => exact ⟨o.prevLen, o.lockLen, o.timeout, o.ffOff, 0, o.activeLast, by simp [stepStart, h]⟩
  | some s => exact ⟨_, _, _, _, _, _, by simp only [stepStart, h]; rfl⟩

@[simp] theorem stepStart_seen (oo : Nat) (o : OrdSt) : (stepStart oo o).1.seen = o.seen := by
  obtain ⟨_, _, _, _, _, _, h⟩ := stepStart_frame oo o
  rw [h]
@[simp] theorem stepStart_last (oo : Nat) (o : OrdSt) : (stepStart oo o).1.last = o.last := by
  obtain ⟨_, _, _, _, _, _, h⟩ := stepStart_frame oo o
  rw [h]
@[simp] theorem stepStart_scene (oo : Nat) (o : OrdSt) : (stepStart oo o).1.scene = o.scene := by
  obtain ⟨_, _, _, _, _, _, h⟩ := stepStart_frame oo o
  rw [h]
@[simp] theorem stepStart_ctx (oo : Nat) (o : OrdSt) : (stepStart oo o).1.ctx = o.ctx := by
  obtain ⟨_, _, _, _, _, _, h⟩ := stepStart_frame oo o
  rw [h]
@[simp] theorem stepStart_adv (oo : Nat) (o : OrdSt) : (stepStart oo o).1.adv = o.adv := by
  obtain ⟨_, _, _, _, _, _, h⟩ := stepStart_frame oo o
  rw [h]
@[simp] theorem stepStart_beat (oo : Nat) (o : OrdSt) : (stepStart oo o).1.beat = o.beat := by
  obtain ⟨_, _, _, _, _, _, h⟩ := stepStart_frame oo o
  rw [h]
@[simp] theorem stepStart_stalled (oo : Nat) (o : OrdSt) : (stepStart oo o).1.stalled = o.stalled := by
  obtain ⟨_, _, _, _, _, _, h⟩ := stepStart_frame oo o
  rw [h]
@[simp] theorem stepStart_start (oo : Nat) (o : OrdSt) : (stepStart oo o).1.start = some oo := by
  obtain ⟨_, _, _, _, _, _, h⟩ := stepStart_frame oo o
  rw [h]

/-- R35: the length and the lock after a step start that follows another. -/
theorem stepStart_len (oo st : Nat) (o : OrdSt) (h : o.start = some st) :
    let l := (oo + 2 ^ 48 - st) % 2 ^ 48
    (stepStart oo o).1.prevLen = (if l < 2 ^ 32 ∧ 0 < l then some l else none) ∧
      (stepStart oo o).1.lockLen = (if (l < 2 ^ 32 ∧ 0 < l) ∧ o.prevLen = some l then some l else none) := by
  simp only [stepStart, h, Bool.and_eq_true, decide_eq_true_eq, and_self]

/-- R28: the block enters holdover: the flag, the lock, the reference of its duration; a fault of class D; the cause. -/
theorem holdoverEnter_eq (s : State) (h : s.time.holdover = false) :
    holdoverEnter s = raise 1 0 (report 0x1002 0 { s with time := { s.time with
      holdover := true, locked := false, lockRun := 0, holdSince := s.time.up, epochRes := none } }) := by
  simp [holdoverEnter, lockLost, h]

/-- R33, R34: an accepted beat that is no step start. -/
theorem beatTake_plain (oo scene ctx : Nat) (o : OrdSt) :
    beatTake oo false scene ctx o =
      { o with seen := true, last := oo, scene := scene, ctx := ctx, adv := o.adv + beatAdvance o oo, beat := true } := rfl

/-- R33 to R35: what any accepted beat leaves of the ordinal. -/
theorem beatTake_last (oo scene ctx : Nat) (step : Bool) (o : OrdSt) :
    (beatTake oo step scene ctx o).last = oo ∧ (beatTake oo step scene ctx o).seen = true ∧
      (beatTake oo step scene ctx o).scene = scene ∧ (beatTake oo step scene ctx o).ctx = ctx := by
  cases step <;> simp [beatTake]

end Sys2Proof.Machine
end

