-- ==== Sys2Proof/WellFormed.lean ====
section
/-! DEFINITION. Which commands are well formed: every operand fits the field, the pin or the number of instances that the
manual gives it. -/

namespace Sys2Proof

/-- A command whose operands the block's inputs can carry. -/
def wellFormed : Instr → Bool
  | .tick _ _ bclk phase aoclk _ => decide (bclk < 2048) && decide (phase < 1000) && decide (aoclk < 256)
  | .tickWindowClose _ => true
  | .sampleEdge cycles dropped => decide (cycles < 16384) && decide (dropped < 65536)
  | .slotRun slot steps corr _ => decide (slot < 64) && steps.all (fun n => decide (n < 65536)) && decide (corr < 65536)
  | .overrun slot n corr _ => decide (slot < 64) && decide (n < 65536) && decide (corr < 65536)
  | .freezeMaxExpiry => true
  | .ordinalBeat oo _ scene ctx => decide (oo < 2 ^ 48) && decide (scene < 256) && decide (ctx < 4096)
  | .stepTimeout => true
  | .refill => true
  | .refillMessage booth _ => decide (booth < 64)
  | .give agent _ => decide (agent < 4096)
  | .agentReport agent _ => decide (agent < 4096)
  | .boothReportSummary booth _ => decide (booth < 64)
  | .resync agent => decide (agent < 4096)
  | .tkReq agent holder cls cost _ ecc => decide (agent < 4096) && decide (holder < 256) && decide (cls < 256) && decide (cost < 2 ^ 24) && decide (ecc < 3)
  | .tkRet agent holder amount => decide (agent < 4096) && decide (holder < 256) && decide (amount < 2 ^ 24)
  | .grantDecision agent ps _ ctx taps req ecc => ecc.all (fun e => decide (e.1 < 256) && decide (e.2 < 3)) && decide (agent < 4096) && decide (ps < 2 ^ 20) && decide (ctx < 4096) && taps.all (fun t => decide (t.1 < 64) && decide (t.2 < 256)) && decide (req < 2 ^ 24)
  | .reserveAge agent holder => decide (agent < 4096) && decide (holder < 256)
  | .deschedHint agent holder => decide (agent < 4096) && decide (holder < 256)
  | .forcedExpiry agent holder => decide (agent < 4096) && decide (holder < 256)
  | .engRstAssert agent => decide (agent < 4096)
  | .engRstRelease agent => decide (agent < 4096)
  | .giveWatchdogExpiry agent => decide (agent < 4096)
  | .boothReportTimeout booth => decide (booth < 64)
  | .noneOp priv agent => decide (priv < 4) && decide (agent < 4096)
  | .hold priv agent => decide (priv < 4) && decide (agent < 4096)
  | .unhold priv agent => decide (priv < 4) && decide (agent < 4096)
  | .addPool priv agent count => decide (priv < 4) && decide (agent < 4096) && decide (count < 2 ^ 24)
  | .discardPool priv agent count => decide (priv < 4) && decide (agent < 4096) && decide (count < 2 ^ 24)
  | .grantHolder priv agent holder => decide (priv < 4) && decide (agent < 4096) && decide (holder < 256)
  | .expireHolder priv agent holder => decide (priv < 4) && decide (agent < 4096) && decide (holder < 256)
  | .clearHolder priv agent holder => decide (priv < 4) && decide (agent < 4096) && decide (holder < 256)
  | .restore priv agent => decide (priv < 4) && decide (agent < 4096)
  | .forceBypass priv agent => decide (priv < 4) && decide (agent < 4096)
  | .tktSelLatch priv _ => decide (priv < 4)
  | .tktClassSwap priv => decide (priv < 4)
  | .activityRecord booth slot ctx sample window taps => decide (booth < 64) && decide (slot < 8) && decide (ctx < 4096) && decide (sample < 4) && decide (window < 512) && taps.all (fun t => decide (t.1 < 64) && decide (t.2 < 256))
  | .railResponse rail frame _ => decide (rail < 32) && decide (frame < 2 ^ 48)
  | .telemetryTimeout => true
  | .trustLost => true
  | .trustRegained => true
  | .unverified => true
  | .siteImplausible site => decide (site < 512)
  | .coldMajority => true
  | .coldMajorityClear => true
  | .hotMajorityRaise => true
  | .resetAdapt priv => decide (priv < 4)
  | .readmitSite priv site => decide (priv < 4) && decide (site < 512)
  | .cue ctx bits => decide (ctx < 4096) && decide (bits < 2 ^ 64)
  | .cueExpire index => decide (index < 64)
  | .settleHoldEnd dom => decide (dom < 16)
  | .sceneDataWrite priv _ => decide (priv < 4)
  | .hostCapWrite priv _ => decide (priv < 4)
  | .hostPrefWrite priv _ => decide (priv < 4)
  | .ffFallback => true
  | .ffReturn => true
  | .capUnattClear => true
  | .supplyEscRepeat => true
  | .rampStep => true
  | .droopCrossing det _ _ => decide (det < 2048)
  | .stretchHoldExpiry region => decide (region < 64)
  | .holdMaxExpiry region => decide (region < 64)
  | .rateWindowEnd => true
  | .agemonRead _ => true
  | .trimInstant => true
  | .store priv => decide (priv < 4)
  | .marginStoreDone _ _ => true
  | .thermalSiteRead site _ _ => decide (site < 512)
  | .siteTimeout site => decide (site < 512)
  | .thrAck => true
  | .graceExpiry => true
  | .curtainRead readings _ => decide (readings.length = 16)
  | .railOffRepeat => true
  | .curtainRelease => true
  | .coolHbEdge _ => true
  | .coolHbExpiry => true
  | .coolFaultClose => true
  | .leakState _ _ => true
  | .leakFiltExpiry => true
  | .dbpReport src dst role payload => decide (src < 32) && decide (dst < 32) && decide (role < 32) && decide (payload < 2 ^ 48)
  | .dbpAlloc src dst role payload => decide (src < 32) && decide (dst < 32) && decide (role < 32) && decide (payload < 2 ^ 48)
  | .dbpJoin src dst role payload => decide (src < 32) && decide (dst < 32) && decide (role < 32) && decide (payload < 2 ^ 48)
  | .dbpSlack src dst role payload => decide (src < 32) && decide (dst < 32) && decide (role < 32) && decide (payload < 2 ^ 48)
  | .dbpRoles src dst role payload => decide (src < 32) && decide (dst < 32) && decide (role < 32) && decide (payload < 2 ^ 48)
  | .dbpLeave src dst role payload => decide (src < 32) && decide (dst < 32) && decide (role < 32) && decide (payload < 2 ^ 48)
  | .joinPhaseEnd => true
  | .takeover => true
  | .memberSilence => true
  | .dieSilence die => decide (die < 24)
  | .donorTimeout die => decide (die < 24)
  | .pkgEscRepeat => true
  | .zilterInterval => true
  | .zltReport src dst seq term body => decide (src < 65536) && decide (dst < 65536) && decide (seq < 2 ^ 32) && decide (term < 65536) && decide (body.length = 44) && body.all (fun b => decide (b < 256))
  | .zltAlloc src dst seq term body => decide (src < 65536) && decide (dst < 65536) && decide (seq < 2 ^ 32) && decide (term < 65536) && decide (body.length = 44) && body.all (fun b => decide (b < 256))
  | .zltJoin src dst seq term body => decide (src < 65536) && decide (dst < 65536) && decide (seq < 2 ^ 32) && decide (term < 65536) && decide (body.length = 44) && body.all (fun b => decide (b < 256))
  | .zltLeave src dst seq term body => decide (src < 65536) && decide (dst < 65536) && decide (seq < 2 ^ 32) && decide (term < 65536) && decide (body.length = 44) && body.all (fun b => decide (b < 256))
  | .zltLeaveAck src dst seq term body => decide (src < 65536) && decide (dst < 65536) && decide (seq < 2 ^ 32) && decide (term < 65536) && decide (body.length = 44) && body.all (fun b => decide (b < 256))
  | .parentSilence => true
  | .childSilence package => decide (package < 65536)
  | .fmpTxTimeout => true
  | .mgmtGapTimeout => true
  | .heartbeatLost => true
  | .orphan => true
  | .managementHeartbeat seq => decide (seq < 2 ^ 32)
  | .getSequenceState seq => decide (seq < 2 ^ 32)
  | .getStatus seq => decide (seq < 2 ^ 32)
  | .getRegister seq offset => decide (seq < 2 ^ 32) && decide (offset < 2 ^ 32)
  | .reportCoolantTemperature seq temp => decide (seq < 2 ^ 32) && decide (-32768 ≤ temp) && decide (temp < 32768)
  | .setTickCount seq count => decide (seq < 2 ^ 32) && decide (count < 2 ^ 64)
  | .setLimit seq scope window value => decide (seq < 2 ^ 32) && decide (scope < 256) && decide (window < 256) && decide (value < 2 ^ 32)
  | .setThermalThreshold seq which value => decide (seq < 2 ^ 32) && decide (which < 256) && decide (-32768 ≤ value) && decide (value < 32768)
  | .setThrottleLevel seq level => decide (seq < 2 ^ 32) && decide (level < 256)
  | .setAuthority seq value => decide (seq < 2 ^ 32) && decide (value < 256)
  | .setAllowedModes seq mask => decide (seq < 2 ^ 32) && decide (mask < 256)
  | .setDieSlew seq value => decide (seq < 2 ^ 32) && decide (value < 256)
  | .setHoldoverPercent seq value => decide (seq < 2 ^ 32) && decide (value < 256)
  | .startRamp seq rampId c1 t0 d => decide (seq < 2 ^ 32) && decide (rampId < 65536) && decide (c1 < 2 ^ 32) && decide (t0 < 2 ^ 64) && decide (d < 2 ^ 32)
  | .cancelRamp seq rampId => decide (seq < 2 ^ 32) && decide (rampId < 65536)
  | .setZilterPosition seq package level parent => decide (seq < 2 ^ 32) && decide (package < 65536) && decide (level < 256) && decide (parent < 65536)
  | .setFleetBudget seq budget => decide (seq < 2 ^ 32) && decide (budget < 2 ^ 32)
  | .orderlyDeparture seq scope => decide (seq < 2 ^ 32) && decide (scope < 256)
  | .departed seq scope id => decide (seq < 2 ^ 32) && decide (scope < 256) && decide (id < 65536)
  | .scheduleSnapshot seq tick _ => decide (seq < 2 ^ 32) && decide (tick < 2 ^ 64)
  | .orderlyShutdown seq => decide (seq < 2 ^ 32)
  | .setEndpointId eid => decide (eid < 256)
  | .getEndpointId => true
  | .getEndpointUuid => true
  | .getMctpVersionSupport type => decide (type < 256)
  | .getMessageTypeSupport => true
  | .getVendorDefinedMessageSupport selector => decide (selector < 256)
  | .mctpReassemblyTimeout => true
  | .getTid => true
  | .getPldmVersion type => decide (type < 256)
  | .getPldmTypes => true
  | .getPldmCommands type => decide (type < 256)
  | .getSensorReading sensor => decide (sensor < 65536)
  | .getStateSensorReadings sensor => decide (sensor < 65536)
  | .getPdrRepositoryInfo => true
  | .getPdr record => decide (record < 2 ^ 32)
  | .entdaa address => decide (address < 128)
  | .setdasa static address => decide (static < 128) && decide (address < 128)
  | .rstdaa => true
  | .enec mask => decide (mask < 256)
  | .disec mask => decide (mask < 256)
  | .getPid => true
  | .getBcr => true
  | .getDcr => true
  | .i3cGetStatus => true
  | .setMwl length => decide (length < 65536)
  | .getMwl => true
  | .setMrl length => decide (length < 65536)
  | .getMrl => true
  | .rstact => true
  | .nop => true
  | .apply => true
  | .readCut => true
  | .storeAll => true
  | .porstNAssert => true
  | .porstNRelease => true
  | .hrstNAssert => true
  | .hrstNRelease => true
  | .blockSupplyLoss => true
  | .alwaysOnSupplyRemoval => true
  | .curtainTest _ => true
  | .memInit => true
  | .pingRepeat => true
  | .discover _ rev density _ _ => decide (rev < 256) && decide (density < 64)
  | .read => true
  | .flashReadTimeout => true
  | .release priv => decide (priv < 4)
  | .keyRegWrite priv offset _ => decide (priv < 4) && decide (offset < 2 ^ 20)
  | .verify => true
  | .check => true
  | .live => true
  | .load priv => decide (priv < 4)
  | .program priv => decide (priv < 4)
  | .programCal priv => decide (priv < 4)
  | .restart priv => decide (priv < 4)
  | .loadData priv _ => decide (priv < 4)
  | .loadStreamTimeout => true
  | .loaderDone _ _ => true
  | .close priv _ => decide (priv < 4)
  | .recover priv => decide (priv < 4)
  | .errPairMismatch => true
  | .bclkAbsent => true
  | .bclkReturn => true
  | .aoclkOutOfRange count => decide (count < 256)
  | .en priv _ => decide (priv < 4)
  | .curtArm priv => decide (priv < 4)
  | .hostIdle => true
  | .injectionGo priv => decide (priv < 4)
  | .pbPublish code => decide (code < 65536)
  | .clear priv => decide (priv < 4)
  | .pbStore priv => decide (priv < 4)
  | .pbStoreDone _ _ => true
  | .pbStoredFetch priv => decide (priv < 4)
  | .pbFind priv code => decide (priv < 4) && decide (code < 65536)
  | .opminAdvance => true
  | .obsOpLatch priv => decide (priv < 4)
  | .arm priv => decide (priv < 4)
  | .stop priv => decide (priv < 4)
  | .snapIn => true
  | .snapArm priv => decide (priv < 4)
  | .cancel priv => decide (priv < 4)
  | .snapshotEdge => true
  | .snapDrainDone => true
  | .avsResponse rail _ => decide (rail < 15)
  | .tapIdcode => true
  | .samplePreload => true
  | .tapBypass => true
  | .mbistRun => true
  | .mbistDone _ => true
  | .mbistResult => true
  | .scanBlock => true
  | .paramRead => true
  | .aoMirror => true
  | .registerWrite priv offset _ => decide (priv < 4) && decide (offset < 2 ^ 20)
  | .blockSupplyReturn => true
  | .keyWaitAttn => true
  | .loRegisterRead priv ctx offset => decide (priv < 4) && decide (ctx < 4096) && decide (offset < 2 ^ 20)
  | .ordinalQueueFull oo => decide (oo < 2 ^ 48)
  | .dbpBad => true
  | .zltBad _ => true
  | .unknownCommand code seq _ => decide (code < 256) && decide (seq < 2 ^ 32)
  | .unsupportedPldmCmd type cmd => decide (type < 64) && decide (cmd < 256)

end Sys2Proof
end

