-- ==== Sys2Proof/Tests/Slice0.lean ====
section
/-! SUPPORT. Tests of the model: ill-formed commands are refused by the well-formedness check; for each statement a concrete
state and operands that meet its hypotheses, clause by clause; single steps on small states, with results worked out in the
manual or by hand from its rules. -/

namespace Sys2Proof.Tests

set_option Elab.async false

open Sys2Proof Sys2Proof.Machine

/-! ### Small states -/

/-- Two Agents of Booth 0: a lump Agent with pool ceiling 1,000, and a lease Agent. -/
def book : Playbill := { playbill0 with
  valid := true,
  agents := [(0, { agentCfg0 with poolCeil := 1000 }), (1, { agentCfg0 with lease := true, poolCeil := 1000, maxLease := 8 })] }

/-- The block in LIVE with its Control Program running, tick 5,000 counted. -/
def live : State := { State.reset with
  pb := book, core := { coreSt0 with running := true },
  start := { startSt0 with porstLow := false, state := 9, live := true },
  time := { timeSt0 with
    up := 5000, count := 5000, countSet := true, anyTick := true, lastRef := some 1000, lastAcc := some 1000,
    lastTick := some 1000 } }

/-- Agent 0 as given. -/
def withAgent (g : Agent) : State := { live with tk := { ticketSt0 with agents := [(0, g)] } }

/-- A stage of the start with its clock. -/
def stage (n : Nat) : State := { live with start := { startSt0 with porstLow := false, state := n } }

/-- The collector as given. -/
def withFault (f : FaultSt) : State := { live with fault := f }

theorem test_live_runs : running live = true ∧ programRuns live = true ∧ clocked live = true ∧ holdOut live = false := by decide

theorem open_live : live.portOpen := by unfold State.portOpen; decide
theorem open_stage (n : Nat) (h0 : n ≠ 0) (h : n ≠ 15) : (stage n).portOpen := ⟨rfl, rfl, h0, h⟩

/-! ### Witnesses: the step, faults, time -/

theorem witness_step_runs_front :
    ({ live with pending := [.thrAck] } : State).pending = .thrAck :: [] ∧ live.pending = [] := by decide +kernel

/-- Clauses of `FaultOpens`: a class D code with nothing open; codes of classes C and N. -/
theorem witness_fault_opens :
    live.start.blkUp = true ∧ live.start.bclkAbsent = false ∧ live.fault.isOpen = false ∧
    faultClass 0x1001 = 3 ∧ faultClass 0x8006 = 5 ∧ faultClass 0x3001 = 2 ∧ faultClass 0x1003 = 1 := by decide +kernel

theorem witness_fault_merges :
    (withFault { faultSt0 with isOpen := true, cls := 3, code := 0x1001 }).fault.isOpen = true ∧
    3 ≤ faultClass 0x1001 ∧ 4 ≤ faultClass 0x2007 ∧ faultClass 0x8004 = 5 := by decide +kernel

/-- Clauses of `FaultCounts`: an unknown code, a known one with supply and clock, one without the supply. -/
theorem witness_fault_counts :
    faultClass 0x1000 = 0 ∧ faultClass 0x1001 ≠ 0 ∧ live.start.blkUp = true ∧ live.start.bclkAbsent = false ∧
    ({ live with start := { live.start with blkUp := false } } : State).start.blkUp = false := by decide +kernel

theorem witness_safe_state_entry :
    live.start.blkUp = true ∧ live.start.bclkAbsent = false ∧ faultClass 0xC001 = 4 ∧ live.fault.safe = false ∧
    live.par.safeVolt ≠ 0 := by decide +kernel

theorem witness_fault_commands :
    (withFault { faultSt0 with isOpen := true, cls := 3 }).fault.cls = 3 ∧
    (withFault { faultSt0 with isOpen := true, cls := 4 }).fault.cls ≠ 3 ∧
    (withFault { faultSt0 with isOpen := true, cls := 3 }).fault.isOpen = true ∧
    ({ live with start := { live.start with bclkAbsent := true } } : State).start.bclkAbsent = true := by decide +kernel

/-- The arming clauses of `FaultCommands`: EN held, 4 µs since the arming edge, a mapped injection checker. -/
theorem witness_rehearsal :
    wreg { live with regs := { regSt0 with wr := [(0xB040, 2 ^ 31)] } } 0xB040 = 2 ^ 31 ∧
    (let s := withFault { faultSt0 with curtArm := true, armUp := 19984 }
     s.fault.curtArm = true ∧ (∀ a ∈ s.tk.agents, a.2.rateQ = 0) ∧ s.fault.armUp + 16 ≤ max s.time.edgeQ (4 * s.time.up)) ∧
    (let s : State := { live with fault := { faultSt0 with reh := true }, regs := { regSt0 with wr := [(0xB044, 0x60000000)] } }
     s.fault.reh = true ∧ s.fault.inj = none ∧ checkerHere s (bits (wreg s 0xB044) 31 16) = true ∧
       bits (wreg s 0xB044) 31 16 / 4096 ≠ 11) := by decide +kernel

/-- The block in holdover, its generator locked again or not. -/
def held (lock : Bool) : State := { live with time := { live.time with holdover := true, locked := lock, holdSince := 4000 } }

/-- Both ends of the window and of the BCLK range, outside holdover and in one that has locked. -/
theorem witness_tick_accepted :
    live.time.holdover = false ∧ (held true).time.locked = true ∧ (held true).time.lastRef = some 1000 ∧ live.time.anyTick = true ∧ live.time.lastRef = some 1000 ∧
    (950 : Int) ≤ 1950 - 1000 ∧ (2050 : Int) - 1000 ≤ 1050 ∧ 980 ≤ 980 ∧ 1020 ≤ 1020 := by decide +kernel

/-- `TickKeepsCount`: the first tick of all, one in holdover, discarded ticks on both sides, an epoch
marker alone, one that loads a count, one that ends holdover. -/
theorem witness_tick_keeps_count :
    (stage 3).start.blkUp = true ∧ State.reset.time.anyTick = false ∧ State.reset.time.lastAcc = none ∧
    (held false).time.lastAcc = some 1000 ∧ (held false).time.locked = false ∧ (950 : Int) ≤ 1950 - 1000 ∧
    (1949 : Int) - 1000 < 950 ∧ (1050 : Int) < 2051 - 1000 ∧ clocked live = true ∧
    tickAccepted { live.time with pendCount := some 7000 } 2000 = true ∧ live.time.holdover = false ∧
    (held true).time.holdover = true ∧ (held true).time.locked = true ∧ (held true).time.anyTick = true ∧
    tickAccepted (held true).time 2000 = true ∧ (held true).time.pendCount = none := by decide +kernel

/-- `WindowClose`: a tick that has come, a pulse accepted before its tick, the first three missing ticks, the fourth, holdover. -/
theorem witness_window_close :
    live.time.anyTick = true ∧ live.time.lastTick = some 1000 ∧ (1499 : Int) < 1000 + 500 ∧ (1000 + 500 : Int) ≤ 1500 ∧
    ({ live.time with lastTick := some 0 } : TimeSt).lastAcc = some 1000 ∧ (1400 : Int) < 1000 + 500 ∧ (0 + 500 : Int) ≤ 1400 ∧
    (held false).time.holdover = true ∧ (held false).time.locked = false ∧ (held true).time.locked = true ∧ ({ live.time with synthRun := 2 } : TimeSt).synthRun ≤ 2 ∧
    3 ≤ ({ live.time with synthRun := 3 } : TimeSt).synthRun ∧ ({ live.time with holdover := true } : TimeSt).holdover = true := by
  decide +kernel

/-- `BeatAcceptance`: the first beat, gaps 1 and 2^47 - 1, and gaps 0 and 2^47. -/
theorem witness_beat_acceptance :
    live.ord.seen = false ∧ ({ ordSt0 with seen := true, last := 10 } : OrdSt).seen = true ∧
    (11 + 2 ^ 48 - 10) % 2 ^ 48 = 1 ∧ (10 + (2 ^ 47 - 1) + 2 ^ 48 - 10) % 2 ^ 48 = 2 ^ 47 - 1 ∧
    (10 + 2 ^ 48 - 10) % 2 ^ 48 = 0 ∧ 2 ^ 47 ≤ (10 + 2 ^ 47 + 2 ^ 48 - 10) % 2 ^ 48 := by decide +kernel

/-- `StepLock`: a step start before, and a length of one. -/
theorem witness_step_lock :
    ({ ordSt0 with seen := true, last := 10, start := some 10 } : OrdSt).start = some 10 ∧
    1 ≤ (11 + 2 ^ 48 - 10) % 2 ^ 48 ∧ (11 + 2 ^ 48 - 10) % 2 ^ 48 < 2 ^ 47 ∧ (11 + 2 ^ 48 - 10) % 2 ^ 48 ≠ 0 := by decide +kernel

theorem witness_time_timers :
    (let s : State := { live with ord := { ordSt0 with start := some 5, activeLast := some 3, active := 7 } }
     s.ord.start = some 5 ∧ s.ord.expired = false ∧ s.ord.activeLast = some 3 ∧ 2 * 3 < s.ord.active) ∧
    (let s : State := { live with ord := { ordSt0 with start := some 5, active := 10000000000 } }
     s.ord.start = some 5 ∧ s.ord.expired = false ∧ s.ord.activeLast = none ∧
       bits (areg s 0x1004) 15 0 * 1000000 / (250 * 2 ^ s.time.pSel) < s.ord.active) ∧
    State.reset.time.anyTick = false ∧ 60000000 ≤ ({ live.time with opTicks := 60000000 } : TimeSt).opTicks ∧
    94 < 95 ∧ 105 < 106 ∧ 3 ≤ ({ portSt0 with aoBadRun := 3 } : PortSt).aoBadRun ∧ live.start.aoclkBad = false := by decide +kernel

/-! ### Witnesses: rails, activity, tickets -/

/-- Rail 3, measured, with a limit of 500 mV; a PING reply and a telemetry frame. -/
def railed : State := { live with
  pb := { book with law := { lawCfg0 with rails := [(3, { railCfg0 with maxV := 1000 })] },
                    model := { modelCfg0 with measured := [3] } },
  port := { portSt0 with replied := [3] }, tel := { telSt0 with phase := some 4999 } }

/-- `RailAnswers`: the reply, the answer that completes the phase, one that leaves another rail open, AVSBus. -/
theorem witness_rail_answers :
    (frameBad railed.pb.law 3 205608674394238 true = 0 ∧ bits 205608674394238 43 40 = 0xB ∧ 3 ∉ live.port.replied) ∧
    (frameBad railed.pb.law 3 203443205596364 true = 0 ∧ bits 203443205596364 43 40 = 9 ∧ 3 ∈ railed.pb.model.measured ∧
      3 ∈ railed.port.replied ∧ railed.tel.phase = some 4999) ∧
    (∀ m ∈ railed.pb.model.measured, tlook m (tins 3 (2000, 100) railed.tel.answered) ≠ none) ∧
    (∃ m ∈ [3, 4], tlook m (tins 3 (2000, 100) railed.tel.answered) = none) ∧
    (let p : PortSt := { portSt0 with avsQ := [(2, 900)], avsTry := [(2, 2)] }
     tlook 2 p.avsQ = some 900 ∧ tget 0 2 p.avsTry < 3 ∧ tlook 1 p.avsQ = none) ∧
    (3 ≤ tget 0 2 [(2, 3)] ∧ 2 ∉ portSt0.avsUnconf) := by decide +kernel

theorem witness_activity_adds :
    (∀ a ∈ live.pb.agents, a.1 / 64 ≠ 1) ∧ 4 < 5 ∧ 4 ≤ 4 ∧ (∃ a ∈ live.pb.agents, a.1 / 64 = 0) := by decide +kernel

/-- A cost table: class 0 costs 40; class 1 takes the supplied cost, at most 50; class 2 costs more than the ceiling. -/
def costed : State := { live with tk := { ticketSt0 with cost := [(0, 40), (2, 50), (3, 256), (4, 1001)] } }

theorem witness_request_taken :
    (tlook 0 costed.pb.agents).isSome = true ∧ (agentOf costed 0).engRst = false ∧ costed.fault.inj = none ∧
    3 ∉ (agentOf costed 0).badHolders ∧ (holderOf (agentOf costed 0) 3).wait = false ∧
    (holderOf { agent0 with holders := [(3, { holder0 with wait := true })] } 3).wait = true ∧
    (tget 0 3 costed.tk.cost).testBit 8 = true ∧ tget 0 2 costed.tk.cost % 2 ^ 24 < 51 ∧
    50 ≤ (agentMap costed 0).poolCeil ∧ (agentMap costed 0).poolCeil < tget 0 4 costed.tk.cost % 2 ^ 24 ∧
    (tget 0 5 costed.tk.cost).testBit 8 = false := by decide +kernel

theorem witness_return_taken :
    (let s := withAgent { agent0 with epoch := 1250, epGrant := 10, holders := [(3, { holder0 with wait := true })] }
     (tlook 0 s.pb.agents).isSome = true ∧ (agentOf s 0).epoch = s.time.count / 4 ∧
       (agentOf s 0).epGrant + (agentOf s 0).epGrantOld - ((agentOf s 0).epRet + (agentOf s 0).epRetOld) = 10 ∧
       (agentOf s 0).byp = false ∧ (holderOf (agentOf s 0) 3).wait = true) ∧ 10 ≤ 10 ∧ 10 < 11 := by decide +kernel

/-- A waiting holder of cost 40: with pool and budget exactly enough, and one short of the pool. -/
def waiter (recv rc : Nat) : State :=
  withAgent { agent0 with recv := recv, rcLeft := rc, holders := [(3, { holder0 with wait := true, cost := 40 })] }

theorem witness_grant_lump :
    (let s := waiter 40 40
     running s = true ∧ s.fault.inj = none ∧ (agentOf s 0).handGrants = [] ∧
       poolOf (agentOf s 0) ≤ (agentMap s 0).poolCeil ∧ poolOf (agentOf s 0) < 2 ^ 24 ∧ (agentMap s 0).lease = false ∧ (agentOf s 0).engRst = false ∧ (agentOf s 0).byp = false ∧
       (agentOf s 0).pulse = none ∧ (agentOf s 0).holders = [(3, { holder0 with wait := true, cost := 40 })] ∧
       activeHold s 0 (agentOf s 0) = 0 ∧ 40 ≤ poolOf (agentOf s 0) ∧ 40 ≤ (agentOf s 0).rcLeft) ∧
    poolOf (agentOf (waiter 39 40) 0) < 40 ∧ (agentOf (waiter 40 39) 0).rcLeft < 40 := by decide +kernel

theorem witness_grant_pulse :
    (let s := withAgent { agent0 with pulse := some (3, 0, 40) }
     (agentOf s 0).pulse = some (3, 0, 40) ∧ poolOf (agentOf s 0) ≤ (agentMap s 0).poolCeil ∧ poolOf (agentOf s 0) < 2 ^ 24) ∧
    (agentOf (withAgent { agent0 with pulse := some (3, 0, 40), engRst := true }) 0).engRst = true := by decide +kernel

theorem witness_agent_timers :
    (let x := withAgent { agent0 with holders := [(3, { holder0 with wait := true, cost := 40, w := 4096, since := 19936 })] }
     let s := { x with
        time := { x.time with edgeQ := 20000 },
        tk := { x.tk with cost := [(1, 8)], bds := [(0, { boothDom0 with stopUp := some 19936 })] } }
     let e := holderOf (agentOf s 0) 3
     e.wait = true ∧ areg s 0x2008 % 16 ≤ ageOf e.w ∧ tget 0 (2 * e.cls + 1) s.tk.cost % 16 ≠ 0 ∧
       tget 0 (2 * e.cls + 1) s.tk.cost % 16 ≤ ageOf e.w ∧ e.descSent = false ∧
       (tget boothDom0 0 s.tk.bds).stopUp = some 19936 ∧ handHeld s (agentOf s 0) = false ∧ (agentOf s 0).byp = false ∧
       areg s 0x2080 % 2 ^ 10 = 16 ∧ 19936 + 4 * 16 ≤ s.time.edgeQ ∧ e.since + 4 * 16 ≤ s.time.edgeQ ∧
       grantsNow s 0 3 = false ∧ (agentOf s 0).engRst = false) ∧
    (let s := withFault { faultSt0 with curtArm := true }; handHeld s (agentOf s 0) = true) ∧
    (let s := withAgent { agent0 with wdRun := true, wdCyc := 4096 }
     (agentOf s 0).wdRun = true ∧ (agentMap s 0).wd ≤ (agentOf s 0).wdCyc ∧ holdOut s = false ∧ s.start.bclkAbsent = false) ∧
    (agentOf (withAgent { agent0 with byp := true }) 0).byp = true := by decide +kernel

/-- `RefillBoundary`: no clock, running, hold outputs driven. -/
theorem witness_refill_boundary :
    clocked { live with start := { live.start with bclkAbsent := true } } = false ∧ live.pb.valid = true ∧
    live.tk.cmd = none ∧ live.tk.latchReq = false ∧ live.fault.inj = none ∧ trcSources live [1] = [] ∧ running live = true ∧
    (let s := withFault { faultSt0 with safe := true }; fabricHeld s = true ∧ trcSources s [1] = [] ∧ clocked s = true) := by
  decide +kernel

/-- R58's example: 1,000,000 tickets over a sample of 1,000 cycles: 32 refills, the last of 8 cycles. -/
def million (sent : Nat) : BoothDom := { boothDom0 with send := 1000000, sent := sent }

theorem witness_refill_sums :
    (million 0).sent = (million 0).send * min (32 * 0) 1000 / 1000 ∧
    (million 992000).sent = (million 992000).send * min (32 * 31) 1000 / 1000 ∧ 32 * 31 < 1000 ∧ 1000 ≤ 32 * (31 + 1) ∧
    1000 ≤ 32 * 32 := by decide +kernel

theorem witness_split_keeps :
    (let s : State := { live with tk := { ticketSt0 with toBooth := [(0, [(⟨0, 0, 32, [(0, 100)], 0, [], [], [], []⟩ : RefillMsg)])] } }
     tget [] 0 s.tk.toBooth = ⟨0, 0, 32, [(0, 100)], 0, [], [], [], []⟩ :: [] ∧ (s.pb.agents.map Prod.fst).Nodup) ∧
    32 ≤ 32 := by decide +kernel

/-- `GiveArrives`: an Agent in bypass; pools at the ceiling and one above it; a holder that waits on its rate. -/
theorem witness_give_arrives :
    (agentOf (withAgent { agent0 with byp := true }) 0).byp = true ∧
    diff32 ((0 + 1000) % 2 ^ 32) 0 ≤ (agentMap live 0).poolCeil ∧ diff32 ((0 + 1000) % 2 ^ 32) 0 < 2 ^ 24 ∧
    (agentMap live 0).poolCeil < diff32 ((0 + 1001) % 2 ^ 32) 0 ∧
    tget [] 0 [(0, [(⟨1, 1, 1000, 5, 0, 0, 0⟩ : GiveMsg)])] = [⟨1, 1, 1000, 5, 0, 0, 0⟩] ∧
    (holderOrder (waitingOf { agent0 with holders := [(3, { holder0 with wait := true, reason := 2 })] })).map
      (fun x => x.2.reason) = [2] ∧
    (agentMap live 1).lease = true ∧ handHeld live (agentOf live 1) = false ∧ (agentOf live 1).engRst = false ∧
    (agentMap live 0).lease = false := by decide +kernel

theorem witness_reports_taken :
    tget [] 0 [(0, [agentRep0])] = [agentRep0] ∧ 32 ≤ 32 ∧ 32 < 33 ∧
    tget [] 0 [(0, [[agentRep0]])] = [[agentRep0]] ∧
    boothFailed live 0 = false ∧ served live agentRep0.agent = true ∧ officeBad (officeRep agentRep0 live) 0 = false ∧
    boothBad live 0 = false ∧
    boothFailed { live with tk := { ticketSt0 with booths := [(0, { booth0 with failed := true })] } } 0 = true ∧
    (let s : State := { live with tk := { ticketSt0 with booths := [(0, { booth0 with missed := 4 })] } }
     4 ≤ (tget booth0 0 s.tk.booths).missed ∧ 0 ∈ boothKeys s ∧ running s = true ∧ boothFailed s 0 = false) ∧
    (let s := withAgent { agent0 with byp := true, resyncWait := true, bypEntries := 3 }
     (agentOf s 0).resyncWait = true ∧ (agentOf s 0).byp = true ∧ boothFailed s 0 = false ∧ (agentOf s 0).badHolders = [] ∧
       (agentOf s 0).bypEntries < 4 ∧
       boothFailed { s with tk := { s.tk with booths := [(0, { booth0 with failed := true })] } } (0 / 64) = true) ∧
    (let s := withAgent { agent0 with byp := true }
     let u := { s with tk := { s.tk with office := [(0, { officeAgent0 with rejoin := true })] } }
     served s 0 = false ∨ served u 0 = false) := by decide +kernel

/-- An Agent under a hand hold with 10 tickets in its pool and a waiting holder. -/
def handed : State := withAgent { agent0 with
  handHold := true, recv := 10, holders := [(3, { holder0 with wait := true, cost := 40 })] }

theorem witness_hand_operations :
    handed.portOpen ∧ handed.tk.cmdDone = true ∧ (tlook 0 handed.pb.agents).isSome = true ∧
    handHeld handed (agentOf handed 0) = true ∧ (agentOf handed 0).byp = false ∧
    (let s := withAgent { agent0 with handHold := true, byp := true, holders := [(3, { holder0 with wait := true, cost := 40 })] }
     handHeld s (agentOf s 0) = true ∧ (agentOf s 0).byp = true ∧ (holderOf (agentOf s 0) 3).wait = true) ∧ (holderOf (agentOf handed 0) 3).wait = true ∧
    diff32 (tget officeAgent0 0 handed.tk.office).sent (agentOf handed 0).spent + 1000 ≤ (agentMap handed 0).poolCeil ∧
    (let g := agentOf (withAgent { agent0 with byp := true, bypEntries := 3 }) 0
     g.byp = true ∧ boothFailed live (0 / 64) = false ∧ g.badHolders = [] ∧ g.bypEntries < 4 ∧ live.fault.inj = none) := by
  unfold State.portOpen; decide +kernel

theorem witness_hand_refusals :
    handed.portOpen ∧ ({ ticketSt0 with cmdDone := false } : TicketSt).cmdDone = false ∧ live.tk.cmdDone = true ∧
    tlook 5 live.pb.agents = none ∧ (agentOf live 0).byp = false ∧ handHeld live (agentOf live 0) = false ∧
    handHeld handed (agentOf handed 0) = true ∧
    (agentMap handed 0).poolCeil < diff32 (tget officeAgent0 0 handed.tk.office).sent (agentOf handed 0).spent + 1001 ∧
    (holderOf (agentOf handed 0) 4).wait = false ∧ (0x80000000#32).toNat.testBit 31 = true := by
  unfold State.portOpen; decide +kernel

/-! ### Witnesses: the core, estimation, laws, caps, droop and margin -/

/-- One slot on thread 0 with one instruction: a store of register 1 to scalar data memory. -/
def slotted (act : CoreAct) : State := { live with pb := { book with
  slots := [(0, { slotDesc0 with budget := 9, start := 10 })], code := [(0, [⟨.mem, none, [], 0, 0, false, act⟩])] } }

theorem witness_slot_runs :
    (let s := slotted (.storeW 1 0 5)
     s.fault.inj = none ∧ slotReady s 0 = true ∧ trcSources s [1] = [] ∧ slotReady s 1 = false ∧
       (tget [] 0 s.pb.code).map CoreInsn.act = [.storeW 1 0 5]) ∧
    (tget [] 0 (slotted (.scalar 0 3 1 2)).pb.code).map CoreInsn.act = [.scalar 0 3 1 2] ∧ 2 ≤ 2 := by decide +kernel

theorem witness_overrun_stops :
    slotReady (slotted .nothing) 0 = true ∧ trcSources (slotted .nothing) [1] = [] ∧
    ({ slotted .nothing with core := { coreSt0 with running := true, overrunRun := 7 } } : State).core.overrunRun + 1 = 8 ∧
    (let s : State := { live with core := { coreSt0 with frozen := true, frozenN := 1000 } }
     s.core.frozen = true ∧ max 1 (areg s 0x301C % 2 ^ 16) ≤ s.core.frozenN) := by decide +kernel

/-- The edge that is due at tick 5,000 with the tick counted. -/
theorem witness_edge_latches :
    clocked live = true ∧ live.start.state ≠ 0 ∧ edgeDue live.time = some (5000, 5000, 0) ∧ liveDue live = false ∧
    live.start.restartWait = false ∧ live.port.posted = none ∧ live.core.estGo = none := by decide +kernel

/-- The estimator's memory and output as given; the configuration image gives the default thresholds. -/
def estimated (m : EstMem) (o : EstOut) : State := { live with core := { coreSt0 with
  running := true, mem := { coreMem0 with est := m }, out := { coreOut0 with est := o } } }

theorem witness_estimator_transitions :
    (let s := estimated estMem0 { estOut0 with disCount := 64 }
     programRuns s = true ∧ s.core.out.est.untrusted = false ∧ regIn s.core.im.cfg 0x4004 % 2 ^ 11 ≤ s.core.out.est.disCount) ∧
    (let s := estimated estMem0 { estOut0 with untrusted := true, agreeCount := 1024 }
     s.core.out.est.untrusted = true ∧ regIn s.core.im.cfg 0x4008 / 2 ^ 16 % 2 ^ 16 ≤ s.core.out.est.agreeCount) ∧
    8 ≤ ({ estMem0 with incRun := 8 } : EstMem).incRun ∧ 4 ≤ ({ estMem0 with coldRun := 4 } : EstMem).coldRun ∧
    ({ estOut0 with coldMaj := true } : EstOut).coldMaj = true ∧ 16 ≤ ({ estMem0 with noColdRun := 16 } : EstMem).noColdRun ∧
    ({ estMem0 with inited := true, hotRun := 4 } : EstMem).inited = true ∧ estOut0.unverified = false ∧
    (let s : State := { estimated { estMem0 with plaus := [(2, { sitePlaus0 with cold := 4 })] } { estOut0 with warmup := false } with
        pb := { book with therm := { thermCfg0 with sites := [(2, siteCfg0)] } } }
     (tlook 2 s.pb.therm.sites).isSome = true ∧ s.core.out.est.warmup = false ∧ s.core.out.est.coldMaj = false ∧
       (tget sitePlaus0 2 s.core.mem.est.plaus).broken = false ∧
       regIn s.core.im.cfg 0x4084 % 2 ^ 6 ≤ (tget sitePlaus0 2 s.core.mem.est.plaus).cold) ∧
    regIn live.core.im.cfg 0x4084 / 2 ^ 8 % 2 ^ 8 ≤ 16 := by decide +kernel

theorem witness_scenes_and_cues :
    (let s : State := { live with port := { portSt0 with cueReady := true }, law := { lawSt0 with cueBuf := List.replicate 7 (0, 0) } }
     s.port.cueReady = true ∧ clocked s = true ∧ running s = true ∧ s.law.cueBuf.length < 8) ∧
    8 ≤ (List.replicate 8 ((0, 0) : Nat × Nat)).length ∧
    (let s := withFault { faultSt0 with safe := true }; holdOut s = true ∧ programRuns s = true) ∧
    (let q : CueEntry := ⟨0, 0, 0, 0, 0, 0, false, 4000, none⟩
     let s : State := { live with core := { coreSt0 with
        running := true, mem := { coreMem0 with law := { lawMem0 with cues := [q] } } } }
     s.core.mem.law.cues[0]? = some q ∧ programRuns s = true ∧ q.since + areg s 0x5100 % 2 ^ 10 ≤ s.time.up ∧
       q.view ≠ some s.core.im.k) ∧
    (let s : State := { live with regs := { regSt0 with wr := [(0x50C0, 256)] } }
     let e := 2 * (wreg s 0x50C0 % 256)
     let k := e + wreg s 0x50C0 / 256 % 2
     let w1 := fun w => tget 0 (e + 1) (tset 0 k w (scenePending s.law))
     let sum := fun w => w1 w / 2 ^ 24 % 256 + w1 w / 2 ^ 16 % 256 + w1 w / 2 ^ 8 % 256 + w1 w % 256
     sum 0x40404040 = 256 ∧ sum 0x40404041 = 257) := by decide +kernel

theorem witness_caps_and_ramps :
    ({ capSt0 with auth := 1 } : CapSt).auth = 1 ∧ capSt0.auth ≠ 1 ∧ (0xFFFFFFFF#32).toNat = 2 ^ 32 - 1 ∧
    1000 ≤ ({ capCfg0 with dieCeil := 1000 } : CapCfg).dieCeil ∧ (999#32).toNat ≠ 2 ^ 32 - 1 ∧
    prefFields (0#32).toNat ≠ prefFields (wreg live 0x6014) ∧ prefFields (1#32).toNat = prefFields 0 ∧
    (let s : State := { live with core := { coreSt0 with running := true, mem := { coreMem0 with cap := { capMem0 with fbRun := 65535 } } } }
     programRuns s = true ∧ s.core.mem.cap.fallback = false ∧
       max 1 (regIn s.core.im.cfg 0x601C / 2 ^ 16 % 2 ^ 16) ≤ s.core.mem.cap.fbRun ∧
       max 1 (regIn s.core.im.cfg 0x601C % 2 ^ 16) ≤ 65535) ∧
    modeBase { book with cap := { capCfg0 with modeAllow := 6 } } image0 = 1 ∧
    ({ capMem0 with fallback := true } : CapMem).fallback = true ∧ 64 ≤ ({ capMem0 with unattRun := 64 } : CapMem).unattRun ∧
    (let s : State := { live with core := { coreSt0 with app := { coreOut0 with cap := { capOut0 with esc := true, escUp := 4000 } } } }
     running s = true ∧ s.core.app.cap.esc = true ∧ s.core.app.cap.escUp + 1000 ≤ s.time.up) ∧
    (let s : State := { live with cap := { capSt0 with ramp := some ⟨1, 20000, 10000, 4000, 1⟩, val := some 20000 } }
     clocked s = true ∧ isLive s = true ∧ s.cap.next = [] ∧ s.time.holdover = false ∧ s.cap.val = some 20000) := by
  decide +kernel

/-- Detector 0 of region 0 on rail 3 with a reference of 1,000,000: levels at 8,000 × D below. -/
def drooped : State := { live with
  pb := { book with dets := [(0, { detCfg0 with rail := 3, region := 0 })] }, law := { lawSt0 with railV := [(3, 1000)] } }

theorem witness_droop_reflex :
    tlook 0 drooped.pb.dets = some { detCfg0 with rail := 3, region := 0 } ∧ drooped.start.blkUp = true ∧
    vrefAt drooped 3 0 = 1000000 ∧ 1000 * 751 + 8000 * 31 < 1000000 ∧
    (1000000 ≤ 1000 * 752 + 8000 * 31 ∧ 1000 * 815 + 8000 * 23 < 1000000) ∧
    (1000000 ≤ 1000 * 816 + 8000 * 23 ∧ 1000 * 879 + 8000 * 15 < 1000000) ∧ 1000000 ≤ 1000 * 880 + 8000 * 15 ∧
    highLevel drooped 0 = 0 ∧ (tget region0 0 drooped.margin.regions).u = 0 ∧
    (let s : State := { live with margin := { marginSt0 with regions := [(0, { region0 with u := 1 })] } }
     highLevel s 0 < (tget region0 0 s.margin.regions).u ∧ (tget region0 0 s.margin.regions).u ≠ 0 ∧
       (tget region0 0 s.margin.regions).lifted = false) ∧
    (let s : State := { live with margin := { marginSt0 with due := some 65535, highRun := 255, vdr := 254 } }
     s.margin.due = some 65535 ∧ areg s 0x7004 / 2 ^ 16 % 2 ^ 16 < 65535 ∧
       areg s 0x7004 / 2 ^ 8 % 2 ^ 8 ≤ s.margin.highRun + 1 ∧ areg s 0x7008 / 2 ^ 24 % 2 ^ 8 ≤ s.margin.vdr ∧
       0 + 1 < areg s 0x7004 / 2 ^ 8 % 2 ^ 8 ∧ 0 < areg s 0x7008 / 2 ^ 24 % 2 ^ 8 ∧
       areg s 0x7004 % 2 ^ 8 ≤ 255 ∧ 0 + 1 < areg s 0x7004 % 2 ^ 8 ∧
       areg s 0x7004 / 2 ^ 16 % 2 ^ 16 / 4 < areg s 0x7004 / 2 ^ 16 % 2 ^ 16) := by decide +kernel

theorem witness_margin_care :
    (let s : State := { live with pb := { book with mons := [(7, 0)] }, margin := { marginSt0 with readDue := true } }
     s.margin.readDue = true ∧ tlook 7 s.pb.mons = some 0 ∧ s.fault.inj = none ∧ (tget ageMon0 7 s.margin.mons).failed = false ∧
       readValid s 0 = true ∧ readValid (stage 8) 0 = false) ∧
    (let s : State := { live with
        regs := { regSt0 with act := [(0x7040, 2 ^ 31 + 5 * 2 ^ 27)] }, pb := { book with mons := [(7, 0)] },
        margin := { marginSt0 with trimDue := 1, mons := [(7, { ageMon0 with minCode := 4, reads := 64 })] } }
     s.margin.trimDue = 1 ∧ s.time.holdover = false ∧ (areg s 0x7040).testBit 31 = true ∧
       64 ≤ sumN ((trimMons s s.margin.mons).map AgeMon.reads) ∧
       ((trimMons s s.margin.mons).map AgeMon.minCode).foldl min 15 < areg s 0x7040 / 2 ^ 27 % 2 ^ 4 ∧ s.margin.trim < 32 ∧
       -24 < s.margin.trim) ∧
    sumN ((trimMons live []).map AgeMon.reads) < 64 ∧ 720 ≤ diff32 720 marginSt0.lastDown ∧ 5 + 1 < 7 ∧ 5 ≤ 6 ∧
    ({ marginSt0 with done := false } : MarginSt).done = false ∧ live.margin.done = true ∧ live.pb.valid = true ∧
    (let s : State := { live with margin := { marginSt0 with storing := some [1, 2], done := false } }
     s.margin.storing = some [1, 2] ∧ s.book.storing = none ∧ s.book.storeWait = false ∧ s.port.storeAll = none ∧
       s.mgmt.shutdown = none ∧ s.start.restartWait = false) := by decide +kernel

/-! ### Witnesses: temperature, Curtain, package, fleet -/

/-- Thermal site 2, and its state. -/
def sited (x : SiteSt) : State := { live with
  pb := { book with therm := { thermCfg0 with sites := [(2, siteCfg0)] } }, therm := { thermSt0 with sites := [(2, x)] } }

theorem witness_thermal_sites :
    tlook 2 (sited siteSt0).pb.therm.sites = some siteCfg0 ∧ clocked (sited siteSt0) = true ∧ (sited siteSt0).fault.inj = none ∧
    roundEven (-640 * siteCfg0.gain) 65536 + siteCfg0.off = -640 ∧ roundEven (2400 * siteCfg0.gain) 65536 + siteCfg0.off = 2400 ∧
    roundEven (-641 * siteCfg0.gain) 65536 + siteCfg0.off < -640 ∧ 2400 < roundEven (2401 * siteCfg0.gain) 65536 + siteCfg0.off ∧
    ({ siteSt0 with reading := some 320 } : SiteSt).reading = some 320 ∧ (320 : Int) ≤ 0 + 320 ∧
    siteSt0.parity = false ∧ ({ siteSt0 with parity := true } : SiteSt).parity = true ∧
    (sited { siteSt0 with since := 4976 }).start.state = 9 ∧
    (tget siteSt0 2 (sited { siteSt0 with since := 4976 }).therm.sites).since + 24 ≤ (sited siteSt0).time.up ∧
    (2 ||| 2 = 2 ∧ 2 ||| 4 ≠ 2) ∧ live.therm.level ≤ 15 ∧ running live = true ∧
    (let s : State := { live with therm := { thermSt0 with grace := some 1 } }
     s.therm.grace = some (s.time.k + 1)) ∧
    (let s : State := { live with therm := { thermSt0 with grace := some 0 } }
     s.therm.grace = some 0 ∧ 0 ≤ s.time.k) := by decide +kernel

theorem witness_coolant_inputs :
    live.start.live = true ∧ live.start.blkUp = true ∧ live.therm.lastHb = none ∧
    ({ thermSt0 with lastHb := some 1000 } : ThermSt).lastHb = some 1000 ∧ 1000 + 400000 ≤ 401000 ∧ 601000 ≤ 1000 + 600000 ∧
    400999 < 1000 + 400000 ∧ 1000 + 600000 < 601001 ∧ ({ thermSt0 with wdRun := true } : ThermSt).wdRun = true ∧
    (let t : ThermSt := { thermSt0 with hbRun := some 0, lastHb := some 1000000000 }
     t.hbRun = some 0 ∧ t.lastHb = some 1000000000 ∧ 0 + 1000000000 ≤ 1000000000) ∧
    (true ≠ live.therm.leakP) ∧ ({ thermSt0 with leakRun := true } : ThermSt).leakRun = true := by decide +kernel

/-- Every sensor of the Curtain reads the value. -/
def allRead (v : Int) : List (Option Int) := List.replicate 16 (some v)

/-- `CurtainTrips`: a quiet read; a read that makes pair 0 a trip, the fourth within the hour; a pair that stays split. -/
theorem witness_curtain_trips :
    (let s := live
     let new := curtSense (allRead 400) [] (curtThr s) (curtRestart s) (fun _ => false) s.curt
     s.start.aoUp = true ∧ s.fault.inj = none ∧ s.fault.underTest = none ∧ new.primary = [] ∧ new.split = [] ∧
       (∀ i ∈ new.failed, i ∈ s.curt.failed) ∧
       (∀ p, p < 8 → (pairDiffer { new with disRun := s.curt.disRun } p).2 = false)) ∧
    (let s : State := { live with curt := { curtSt0 with primary := [0], checker := [0], times := [3, 2, 1] } }
     let new := curtSense (allRead 2000) [] (curtThr s) (curtRestart s) (fun _ => false) s.curt
     0 ∈ new.primary ∧ 0 ∈ new.checker ∧ s.curt.tripped = false ∧ s.curt.times.take 3 = [3, 2, 1] ∧
       new.cyc ≤ 1 + 3600 * 27500000) ∧
    (let s : State := { live with curt := { curtSt0 with split := [1] } }
     let new := curtSense (allRead 400) [1] (curtThr s) (curtRestart s) (fun _ => false) s.curt
     1 ∈ s.curt.split ∧ 1 ∈ new.split) ∧
    (let s : State := { live with curt := { curtSt0 with tripped := true, coolFrom := some 0, cyc := 55000000 } }
     s.curt.tripped = true ∧ s.curt.lockout = false ∧ curtCooled s = true ∧ clocked s = true ∧ s.start.porstLow = false ∧
       s.start.hrstLow = false) := by decide +kernel

theorem witness_package_messages :
    clocked live = true ∧ live.pb.valid = true ∧ live.pb.pkg.dieId = 0 ∧ 5 ≠ live.pb.pkg.dieId ∧
    (let p : PkgSt := { pkgSt0 with heard := true, term := 3 }
     p.heard = true ∧ (3 * 2 ^ 32) / 2 ^ 32 % 2 ^ (39 + 1 - 32) = p.term) ∧
    (0 * 2 ^ 40) / 2 ^ 40 % 2 ^ (47 + 1 - 40) = live.time.k % 256 ∧ (1 * 2 ^ 40) / 2 ^ 40 % 2 ^ (47 + 1 - 40) ≠ live.time.k % 256 ∧
    2 ≠ 3 ∧ termNewer 3 2 = false := by decide +kernel

theorem witness_package_timers :
    (live.pkg.joined = false ∧ live.start.live = true ∧ live.pkg.liveUp + 200 ≤ live.time.up ∧ live.pkg.heard = false) ∧
    ({ pkgSt0 with heard := true } : PkgSt).heard = true ∧
    (let p : PkgSt := { pkgSt0 with role := 1, smSeen := 4950 }; p.role = 1 ∧ p.smSeen + 50 ≤ live.time.up) ∧
    (let p : PkgSt := { pkgSt0 with joined := true, copyUp := 4950, rptUp := 5000 }
     p.joined = true ∧ p.silence = 0 ∧ p.copyUp + 50 ≤ live.time.up) ∧
    (let p : PkgSt := { pkgSt0 with role := 2, dies := [(4, { dieRec0 with rptUp := some 4950 })] }
     p.role = 2 ∧ (tget dieRec0 4 p.dies).rptUp = some 4950 ∧ 4950 + 50 ≤ live.time.up ∧ tlook 4 p.led.held = none) ∧
    (let p : PkgSt := { pkgSt0 with role := 2, led := { ledger0 with since := [(4, 0)] } }
     tlook 4 p.led.since = some 0 ∧ 0 + areg live 0x901C / 2 ^ 16 % 2 ^ 16 ≤ live.time.up) ∧
    (let s : State := { live with
        core := { coreSt0 with app := { coreOut0 with ledger := { ledger0 with esc := true } } }, pkg := { pkgSt0 with role := 2 } }
     running s = true ∧ s.core.app.ledger.esc = true ∧ s.pkg.role = 2 ∧ s.pkg.led.escUp + 1000 ≤ s.time.up) := by decide +kernel

/-- The root of a tree with one child, and a package below a parent. -/
def rooted : State := { live with
  pkg := { pkgSt0 with role := 2 }, zilt := { ziltSt0 with placed := true, id := 1, children := [{ child0 with id := 7, term := 4 }] } }
def leafed : State := { live with
  pkg := { pkgSt0 with role := 2 }, zilt := { ziltSt0 with placed := true, id := 7, level := 1, parent := 1 } }

theorem witness_zilter_messages :
    (clocked rooted = true ∧ rooted.zilt.placed = true ∧ 1 ≤ rooted.pkg.role ∧ (∀ c ∈ rooted.zilt.children, c.id ≠ 8) ∧
      rooted.zilt.children.find? (fun x => x.id = 7) = some { child0 with id := 7, term := 4 } ∧ termNewer 4 5 = true ∧
      44 ≤ (List.replicate 44 0).length ∧ rooted.pkg.role = 2 ∧ 8 ≠ rooted.zilt.id ∧ rooted.zilt.children.length < 128) ∧
    (leafed.zilt.parent = 1 ∧ leafed.zilt.level ≠ 0 ∧ leafed.zilt.parentTerm = none ∧
      ({ leafed.zilt with leaving := 2 } : ZiltSt).leaving = 2) := by decide +kernel

theorem witness_fleet_interval :
    (running leafed = true ∧ leafed.zilt.placed = true ∧ 1 ≤ leafed.pkg.role ∧
      leafed.zilt.interval ≠ some (leafed.time.count / 100 % 2 ^ 32) ∧ leafed.zilt.level ≠ 0 ∧ leafed.zilt.children = [] ∧
      leafed.zilt.f = none ∧ leafed.zilt.leaving = 0 ∧ leafed.zilt.silence = 0 ∧ leafed.zilt.allocUp + 300 ≤ leafed.time.up) ∧
    (rooted.zilt.children.find? (fun x => x.id = 7)).map Child.silent = some false ∧ 7 ≠ rooted.zilt.id ∧
    child0.rptUp + 300 ≤ rooted.time.up ∧ (∀ x ∈ [((10, 20) : Nat × Nat), (5, 5)], x.1 ≤ x.2) := by decide +kernel

/-! ### Witnesses: management, ports, registers -/

/-- Nothing of a held command or a number stands: each operand list below is accepted, at an end of its range. -/
theorem witness_mgmt_turn :
    running live = true ∧ live.mgmt.next = none ∧ live.mgmt.held = [] ∧
    (let ok := fun (s : State) code a => mgmtJudge (mgmtAhead { s with out := [] }) code a = 0
     ok live 0x10 [1000] ∧ ok live 0x11 [0, 1, 16] ∧ ok live 0x11 [1, 6, 60000000] ∧ ok live 0x12 [0, 0x7FFF] ∧
     ok live 0x13 [15] ∧ ok live 0x14 [1] ∧ ok live 0x15 [0] ∧ ok live 0x16 [4] ∧ ok live 0x17 [100] ∧
     ok live 0x20 [1, 10000, 6000, 86400000] ∧
     ok { live with cap := { capSt0 with ramp := some ⟨1, 0, 0, 0, 0⟩ } } 0x21 [1] ∧ ok live 0x22 [16383, 2, 16383] ∧
     ok { live with zilt := { ziltSt0 with placed := true } } 0x23 [0] ∧ ok live 0x24 [0] ∧
     ok { live with pkg := { pkgSt0 with dies := [(4, { dieRec0 with seen := some 0, rptUp := some 0 })] } } 0x25 [0, 4] ∧
     ok live 0x26 [5002, 0] ∧ ok live 0x27 []) := by decide +kernel

theorem witness_mgmt_judged :
    (let s : State := { live with mgmt := { mgmtSt0 with next := some 4 } }
     running s = true ∧ s.mgmt.next = some (4 % 2 ^ 32) ∧ s.mgmt.held = [] ∧
       mgmtJudge (mgmtAhead { s with out := [] }) 0x13 [16] = 4) := by decide +kernel

theorem witness_mgmt_effects :
    (-1 : Int) ≠ 0x7FFF ∧ live.pkg.leaving = 0 ∧ live.zilt.leaving = 0 ∧
    (leafed.zilt.placed = true ∧ leafed.zilt.id = 7 ∧ leafed.zilt.level = 1 ∧ leafed.zilt.parent = 1) := by decide +kernel

/-- Distances 1, 2^31 - 1 and 2^31 from the number expected, and a number held. -/
theorem witness_mgmt_out_of_turn :
    (let s := withFault { faultSt0 with safe := true }; holdOut s = true ∧ s.start.blkUp = true ∧ s.start.state ≠ 0) ∧
    (let s : State := { live with mgmt := { mgmtSt0 with next := some 4, held := [⟨6, 0, 0x13, [1]⟩] } }
     running s = true ∧ s.mgmt.next = some 4 ∧ s.mgmt.held.length < 8 ∧ (∀ h ∈ s.mgmt.held, h.seq ≠ 5) ∧
       (5 + 2 ^ 32 - 4) % 2 ^ 32 = 1 ∧ (3 + 2 ^ 31 + 2 ^ 32 - 4) % 2 ^ 32 = 2 ^ 31 - 1 ∧
       2 ^ 31 ≤ (4 + 2 ^ 31 + 2 ^ 32 - 4) % 2 ^ 32 ∧ ∃ h ∈ s.mgmt.held, h.seq = 6) := by decide +kernel

theorem witness_mgmt_other :
    rpResp false false 1 0x0000 = 0 ∧ rpResp false false 1 0x0002 ≠ 0 ∧ (0x7E : Nat) ≠ 0x20 ∧
    (let s : State := { live with time := { live.time with up := 1000000 }, mgmt := { mgmtSt0 with next := some 4, held := [⟨6, 0, 0x13, [1]⟩] } }
     s.mgmt.next = some 4 ∧ s.mgmt.held = ⟨6, 0, 0x13, [1]⟩ :: [] ∧ 0 + 1000 * bits (areg s 0x9090) 15 0 ≤ s.time.up) ∧
    (let s : State := { live with time := { live.time with up := 2000000 } }
     s.mgmt.state = 0 ∧ s.mgmt.lastUp + 2000000 ≤ s.time.up) ∧
    ({ mgmtSt0 with state := 1 } : MgmtSt).state = 1 ∧ mgmtSt0.lastUp + 30000000 ≤ 30000000 := by decide +kernel

theorem witness_port_answers :
    live.start.blkUp = true ∧ live.start.bclkAbsent = false ∧ live.start.state ≠ 0 ∧ 255 % 256 = 255 ∧ 256 % 256 = 0 ∧
    1 % 256 ≠ 0 ∧ 254 % 256 ≠ 255 ∧ live.port.da = none ∧ ({ portSt0 with da := some 9 } : PortSt).da = some 9 ∧
    ({ params0 with i3cStatic := 80 } : Params).i3cStatic ≠ 0 := by decide +kernel

/-- `RegisterPort`: the port in RESET; responses 2, 3, 1 and 0 of a write; 2, 1 and 0 of a read. -/
theorem witness_register_port :
    rpAlive State.reset = false ∧ portWaits State.reset 0 = false ∧ rpAlive live = true ∧ portWaits live 0x1004 = false ∧
    regClass 2 = none ∧ (stage 15).start.state = 15 ∧ (regClass 0x1004).map (mayWrite 0) = some false ∧
    (regClass 0x1004).map (mayWrite 1) = some true ∧ (regClass 0x1008).map (mayRead 0) = some true ∧
    (regClass 0x1014).map (mayRead 0) = some false := by decide +kernel

theorem witness_host_access :
    live.portOpen ∧ (regRow 0x1004).isSome = true ∧ (regClass 0x1004).isSome = true ∧
    (regClass 0x1004).all (mayWrite 1) = true ∧ live.port.posted = none ∧
    ({ portSt0 with posted := some (1, 2) } : PortSt).posted.isSome = true ∧ clocked live = true ∧ live.start.state ≠ 15 ∧
    (let a := fun n => [(0, n), (1, 0x6010), (2, 0), (3, 0x6010), (4, 0), (5, 0x6010), (6, 0)]
     let ps := fun n => (List.range n).map (fun i => (tget 0 (2 * i + 1) (a n), tget 0 (2 * i + 2) (a n)))
     tget 0 0 (a 3) = 3 ∧ (∀ x ∈ ps 3, pairOk x = true) ∧ 3 < tget 0 0 (a 4) ∧ ∃ x ∈ [(2, 0)], pairOk x = false) ∧
    programOn live = true ∧ programOn (stage 8) = false ∧ live.port.storeAll = none ∧ live.margin.done = true ∧
    live.pb.valid = true ∧ live.book.storing = none ∧ live.book.storeWait = false := by
  unfold State.portOpen; decide +kernel

/-! ### Witnesses: reset, start, loader -/

theorem witness_reset_commands :
    (live.start.aoUp = true ∧ live.curt.lockout = false ∧ live.start.porstLow = false ∧ live.start.hrstLow = false ∧
      live.start.blkUp = true ∧ live.start.undef = false) ∧
    (State.reset.start.aoUp = true ∧ State.reset.start.porstLow = true ∧ State.reset.start.hrstLow = false ∧
      State.reset.start.blkUp = true ∧ State.reset.curt.lockout = false) ∧
    ({ live.start with undef := true } : StartSt).undef = true ∧ ({ live.start with hrstLow := true } : StartSt).hrstLow = true ∧
    ({ live.start with blkUp := false } : StartSt).blkUp = false ∧ ({ curtSt0 with lockout := true } : CurtSt).lockout = true := by
  decide +kernel

def item (n : Nat) : List Nat := [n, 0]
def section_ (type : Nat) (body : List Nat) : List Nat :=
  [type * 2 ^ 24 + 2 ^ 23, 4 * body.length, crc32c (bytesOfWords body), 0] ++ body
/-- A least image: every section and item that R315 requires, each item without data, and a signature block. -/
def imageBody : List Nat :=
  section_ 1 ([1, 2, 3].flatMap item) ++ section_ 3 ([2, 3, 4].flatMap item) ++ section_ 4 ([1, 2, 3, 4, 5].flatMap item) ++
  section_ 5 ([1, 2].flatMap item) ++ section_ 6 (item 1) ++ section_ 7 ([1, 2, 3, 4].flatMap item) ++
  section_ 8 ([1, 2, 3, 4, 5, 6].flatMap item) ++ section_ 9 ([1, 2, 3].flatMap item)
def imageHead : List Nat :=
  let len := 64 + 4 * imageBody.length + 204
  [0x4B504C42, 0x00030040, len, 0x03020000, 1, 7, len - 204, 4096] ++ List.replicate 7 0
def image : List Nat :=
  imageHead ++ [crc32c (bytesOfWords imageHead)] ++ imageBody ++ [0x4B534947, 1] ++ List.replicate 49 0
/-- A calibration section with PART_ID 5. -/
def calibration : List Nat := section_ 2 [1, 2, 5, 0]
/-- READ over the words of the least image and its calibration section. -/
def imaged : State := { stage 4 with start := { (stage 4).start with streaming := true, ldGot := image ++ calibration } }

theorem witness_read : inStage imaged 4 = true ∧ readBad imaged.par.build (startSrc imaged) = none := by decide +kernel

/-- The other clauses of `StartStages`, each in its stage. -/
theorem witness_start_stages :
    inStage (stage 1) 1 = true ∧ inStage (stage 2) 2 = true ∧ inStage (stage 3) 3 = true ∧ 27 ≤ 27 ∧ inStage (stage 5) 5 = true ∧
    inStage (stage 6) 6 = true ∧ inStage (stage 7) 7 = true ∧ (stage 5).start.keyLocked = false ∧
    ({ params0 with secRelease := 1, keySource := 1 } : Params).secRelease = 1 ∧
    ({ params0 with secRelease := 1, keySource := 1 } : Params).keySource = 1 ∧
    (stage 3).start.live = false ∧ (stage 3).start.blkUp = true ∧ (stage 3).start.bclkAbsent = false ∧ 3 ≤ (stage 3).start.state ∧
    (stage 8).start.state ≤ 8 := by decide +kernel

/-- Erased flash fails READ at the header. -/
theorem witness_start_refused :
    inStage (stage 4) 4 = true ∧ readBad (stage 4).par.build (startSrc (stage 4)) = some ⟨0x10, 0, 0, 0⟩ ∧
    (stage 1).curt.lockout = false ∧ (stage 4).margin.storing = none ∧ (stage 4).book.storing = none := by decide +kernel

theorem witness_goes_live :
    (let s := stage 8
     s.start.blkUp = true ∧ s.start.bclkAbsent = false ∧ s.start.state = 8 ∧ programRuns s = true ∧
       edgeDue s.time = some (5000, 5000, 0) ∧ s.start.restartWait = false ∧
       ∀ r ∈ s.core.out.reports, faultClass r.1 < 4) := by decide +kernel

/-- A PROGRAM_CAL stream of 24 bytes with `got` words in it. -/
def streaming (got : List Nat) : State := { stage 14 with start := { (stage 14).start with
  flashOk := true, ldOp := 3, ldLen := 24, ldBusy := true, ldDone := false, ldGot := got } }

theorem witness_loader_commands :
    (stage 14).start.state = 14 ∧ (stage 14).start.ldBusy = false ∧ (streaming []).start.flashOk = true ∧
    storeRuns (stage 14) = false ∧ (stage 14).curt.lockout = false ∧ (stage 14).start.porstLow = false ∧
    (stage 14).start.hrstLow = false ∧
    (streamOpen (streaming [1]) = true ∧ storeRuns (streaming [1]) = false ∧ 4 * (1 + 1) < (streaming [1]).start.ldLen ∧
      streamWrong 3 24 ([1] ++ [8]) = false) ∧
    (streamOpen (streaming [1, 8, 0, 0, 0, 0]) = false ∧ (streaming [1, 8, 0, 0, 0, 0]).start.ldBusy = true ∧
      (streaming [1]).start.ldOp = 3) := by decide +kernel

/-! ### Witnesses: Prompt Book, observation, test port, whole machine -/

def entry (code : Nat) : Entry := ⟨code, 0, false, 1, 5, 5, 0, 0, 0, 0, 5, 0, 0, []⟩
/-- A book with one entry in slot 0, waiting to be published. -/
def booked : BookSt := { bookSt0 with slots := [(0, { bookSlot0 with work := some (entry 0x1003), dirty := true })] }

theorem witness_book_kept :
    (bookFind booked 0x1001 = none ∧ 1 < 512 ∧ (tget bookSlot0 1 booked.slots).work = none ∧
      ∀ j, j < 1 → (tget bookSlot0 j booked.slots).work ≠ none) ∧
    (bookFind booked 0x1003 = some 0 ∧ (tget bookSlot0 0 booked.slots).work = some (entry 0x1003) ∧
      (tget bookSlot0 0 booked.slots).dirty = true ∧ (tget bookSlot0 0 booked.slots).lastPub = none) ∧
    ({ bookSt0 with storeWait := true } : BookSt).storeWait = true ∧ live.book.storing = none ∧ live.book.storeWait = false ∧
    live.pb.valid = true ∧
    (let s : State := { live with book := { bookSt0 with storing := some [1], done := false } }
     s.book.storing = some [1] ∧ s.margin.done = true ∧ s.port.storeAll = none ∧ s.mgmt.shutdown = none ∧
       s.start.restartWait = false ∧ [1].length ≤ 16 + 32 * bookCap s) := by decide +kernel

theorem witness_observation :
    live.obs.opReset = false ∧ ({ obsSt0 with opReset := true } : ObsSt).opReset = true ∧ trcSel live = some 0 ∧
    ({ traceBuf0 with state := 1 } : TraceBuf).state = 1 ∧ traceBuf0.state ≠ 1 ∧ traceBuf0.state ≠ 2 ∧
    live.time.countSet = true ∧ State.reset.time.countSet = false ∧ 5001 < live.time.count + 2 ∧ live.time.count + 2 ≤ 5002 ∧
    ({ snapSt0 with state := 2 } : SnapSt).state = 2 ∧ live.obs.snap.state ≠ 2 ∧ ({ snapSt0 with state := 1 } : SnapSt).state = 1 ∧
    (let s : State := { live with obs := { obsSt0 with bufs := [(0, { traceBuf0 with
        state := 1, aFreezeOn := true, aTrig := 0x60000000 })] } }
     clocked s = true ∧ trcArmed s 3 (fun _ => true) = [0] ∧ (tget traceBuf0 0 s.obs.bufs).aFreezeOn = true) ∧
    trcArmed live 3 (fun _ => true) = [] ∧
    (let s : State := { live with obs := { obsSt0 with snap := { snapSt0 with state := 1, due := true } } }
     s.obs.snap.due = true ∧ s.time.holdover = false) := by decide +kernel

theorem witness_test_port :
    live.port.ir ∉ [0x10, 0x11, 0x12, 0x13, 0x14] ∧ live.start.testMode = false ∧ live.port.ir ∉ [0x10, 0x12] ∧
    (Instr.mbistRun, 0x10) ∈ [(Instr.mbistRun, 0x10), (.mbistResult, 0x11), (.scanBlock, 0x12), (.paramRead, 0x13), (.aoMirror, 0x14)] ∧
    ({ portSt0 with ir := 0x10, mbistBusy := true } : PortSt).ir = 0x10 ∧ ({ portSt0 with ir := 0x14 } : PortSt).ir = 0x14 ∧
    ({ live.start with testMode := true } : StartSt).testMode = true ∧ holdOut (stage 8) = true ∧
    ({ portSt0 with ir := 0x10, mbistBusy := true } : PortSt).mbistBusy = true := by decide +kernel

/-- A canonical flash, and a step of it. -/
theorem witness_flash_canonical :
    (let s : State := { live with flash := [(0, 0), (5, 0xFE)], pending := [.thrAck] }
     s.canonical ∧ ∃ t, step s = .next t) := by
  refine ⟨by unfold State.canonical; decide +kernel, _, rfl⟩

theorem witness_lockout_stays :
    (let s : State := { live with curt := { curtSt0 with lockout := true }, pending := [.hrstNAssert] }
     s.curt.lockout = true ∧ (s.pending.head? ≠ some .alwaysOnSupplyRemoval) ∧ ∃ t, step s = .next t) :=
  ⟨by decide +kernel, by decide +kernel, _, rfl⟩

/-! ### Well-formedness: one ill-formed term for each check, which the check refuses -/

def body : List Nat := List.replicate 44 0
def badBody : List Nat := List.replicate 43 0 ++ [256]
def allRead0 : List (Option Int) := List.replicate 16 none

theorem test_wf_accepts_1 :
    [.tick 0 false 0 0 0 false, .tickWindowClose 0, .sampleEdge 0 0, .slotRun 0 none 0 false, .overrun 0 0 0 false,
     .freezeMaxExpiry, .ordinalBeat 0 false 0 0, .stepTimeout, .refill, .refillMessage 0 0, .give 0 0, .agentReport 0 0,
     .boothReportSummary 0 0, .resync 0, .tkReq 0 0 0 0 false 0, .tkRet 0 0 0, .grantDecision 0 0 false 0 [] 0 [],
     .reserveAge 0 0, .deschedHint 0 0, .forcedExpiry 0 0, .engRstAssert 0, .engRstRelease 0, .giveWatchdogExpiry 0,
     .boothReportTimeout 0, .noneOp 0 0, .hold 0 0, .unhold 0 0, .addPool 0 0 0, .discardPool 0 0 0, .grantHolder 0 0 0,
     .expireHolder 0 0 0, .clearHolder 0 0 0, .restore 0 0, .forceBypass 0 0, .tktSelLatch 0 0#32, .tktClassSwap 0,
     .activityRecord 0 0 0 0 0 [], .railResponse 0 0 false, .telemetryTimeout, .trustLost, .trustRegained, .unverified,
     .siteImplausible 0, .coldMajority, .coldMajorityClear, .hotMajorityRaise, .resetAdapt 0, .readmitSite 0 0, .cue 0 0,
     .cueExpire 0, .settleHoldEnd 0, .sceneDataWrite 0 0#32, .hostCapWrite 0 0#32, .hostPrefWrite 0 0#32, .ffFallback,
     .ffReturn, .capUnattClear, .supplyEscRepeat, .rampStep, .droopCrossing 0 0 0, .stretchHoldExpiry 0, .holdMaxExpiry 0,
     .rateWindowEnd, .agemonRead [], .trimInstant, .store 0, .marginStoreDone false [], .thermalSiteRead 0 0 false,
     .siteTimeout 0, .thrAck, .graceExpiry, .curtainRead allRead0 [], .railOffRepeat, .curtainRelease, .coolHbEdge 0,
     .coolHbExpiry, .coolFaultClose, .leakState false false, .leakFiltExpiry, .dbpReport 0 0 0 0].all (fun c : Instr => wellFormed c) = true := by decide +kernel

theorem test_wf_accepts_2 :
    [.dbpAlloc 0 0 0 0, .dbpJoin 0 0 0 0, .dbpSlack 0 0 0 0, .dbpRoles 0 0 0 0, .dbpLeave 0 0 0 0, .joinPhaseEnd,
     .takeover, .memberSilence, .dieSilence 0, .donorTimeout 0, .pkgEscRepeat, .zilterInterval, .zltReport 0 0 0 0 body,
     .zltAlloc 0 0 0 0 body, .zltJoin 0 0 0 0 body, .zltLeave 0 0 0 0 body, .zltLeaveAck 0 0 0 0 body, .parentSilence,
     .childSilence 0, .fmpTxTimeout, .mgmtGapTimeout, .heartbeatLost, .orphan, .managementHeartbeat 0, .getSequenceState 0,
     .getStatus 0, .getRegister 0 0, .reportCoolantTemperature 0 0, .setTickCount 0 0, .setLimit 0 0 0 0,
     .setThermalThreshold 0 0 0, .setThrottleLevel 0 0, .setAuthority 0 0, .setAllowedModes 0 0, .setDieSlew 0 0,
     .setHoldoverPercent 0 0, .startRamp 0 0 0 0 0, .cancelRamp 0 0, .setZilterPosition 0 0 0 0, .setFleetBudget 0 0,
     .orderlyDeparture 0 0, .departed 0 0 0, .scheduleSnapshot 0 0 false, .orderlyShutdown 0, .setEndpointId 0,
     .getEndpointId, .getEndpointUuid, .getMctpVersionSupport 0, .getMessageTypeSupport, .getVendorDefinedMessageSupport 0,
     .mctpReassemblyTimeout, .getTid, .getPldmVersion 0, .getPldmTypes, .getPldmCommands 0, .getSensorReading 0,
     .getStateSensorReadings 0, .getPdrRepositoryInfo, .getPdr 0, .entdaa 0, .setdasa 0 0, .rstdaa, .enec 0, .disec 0,
     .getPid, .getBcr, .getDcr, .i3cGetStatus, .setMwl 0, .getMwl, .setMrl 0, .getMrl, .rstact, .nop, .apply, .readCut,
     .storeAll, .porstNAssert, .porstNRelease, .hrstNAssert].all (fun c : Instr => wellFormed c) = true := by decide +kernel

theorem test_wf_accepts_3 :
    [.hrstNRelease, .blockSupplyLoss, .alwaysOnSupplyRemoval, .curtainTest [], .memInit, .pingRepeat,
     .discover false 0 0 false false, .read, .flashReadTimeout, .release 0, .keyRegWrite 0 0 0#32, .verify, .check, .live,
     .load 0, .program 0, .programCal 0, .restart 0, .loadData 0 0#32, .loadStreamTimeout, .loaderDone false [],
     .close 0 [], .recover 0, .errPairMismatch, .bclkAbsent, .bclkReturn, .aoclkOutOfRange 0, .en 0 false, .curtArm 0,
     .hostIdle, .injectionGo 0, .pbPublish 0, .clear 0, .pbStore 0, .pbStoreDone false [], .pbStoredFetch 0, .pbFind 0 0,
     .opminAdvance, .obsOpLatch 0, .arm 0, .stop 0, .snapIn, .snapArm 0, .cancel 0, .snapshotEdge, .snapDrainDone,
     .avsResponse 0 false, .tapIdcode, .samplePreload, .tapBypass, .mbistRun, .mbistDone 0#32, .mbistResult, .scanBlock,
     .paramRead, .aoMirror, .registerWrite 0 0 0#32, .blockSupplyReturn, .keyWaitAttn, .loRegisterRead 0 0 0,
     .ordinalQueueFull 0, .dbpBad, .zltBad false, .unknownCommand 0 0 false, .unsupportedPldmCmd 0 0].all (fun c : Instr => wellFormed c) = true := by decide +kernel

theorem test_wf_refuses_1 :
    [.tick 0 false 2048 0 0 false, .tick 0 false 0 1000 0 false, .tick 0 false 0 0 256 false, .sampleEdge 16384 0,
     .sampleEdge 0 65536, .slotRun 64 none 0 false, .slotRun 0 (some 65536) 0 false, .slotRun 0 none 65536 false,
     .overrun 64 0 0 false, .overrun 0 0 65536 false, .ordinalBeat (2 ^ 48) false 0 0, .ordinalBeat 0 false 256 0,
     .ordinalBeat 0 false 0 4096, .refillMessage 64 0, .give 4096 0, .agentReport 4096 0, .boothReportSummary 64 0,
     .resync 4096, .tkReq 4096 0 0 0 false 0, .tkReq 0 256 0 0 false 0, .tkReq 0 0 256 0 false 0,
     .tkReq 0 0 0 (2 ^ 24) false 0, .tkReq 0 0 0 0 false 3, .tkRet 4096 0 0, .tkRet 0 256 0, .tkRet 0 0 (2 ^ 24),
     .grantDecision 0 0 false 0 [] 0 [(256, 0)], .grantDecision 0 0 false 0 [] 0 [(0, 3)],
     .grantDecision 4096 0 false 0 [] 0 [], .grantDecision 0 (2 ^ 20) false 0 [] 0 [],
     .grantDecision 0 0 false 4096 [] 0 [], .grantDecision 0 0 false 0 [(64, 0)] 0 [],
     .grantDecision 0 0 false 0 [(0, 256)] 0 [], .grantDecision 0 0 false 0 [] (2 ^ 24) [], .reserveAge 4096 0,
     .reserveAge 0 256, .deschedHint 4096 0, .deschedHint 0 256, .forcedExpiry 4096 0, .forcedExpiry 0 256,
     .engRstAssert 4096, .engRstRelease 4096, .giveWatchdogExpiry 4096, .boothReportTimeout 64, .noneOp 4 0,
     .noneOp 0 4096, .hold 4 0, .hold 0 4096, .unhold 4 0, .unhold 0 4096, .addPool 4 0 0, .addPool 0 4096 0,
     .addPool 0 0 (2 ^ 24), .discardPool 4 0 0, .discardPool 0 4096 0, .discardPool 0 0 (2 ^ 24), .grantHolder 4 0 0,
     .grantHolder 0 4096 0, .grantHolder 0 0 256, .expireHolder 4 0 0, .expireHolder 0 4096 0, .expireHolder 0 0 256,
     .clearHolder 4 0 0, .clearHolder 0 4096 0, .clearHolder 0 0 256, .restore 4 0, .restore 0 4096, .forceBypass 4 0,
     .forceBypass 0 4096, .tktSelLatch 4 0#32, .tktClassSwap 4, .activityRecord 64 0 0 0 0 [],
     .activityRecord 0 8 0 0 0 [], .activityRecord 0 0 4096 0 0 [], .activityRecord 0 0 0 4 0 [],
     .activityRecord 0 0 0 0 512 [], .activityRecord 0 0 0 0 0 [(64, 0)], .activityRecord 0 0 0 0 0 [(0, 256)],
     .railResponse 32 0 false, .railResponse 0 (2 ^ 48) false].all (fun c : Instr => !wellFormed c) = true := by decide +kernel

theorem test_wf_refuses_2 :
    [.siteImplausible 512, .resetAdapt 4, .readmitSite 4 0, .readmitSite 0 512, .cue 4096 0, .cue 0 (2 ^ 64),
     .cueExpire 64, .settleHoldEnd 16, .sceneDataWrite 4 0#32, .hostCapWrite 4 0#32, .hostPrefWrite 4 0#32,
     .droopCrossing 2048 0 0, .stretchHoldExpiry 64, .holdMaxExpiry 64, .store 4, .thermalSiteRead 512 0 false,
     .siteTimeout 512, .curtainRead [] [], .dbpReport 32 0 0 0, .dbpReport 0 32 0 0, .dbpReport 0 0 32 0,
     .dbpReport 0 0 0 (2 ^ 48), .dbpAlloc 32 0 0 0, .dbpAlloc 0 32 0 0, .dbpAlloc 0 0 32 0, .dbpAlloc 0 0 0 (2 ^ 48),
     .dbpJoin 32 0 0 0, .dbpJoin 0 32 0 0, .dbpJoin 0 0 32 0, .dbpJoin 0 0 0 (2 ^ 48), .dbpSlack 32 0 0 0,
     .dbpSlack 0 32 0 0, .dbpSlack 0 0 32 0, .dbpSlack 0 0 0 (2 ^ 48), .dbpRoles 32 0 0 0, .dbpRoles 0 32 0 0,
     .dbpRoles 0 0 32 0, .dbpRoles 0 0 0 (2 ^ 48), .dbpLeave 32 0 0 0, .dbpLeave 0 32 0 0, .dbpLeave 0 0 32 0,
     .dbpLeave 0 0 0 (2 ^ 48), .dieSilence 24, .donorTimeout 24, .zltReport 65536 0 0 0 body, .zltReport 0 65536 0 0 body,
     .zltReport 0 0 (2 ^ 32) 0 body, .zltReport 0 0 0 65536 body, .zltReport 0 0 0 0 [], .zltReport 0 0 0 0 badBody,
     .zltAlloc 65536 0 0 0 body, .zltAlloc 0 65536 0 0 body, .zltAlloc 0 0 (2 ^ 32) 0 body, .zltAlloc 0 0 0 65536 body,
     .zltAlloc 0 0 0 0 [], .zltAlloc 0 0 0 0 badBody, .zltJoin 65536 0 0 0 body, .zltJoin 0 65536 0 0 body,
     .zltJoin 0 0 (2 ^ 32) 0 body, .zltJoin 0 0 0 65536 body, .zltJoin 0 0 0 0 [], .zltJoin 0 0 0 0 badBody,
     .zltLeave 65536 0 0 0 body, .zltLeave 0 65536 0 0 body, .zltLeave 0 0 (2 ^ 32) 0 body, .zltLeave 0 0 0 65536 body,
     .zltLeave 0 0 0 0 [], .zltLeave 0 0 0 0 badBody, .zltLeaveAck 65536 0 0 0 body, .zltLeaveAck 0 65536 0 0 body,
     .zltLeaveAck 0 0 (2 ^ 32) 0 body, .zltLeaveAck 0 0 0 65536 body, .zltLeaveAck 0 0 0 0 [],
     .zltLeaveAck 0 0 0 0 badBody, .childSilence 65536, .managementHeartbeat (2 ^ 32), .getSequenceState (2 ^ 32),
     .getStatus (2 ^ 32), .getRegister (2 ^ 32) 0, .getRegister 0 (2 ^ 32)].all (fun c : Instr => !wellFormed c) = true := by decide +kernel

theorem test_wf_refuses_3 :
    [.reportCoolantTemperature (2 ^ 32) 0, .reportCoolantTemperature 0 (-32769), .reportCoolantTemperature 0 32768,
     .setTickCount (2 ^ 32) 0, .setTickCount 0 (2 ^ 64), .setLimit (2 ^ 32) 0 0 0, .setLimit 0 256 0 0,
     .setLimit 0 0 256 0, .setLimit 0 0 0 (2 ^ 32), .setThermalThreshold (2 ^ 32) 0 0, .setThermalThreshold 0 256 0,
     .setThermalThreshold 0 0 (-32769), .setThermalThreshold 0 0 32768, .setThrottleLevel (2 ^ 32) 0,
     .setThrottleLevel 0 256, .setAuthority (2 ^ 32) 0, .setAuthority 0 256, .setAllowedModes (2 ^ 32) 0,
     .setAllowedModes 0 256, .setDieSlew (2 ^ 32) 0, .setDieSlew 0 256, .setHoldoverPercent (2 ^ 32) 0,
     .setHoldoverPercent 0 256, .startRamp (2 ^ 32) 0 0 0 0, .startRamp 0 65536 0 0 0, .startRamp 0 0 (2 ^ 32) 0 0,
     .startRamp 0 0 0 (2 ^ 64) 0, .startRamp 0 0 0 0 (2 ^ 32), .cancelRamp (2 ^ 32) 0, .cancelRamp 0 65536,
     .setZilterPosition (2 ^ 32) 0 0 0, .setZilterPosition 0 65536 0 0, .setZilterPosition 0 0 256 0,
     .setZilterPosition 0 0 0 65536, .setFleetBudget (2 ^ 32) 0, .setFleetBudget 0 (2 ^ 32), .orderlyDeparture (2 ^ 32) 0,
     .orderlyDeparture 0 256, .departed (2 ^ 32) 0 0, .departed 0 256 0, .departed 0 0 65536,
     .scheduleSnapshot (2 ^ 32) 0 false, .scheduleSnapshot 0 (2 ^ 64) false, .orderlyShutdown (2 ^ 32), .setEndpointId 256,
     .getMctpVersionSupport 256, .getVendorDefinedMessageSupport 256, .getPldmVersion 256, .getPldmCommands 256,
     .getSensorReading 65536, .getStateSensorReadings 65536, .getPdr (2 ^ 32), .entdaa 128, .setdasa 128 0, .setdasa 0 128,
     .enec 256, .disec 256, .setMwl 65536, .setMrl 65536, .discover false 256 0 false false,
     .discover false 0 64 false false, .release 4, .keyRegWrite 4 0 0#32, .keyRegWrite 0 (2 ^ 20) 0#32, .load 4,
     .program 4, .programCal 4, .restart 4, .loadData 4 0#32, .close 4 [], .recover 4, .aoclkOutOfRange 256, .en 4 false,
     .curtArm 4, .injectionGo 4, .pbPublish 65536, .clear 4, .pbStore 4, .pbStoredFetch 4, .pbFind 4 0].all (fun c : Instr => !wellFormed c) = true := by decide +kernel

theorem test_wf_refuses_4 :
    [.pbFind 0 65536, .obsOpLatch 4, .arm 4, .stop 4, .snapArm 4, .cancel 4, .avsResponse 15 false,
     .registerWrite 4 0 0#32, .registerWrite 0 (2 ^ 20) 0#32, .loRegisterRead 4 0 0, .loRegisterRead 0 4096 0,
     .loRegisterRead 0 0 (2 ^ 20), .ordinalQueueFull (2 ^ 48), .unknownCommand 256 0 false,
     .unknownCommand 0 (2 ^ 32) false, .unsupportedPldmCmd 64 0, .unsupportedPldmCmd 0 256].all (fun c : Instr => !wellFormed c) = true := by decide +kernel

/-! ### Worked examples of the manual, and results worked out by hand from its rules -/

/-- The step position example of chapter 01: φ = 750,000, entries 40,960 and 40,966, look-ahead 120. -/
theorem test_step_position :
    stepPos 48750000 48000000 1200000 = 750000 ∧ sptIdx 1200000 750000 = 40960 ∧ sptIdx 1200000 750120 = 40966 ∧
    lookAhead (16 * 40) 1000 3000 = 120 := by decide +kernel

/-- The counter example of R67: 21,000 in flight, a pool of 19,536. -/
theorem test_counters_wrap : diff32 0x3A98 0xFFFFE890 = 21000 ∧ diff32 0xFFFFE890 0xFFFF9C40 = 19536 := by decide

/-- A lease cycle repeated. -/
def leased (n : Nat) (g : Agent) : Agent × Nat :=
  (List.range n).foldl (fun x _ =>
    let y := leaseCycle { agentCfg0 with lease := true, maxLease := 320000 } (192 * 2 ^ 24 / 10) 1000 0 false x.1
    (y.1, x.2 + y.2)) (g, 0)

/-- The ramp example of R73: 19.2 tickets per ns per ns towards 1,100 per ns; 9,830 whole tickets in the first refill, 29,059
in the second (9,830.4 and 29,059.2), then 35,200. -/
theorem test_lease_ramp :
    (leased 32 { agent0 with target := 1100 * 2 ^ 24, igniting := true }).2 = 9830 ∧
    (leased 64 { agent0 with target := 1100 * 2 ^ 24, igniting := true }).2 = 38889 ∧
    (leased 32 { agent0 with rateQ := 1100 * 2 ^ 24, target := 1100 * 2 ^ 24 }).2 = 35200 := by decide +kernel

/-- R58: a million tickets over 1,000 cycles: 32,000 in a full refill, 8,000 in the last. -/
theorem test_refill_split :
    refillAmount 1000 0 (million 0) = 32000 ∧ refillAmount 1000 31 (million 992000) = 8000 := by decide

/-- The example of R90: a quota cut from 200,000 to 120,000 stops one sample, then gives 80,000 and 120,000. -/
theorem test_quota_cut :
    (let x := budget 120000 1 0 40000 0 4 0 { boothDom0 with granted := [200000, 200000, 200000] }
     x.gk = 0 ∧ x.send = 0 ∧ x.stopUp = some 0) ∧
    (let x := budget 120000 1 0 40000 0 4 0 { boothDom0 with granted := [0, 200000, 200000] }
     x.gk = 80000 ∧ x.send = 40000) ∧
    (let x := budget 120000 1 0 40000 0 4 0 { boothDom0 with granted := [80000, 0, 200000] }
     x.gk = 120000 ∧ x.send = 80000) := by decide +kernel

/-- The renormalisation example of R124: shift 14, exponent 0. -/
theorem test_renorm :
    (renorm (503316480 :: -469762048 :: 32769 :: List.replicate 61 0) 1 []).1.take 4 = [30720, -28672, 2, 0] ∧
    (renorm (503316480 :: -469762048 :: 32769 :: List.replicate 61 0) 1 []).2 = (0, 0) := by decide +kernel

/-- The W example of R116: set-up of 12, layers of 302 and 72, a store of 4: 390 cycles. -/
theorem test_worst_case :
    (let i : CoreAct → CoreInsn := fun a => ⟨.alu, none, [], 0, 0, false, a⟩
     worstCase 0 (List.replicate 12 (i .nothing) ++ [i (.arrayM 1000 0 0 128 256 1 true), i (.arrayM 2000 1000 0 32 128 1 false),
       i (.moveV 3000 2000)])) = 390 := by decide +kernel

/-- The leakage example of R139: 12.71332 W, to 10 µW. -/
theorem test_leakage :
    leakPower { modelCfg0 with zones := [(3, { zoneCfg0 with
      kappa := 4352, leak := [(136, 2750), (137, 3100), (152, 3250), (153, 3675)] })] } 3 1336 2980 * 100 / 65536 = 1271331 := by
  decide +kernel

/-- The example of R164: 6,656.0 and 3,744.0 µJ of 10,400.0 µJ, without a remainder. -/
theorem test_commit :
    commitAmounts 10400 true [{ q := 0, m := [(17, 6400), (42, 3600)], u := [] }] = ([(17, 6656), (42, 3744)], false) := by
  decide +kernel

/-- The loop example of R170: e = -30 W after -10 W moves the allowance by -22.8 W, to 0.1 W. -/
theorem test_loop_step :
    (let g : GainTab := ⟨List.replicate 13 0 ++ [29491, 22938], List.replicate 13 0 ++ [9830, 6554], 0, 0⟩
     let c : LoopCfg := { loopCfg0 with inst := 5, esShift := 4, eScale := 12500, duMax := 782, uMin := 220, uMax := 1250 }
     let p := gainPoint c (-30000 * 65536)
     let du := gainAt g.kp g.kpExp p.1 p.2 * (-20000 * 65536) / 65536 + gainAt g.ki g.kiExp p.1 p.2 * (-30000 * 65536) / 65536
     0 ≤ du + 22900 * 65536 ∧ du + 22700 * 65536 ≤ 0) := by decide +kernel

/-- The soft start example of R178: 880, 910, ... 1,000 W. -/
theorem test_soft_start :
    (let c : LoopCfg := { loopCfg0 with ssUp := 30000 }
     let t : Int := 1000000 * 65536
     softStart c 1000 true (900000 * 65536) t (880000 * 65536) = 880000 * 65536 ∧
     softStart c 1000 false (880000 * 65536) t (881000 * 65536) = 910000 * 65536 ∧
     softStart c 1000 false (970000 * 65536) t (897000 * 65536) = t) := by decide +kernel

/-- The pre-positioning example of R191: 86 LSB of 0.25 mV for 870 W at 812.5 mV and 20 µΩ. -/
theorem test_preposition :
    roundEven (vppStep [] { railCfg0 with share := 65536, rll := 20 } 1000 870000 3250 0 0) 65536 = 86 ∧
    vppStep [] { railCfg0 with share := 65536, rll := 20 } 1000 0 3250 0 (86 * 65536) = 82 * 65536 := by decide +kernel

/-- The Cue example of R196: the first Cue's LEAD is clamped, the second has the same anchor and replaces it. -/
theorem test_cue_replaces :
    (let im : Image := { image0 with ord := { ordSt0 with last := 48750000 } }
     let cue := fun (lead int : Nat) => numOf [(63, 56, 1), (55, 40, lead), (39, 24, 1), (23, 16, int)]
     let a := cueOne im (17, cue 20000 0) lawMem0 lawOut0
     let b := cueOne im (42, cue 16384 224) a.1 a.2
     b.1.cues.map CueEntry.ctx = [42] ∧ b.1.cues.map CueEntry.anchor = [48766384] ∧ b.2.cueClamp = 1 ∧ b.2.cueReplace = 1) := by
  decide +kernel

/-- The allocation example of R211: 44, 110 and 55 W, and 451 W for compute; 451,000 tickets a sample. -/
theorem test_allocation :
    allocate (domOrder capCfg0) 900000 (fun d => [180000, 30000, 10000, 20000].getD d 0) (fun _ => 0)
      (fun d => [100000, 10000, 15000, 25000].getD d 0) (fun d => [1100000, 90000, 80000, 150000].getD d 0)
      (fun d => [600000, 50000, 40000, 100000].getD d 0) (fun _ => 0) 10 =
      [(0, 451000), (1, 55000), (2, 44000), (3, 110000)] ∧ quotaOf 1000 2 451000 0 = 451000 := by decide +kernel

/-- The ramp example of R225: 5,382,750 mW after 12,345 ms, and C1 at its end. -/
theorem test_ramp :
    rampValue ⟨1, 6000000, 4500000, 7200000000, 30000⟩ 7212345678 = 5382750 ∧
    rampValue ⟨1, 6000000, 4500000, 7200000000, 30000⟩ 7230000000 = 4500000 := by decide +kernel

/-- The trim example of R242: no step before 720 minutes, one down at 720, three up at once. -/
theorem test_trim :
    (trimStep 4 6 10500 { marginSt0 with trim := 2, lastDown := 10000 }).trim = 2 ∧
    (trimStep 4 6 10720 { marginSt0 with trim := 2, lastDown := 10000 }).trim = 1 ∧
    (trimStep 4 1 10900 { marginSt0 with trim := 1, lastDown := 10720 }).trim = 4 := by decide +kernel

/-- The throttle example of chapter 09: 105.25 °C is level 1, 106.40 °C level 3, and C_enf is 1,014,062 mW. -/
theorem test_throttle :
    levelOf 1684 1680 10 = 1 ∧ levelOf 1702 1680 10 = 3 ∧ roundEven (1180000 * 220) 256 = 1014062 := by decide +kernel

/-- The transfer example of R286: no raise while die 0 has not confirmed, the raise to 800 W when it has. -/
theorem test_give_before_take :
    (let t : Tab Nat := [(0, 800000), (1, 800000), (2, 800000)]
     let a : Tab Nat := [(0, 800000), (1, 800000), (2, 600000)]
     let run := fun (h : Tab Nat) room => ([0, 1, 2].foldl (fun x j => ledgerRaise (fun _ => 0) h t j x) (a, room)).1
     run [(0, 1000000), (1, 800000), (2, 600000)] 0 = a ∧ run [(0, 800000), (1, 800000), (2, 600000)] 200000 = t) := by
  decide +kernel

/-- The fault example of chapter 12: the record after 0x2005, 0x3001 and 0x3002, and the refused RECOVER. -/
theorem test_fault_record :
    (let a := report 0x2005 0 { live with time := { live.time with count := 7200100000 }, book := { bookSt0 with opmin := 41000 } }
     let b := report 0x3002 0 (report 0x3001 0 a)
     (a.fault.isOpen, a.fault.code, a.fault.cls, a.fault.cause, a.fault.seen, a.fault.merges) = (true, 0x2005, 3, 4, 1, 0) ∧
     (b.fault.code, b.fault.cls, b.fault.cause, b.fault.seen, b.fault.merges, b.fault.lastCode, b.fault.nC) =
       (0x2005, 4, 0xC, 3, 1, 0x3002, 1) ∧
     b.fault.firstTick = 7200100000 ∧ b.fault.firstOpmin = 41000 ∧ b.fault.safe = true) := by decide +kernel

/-- The entry example of R352 in slot 37: bins 6, 5 and 8, SEQ 8 until tick T + 1,000, then 10 with a count of 3. -/
theorem test_book_entry :
    (let give := fun (t : Nat) (v : Int) (x : BookSt) => (bookDeliver x 4096 t t 0x4008 0 v).1
     let b0 : BookSt := { bookSt0 with slots := (List.range 37).map (fun i => (i, { bookSlot0 with work := some (entry (0xF000 + i)) })) ++
       [(37, { bookSlot0 with seq := 6 })] }
     let b := give 1480 200 (give 1096 24 (give 1000 40 b0))
     let x := tget bookSlot0 37 b.slots
     x.seq = 8 ∧ x.pub.map Entry.count = some 1 ∧ x.work.map Entry.count = some 3 ∧
     x.work.map (fun e => (e.min, e.max, e.lastValue, e.bins)) = some (24, 200, 200, [(5, 1), (6, 1), (8, 1)]) ∧
     slotDue 1999 1000 x = false ∧ slotDue 2000 1000 x = true ∧ (slotPublish 2000 x).seq = 10) := by decide +kernel

/-- The attention example of chapter 16: the summary after CAP_UNATT and its fault, and after the write that clears group 5. -/
theorem test_attention :
    (let s := report 0x5002 0 (raise 5 0 live)
     let t := regWrite 1 0xA8 1 s
     (regValue s 1 0 0x40).toNat % 2 ^ 15 = 0x21 ∧ (regValue t 1 0 0x40).toNat % 2 ^ 15 = 0x01) := by decide +kernel

/-- The check values of the two CRCs over the digits 1 to 9. -/
theorem test_crc : crc32c [49, 50, 51, 52, 53, 54, 55, 56, 57] = 0xE3069283 ∧ crc8 7 [49, 50, 51, 52, 53, 54, 55, 56, 57] = 0xF4 := by
  decide +kernel

/-! ### Single steps -/

/-- One step with the command waiting. -/
def stepped (c : Instr) (s : State) : Option State :=
  match step { s with pending := [c] } with
  | .next t => some t
  | _ => none

/-- TICK: the count advances, and the queue is empty after the step. -/
theorem test_step_tick :
    (stepped (.tick 2000 false 1000 0 100 true) live).map (fun t => (t.time.count, t.time.lastRef, t.pending)) =
      some (5001, some 2000, []) := by decide +kernel

/-- TK_REQ, then GRANT_DECISION: the cost leaves the pool, and the pulse follows in the next cycle. -/
theorem test_step_grant :
    (stepped (.grantDecision 0 1000 false 0 [] 0 []) (waiter 40 40)).map (fun t =>
      ((agentOf t 0).spent, (agentOf t 0).rcLeft, (agentOf t 0).pulse)) = some (40, 0, some (3, 0, 40)) := by decide +kernel

/-- HRST_N_ASSERT: the tick count is kept, the tickets are gone, the hold outputs are driven. -/
theorem test_step_reset :
    (stepped .hrstNAssert (waiter 40 40)).map (fun t => (t.time.count, t.tk.agents, holdOut t)) = some (5000, [], true) := by
  decide +kernel

/-- A register access below its privilege answers 1 and changes a counter only. -/
theorem test_step_privilege :
    (stepped (.registerWrite 0 0x1004 0#32) live).map (fun t => (t.out, t.regs.privDenied, t.regs.wr)) =
      some ([.reg 1 0], 1, []) := by decide +kernel

/-- Set Throttle Level in turn: the level takes effect at the sample edge, not at once. -/
theorem test_step_level :
    (stepped (.setThrottleLevel 1 9) live).map (fun t => (t.therm.mgmtLvl, t.mgmt.todo.length, t.mgmt.next)) =
      some (0, 1, some 2) := by decide +kernel

/-- SAMPLE_EDGE: the sample number is that of tick 5,000 at P = 1 µs. -/
theorem test_step_edge :
    (stepped (.sampleEdge 1000 0) live).map (fun t => (t.time.k, t.time.edgeUp, t.time.count)) = some (5000, 5000, 5000) := by
  decide +kernel

end Sys2Proof.Tests
end

section
/-! R33: a beat of the Operation Ordinal, accepted or discarded. -/

namespace Sys2Proof.Machine

open Sys2Proof

/-- R33: the ordinals that lie ahead: any before the first accepted beat, then those by a gap of 1 to 2^47 - 1. -/
theorem ordinalAhead_iff (o : OrdSt) (oo : Nat) :
    ordinalAhead o oo = true ↔
      o.seen = false ∨ 1 ≤ (oo + 2 ^ 48 - o.last) % 2 ^ 48 ∧ (oo + 2 ^ 48 - o.last) % 2 ^ 48 ≤ 2 ^ 47 - 1 := by
  have hlt (d : Nat) : d < 2 ^ 47 ↔ d ≤ 2 ^ 47 - 1 := by omega
  simp only [ordinalAhead, Bool.or_eq_true, Bool.not_eq_true', decide_eq_true_eq, hlt]

/-- R33: after the first accepted beat, an ordinal not ahead is the last one again or lies in the half behind it. -/
theorem ordinalAhead_eq_false {o : OrdSt} {oo : Nat} (hseen : o.seen = true)
    (hgap : (oo + 2 ^ 48 - o.last) % 2 ^ 48 = 0 ∨ 2 ^ 47 ≤ (oo + 2 ^ 48 - o.last) % 2 ^ 48) :
    ordinalAhead o oo = false := by
  rw [← Bool.not_eq_true, ordinalAhead_iff]
  rintro (hfirst | ⟨hlo, hhi⟩)
  · simp [hseen] at hfirst
  · omega

/-- The state after an accepted beat: the ordinal (R33 to R35), the context's operation counter (R367) and the operation
counters of the array's lease, which start anew (R369). Log 24. -/
def beatAccepted (oo : Nat) (step : Bool) (scene ctx : Nat) (s : State) : State :=
  { s with
    out := [],
    ord := beatTake oo step scene ctx s.ord,
    obs := { s.obs with
      ops := tmod 0 ctx (fun x => (x + beatAdvance s.ord oo) % 2 ^ 48) s.obs.ops,
      lastCyc := s.obs.opCyc, lastStall := s.obs.opStall, lastTkt := s.obs.opTkt, lastOrd := s.obs.opOrd,
      opCyc := 0, opStall := 0, opTkt := 0, opOrd := oo, opReset := true } }

section
variable {s : State} {oo : Nat} (step : Bool) (scene ctx : Nat) (hclk : clocked s = true)
include hclk

theorem exec_ordinalBeat_of_ahead (hahead : ordinalAhead s.ord oo = true) :
    exec (.ordinalBeat oo step scene ctx) s = .next (beatAccepted oo step scene ctx s) := by
  change execOrdinalBeat oo step scene ctx s = _
  simp only [execOrdinalBeat, clocked_fresh, hclk, fresh_ord, hahead, Bool.not_true, Bool.false_eq_true, if_false]
  rfl

theorem exec_ordinalBeat_of_not_ahead (hnot : ordinalAhead s.ord oo = false) :
    exec (.ordinalBeat oo step scene ctx) s = .next (report 0x1004 (signedOf 32 (oo % 2 ^ 32)) { s with
      out := [], time := { s.time with ordReject := (s.time.ordReject + 1) % 256 } }) := by
  change execOrdinalBeat oo step scene ctx s = _
  simp only [execOrdinalBeat, clocked_fresh, hclk, fresh_ord, hnot, Bool.not_true, Bool.not_false, Bool.false_eq_true,
    if_false, if_true]
  rfl

end

/-- Settles O10: an ordinal is ahead or not (`ordinalAhead_iff`), and the beat is taken or discarded accordingly. -/
theorem beatAcceptance : Obligations.BeatAcceptance := by
  intro oo scene ctx step s hup hbclk
  have hclk := clocked_of hup hbclk
  refine ⟨fun hahead => ?accepted, fun hseen hgap => ?discarded⟩
  case accepted =>
    obtain ⟨hlast, hseen, hscene, hctx⟩ := beatTake_last oo scene ctx step s.ord
    refine ⟨_, exec_ordinalBeat_of_ahead step scene ctx hclk ((ordinalAhead_iff _ _).mpr hahead),
      hseen, hlast, hscene, hctx, rfl, rfl, ?_⟩
    rintro rfl
    rw [beatAccepted, beatTake_plain]
    rfl
  case discarded =>
    exact ⟨exec_ordinalBeat_of_not_ahead step scene ctx hclk (ordinalAhead_eq_false hseen hgap), by decide⟩

end Sys2Proof.Machine
end

section
/-! R330 to R332: the fault record after a fault that the collector takes. -/

namespace Sys2Proof.Machine

open Sys2Proof

/-! ### What telling and the safe state leave of the record -/

@[simp] theorem raiseIf_fault (c : Bool) (g b : Nat) (s : State) : (raiseIf c g b s).fault = s.fault := by
  obtain ⟨_, h⟩ := raiseIf_frame c g b s
  rw [h]

@[simp] theorem deliver_fault (code sev : Nat) (v : Int) (s : State) : (deliver code sev v s).fault = s.fault := by
  obtain ⟨_, _, _, _, _, h⟩ := deliver_frame code sev v s
  rw [h]

@[simp] theorem holdDrive_fault (s : State) : (holdDrive s).fault = s.fault := by
  obtain ⟨_, _, _, _, _, _, h⟩ := holdDrive_frame s
  rw [h]

/-- R335: of the collector's fields, the transfer to the safe state sets the state itself and the error pair. -/
theorem enterSafe_fault (s : State) :
    ∃ early, (enterSafe s).fault = { s.fault with safe := true, safeEarly := early, errFault := true } := by
  unfold enterSafe
  split
  next hsafe => exact ⟨s.fault.safeEarly, by rw [← hsafe]⟩
  next => exact ⟨!s.start.live, by simp only [raiseIf_fault, holdDrive_fault]⟩

theorem holdOut_of_safe {s : State} (h : s.fault.safe = true) : holdOut s = true := by simp [holdOut, h]

theorem running_of_holdOut {s : State} (h : holdOut s = true) : running s = false := by simp [running, h]

/-! ### Counting, opening and merging -/

@[simp] theorem countFault_isOpen (cls : Nat) (inj : Bool) (f : FaultSt) : (countFault cls inj f).isOpen = f.isOpen := rfl

theorem seenBit_of_record {cls : Nat} (h : 3 ≤ cls) : seenBit cls = 2 ^ (cls - 3) := if_pos h

/-- R336: the codes of class S in the record once it has taken a fault. -/
def sCodesAfter (cls code : Nat) (f : FaultSt) : List Nat := if cls = 4 then f.sCodes ++ [code] else f.sCodes

theorem recordFault_of_closed {f : FaultSt} (cls code tick opmin : Nat) (inj : Bool) (h : f.isOpen = false) :
    recordFault cls code tick opmin inj f =
      { f with isOpen := true, code := code, cls := cls, cause := groupBit code, seen := seenBit cls, merges := 0,
               lastCode := code, firstTick := tick, firstOpmin := opmin, injected := inj,
               sCodes := sCodesAfter cls code f } := by
  simp only [recordFault, h, Bool.false_eq_true, if_false, sCodesAfter]

theorem recordFault_of_open {f : FaultSt} (cls code tick opmin : Nat) (inj : Bool) (h : f.isOpen = true) :
    recordFault cls code tick opmin inj f =
      { f with cause := f.cause ||| groupBit code, seen := f.seen ||| seenBit cls, merges := min 65535 (f.merges + 1),
               lastCode := code, cls := max f.cls cls, injected := f.injected || inj,
               sCodes := sCodesAfter cls code f } := by
  simp only [recordFault, h, if_true, sCodesAfter]

/-! ### One fault that the collector takes -/

/-- The state once a fault of class D or above has been counted, delivered and put into the record, before the reaction of
classes S and L. -/
def recorded (code : Nat) (v : Int) (inj : Bool) (s : State) : State :=
  let s1 := deliver code (classSev (faultClass code)) v { s with fault := countFault (faultClass code) inj s.fault }
  raise 0 0 { s1 with
    fault := recordFault (faultClass code) code s.time.count s.book.opmin inj s1.fault,
    core := { s1.core with faultSince := true } }

theorem recorded_fault (code : Nat) (v : Int) (inj : Bool) (s : State) :
    (recorded code v inj s).fault =
      recordFault (faultClass code) code s.time.count s.book.opmin inj (countFault (faultClass code) inj s.fault) := by
  simp only [recorded, raise_fault, deliver_fault]

section
variable {code : Nat} {s : State} (v : Int) (inj : Bool)

theorem collect_fault_of_note (h : faultClass code < 3) :
    (collect code v inj s).fault = countFault (faultClass code) inj s.fault := by
  simp only [collect, if_pos h, deliver_fault]

theorem collect_of_degraded (h : faultClass code = 3) : collect code v inj s = recorded code v inj s := by
  simp [collect, recorded, h]

theorem collect_of_severe (h : faultClass code = 4) : collect code v inj s = enterSafe (recorded code v inj s) := by
  simp [collect, recorded, h]

theorem collect_of_lockout (h : 4 < faultClass code) :
    collect code v inj s =
      { enterSafe (recorded code v inj s) with
        start := { (enterSafe (recorded code v inj s)).start with state := 15 } } := by
  have h3 : ¬ faultClass code < 3 := by omega
  have h4 : ¬ faultClass code < 4 := by omega
  have hL : ¬ faultClass code = 4 := by omega
  simp only [collect, recorded, if_neg h3, if_neg h4, if_neg hL]

/-- R330, R335: from class D up the record takes the fault, and from class S up the safe state is entered. -/
theorem collect_fault_of_record (h : 3 ≤ faultClass code) :
    (collect code v inj s).fault =
      if faultClass code = 3 then (recorded code v inj s).fault else (enterSafe (recorded code v inj s)).fault := by
  rcases (by omega : faultClass code = 3 ∨ faultClass code = 4 ∨ 4 < faultClass code) with hD | hS | hL
  · rw [collect_of_degraded v inj hD, if_pos hD]
  · rw [collect_of_severe v inj hS, if_neg (by omega)]
  · rw [collect_of_lockout v inj hL, if_neg (by omega)]

theorem reportInj_eq_collect (hclk : clocked s = true) (h : faultClass code ≠ 0) :
    reportInj inj code v s = collect code v inj s := by
  simp only [reportInj, if_neg h, hclk, if_true]

theorem reportInj_of_unlisted (h : faultClass code = 0) : reportInj inj code v s = s := if_pos h

/-- R331, R332: a fault of class D or above goes into the record; beside that, only the safe state and the error pair can
change in the collector, and from class S up both are set. -/
theorem reportInj_fault_of_record (hclk : clocked s = true) (h : 3 ≤ faultClass code) :
    ∃ safe early err, (reportInj inj code v s).fault =
        { recordFault (faultClass code) code s.time.count s.book.opmin inj (countFault (faultClass code) inj s.fault) with
          safe := safe, safeEarly := early, errFault := err } ∧
      (4 ≤ faultClass code → safe = true ∧ err = true) := by
  rw [reportInj_eq_collect v inj hclk (by omega), collect_fault_of_record v inj h, ← recorded_fault code v inj s]
  split
  next hD => exact ⟨_, _, _, rfl, fun hS => by omega⟩
  next =>
    obtain ⟨early, hsafe⟩ := enterSafe_fault (recorded code v inj s)
    exact ⟨true, early, true, hsafe, fun _ => ⟨rfl, rfl⟩⟩

/-- R337: a fault of class L sets Lockout. -/
theorem reportInj_lockout (hclk : clocked s = true) (h : faultClass code = 5) :
    (reportInj inj code v s).start.state = 15 := by
  rw [reportInj_eq_collect v inj hclk (by omega), collect_of_lockout v inj (by omega)]

end

/-- Settles O2: a record that is closed is opened (`recordFault_of_closed`); below class D the fault is at most counted. -/
theorem faultOpens : Obligations.FaultOpens := by
  intro code v inj s hup hbclk
  have hclk := clocked_of hup hbclk
  refine ⟨fun hcls hclosed => ?opens, fun hcls => ?untouched⟩
  case opens =>
    obtain ⟨safe, early, err, hf, -⟩ := reportInj_fault_of_record v inj hclk hcls
    rw [hf, recordFault_of_closed _ _ _ _ _ ((countFault_isOpen ..).trans hclosed), seenBit_of_record hcls]
    exact ⟨rfl, rfl, rfl, rfl, rfl, rfl, rfl, rfl, rfl, rfl⟩
  case untouched =>
    by_cases h0 : faultClass code = 0
    · rw [reportInj_of_unlisted v inj h0]
      exact ⟨rfl, rfl, rfl, rfl, rfl, rfl, rfl, rfl, rfl, rfl⟩
    · rw [reportInj_eq_collect v inj hclk h0, collect_fault_of_note v inj hcls]
      exact ⟨rfl, rfl, rfl, rfl, rfl, rfl, rfl, rfl, rfl, rfl⟩

/-- Settles O3: an open record is merged into (`recordFault_of_open`), and the reaction is that of the fault's own class. -/
theorem faultMerges : Obligations.FaultMerges := by
  intro code v inj s hup hbclk hcls hopen
  have hclk := clocked_of hup hbclk
  obtain ⟨safe, early, err, hf, hreaction⟩ := reportInj_fault_of_record v inj hclk hcls
  rw [recordFault_of_open _ _ _ _ _ ((countFault_isOpen ..).trans hopen), seenBit_of_record hcls] at hf
  have hhold (hS : 4 ≤ faultClass code) : holdOut (reportInj inj code v s) = true :=
    holdOut_of_safe (by rw [hf]; exact (hreaction hS).1)
  dsimp only
  rw [hf]
  exact ⟨hopen, rfl, rfl, rfl, rfl, rfl, rfl, rfl, rfl, rfl,
    fun hS => ⟨(hreaction hS).1, (hreaction hS).2, hhold hS, running_of_holdOut (hhold hS)⟩,
    reportInj_lockout v inj hclk⟩

end Sys2Proof.Machine
end

section
/-! R400: an access of the Register Port: its response, its one count, and what it leaves as it was. -/

namespace Sys2Proof.Machine

open Sys2Proof

/-! ### The order of the checks -/

/-- R400: a write's checks: the address, Lockout, the privilege. -/
theorem rpResp_write (p off : Nat) (s : State) :
    rpResp (lockout s) true p off =
      if regClass off = none then 2 else if s.start.state = 15 then 3
      else if (regClass off).map (mayWrite p) = some false then 1 else 0 := by
  cases hc : regClass off with
  | none => simp [rpResp, hc]
  | some c => cases hm : mayWrite p c <;> simp [rpResp, hc, hm, lockout]

/-- R400: a read's checks: the address and the privilege; a Lockout does not matter. -/
theorem rpResp_read (lock : Bool) (p off : Nat) :
    rpResp lock false p off =
      if regClass off = none then 2 else if (regClass off).map (mayRead p) = some false then 1 else 0 := by
  cases hc : regClass off with
  | none => simp [rpResp, hc]
  | some c => cases hm : mayRead p c <;> simp [rpResp, hc, hm]

/-- R400: 0b11 answers writes alone. -/
theorem rpResp_read_ne_three (lock : Bool) (p off : Nat) : rpResp lock false p off ≠ 3 := by
  rw [rpResp_read]
  split
  · decide
  · split <;> decide

/-! ### The response and its count -/

/-- A counter of RP_ERR_COUNTS advances, and wraps, for its own response alone. -/
theorem wrapInc_resp (n r k c : Nat) : wrapInc n (r == k) c = if r = k then (c + 1) % 2 ^ n else c := by
  simp only [wrapInc, wrapAdd, beq_iff_eq]

/-- Under 0b00 no count of RP_ERR_COUNTS changes. -/
theorem rpAnswer_granted (w : Word) (s : State) :
    rpAnswer 0 w s = { s with out := s.out ++ [.reg 0 w], regs := { s.regs with resp := 0, rdata := w } } := rfl

/-- R39: a read of a low word changes nothing but the latch of the high words. -/
theorem latchHigh_frame (p ctx off : Nat) (s : State) :
    ∃ hi, latchHigh p ctx off s = { s with time := { s.time with hiLatch := hi } } := by
  unfold latchHigh
  split
  next => exact ⟨_, rfl⟩
  next => exact ⟨s.time.hiLatch, rfl⟩

theorem regFetch_frame (p ctx off : Nat) (s : State) :
    ∃ hi, regFetch p ctx off s = { s with
      out := s.out ++ [.reg 0 (regValue s p ctx off)],
      regs := { s.regs with resp := 0, rdata := regValue s p ctx off },
      time := { s.time with hiLatch := hi }, free := s.free + 1 } := by
  obtain ⟨hi, hlatch⟩ := latchHigh_frame p ctx off s
  exact ⟨hi, by rw [regFetch, hlatch, rpAnswer_granted]⟩

/-! ### The two accesses -/

@[simp] theorem rpAlive_fresh (s : State) : rpAlive (fresh s) = rpAlive s := rfl

section
variable {s : State} {off : Nat} (p ctx : Nat) (d : Word)

/-- Log 103: without clock or in RESET a write has no effect. -/
theorem exec_registerWrite_of_dead (hready : portWaits s off = false) (hdead : rpAlive s = false) :
    exec (.registerWrite p off d) s = .next (fresh s) := by
  change (if portWaits s off then _ else done (rpWrite p off _ (fresh s))) = _
  simp only [hready, rpWrite, rpAlive_fresh, hdead, Bool.not_false, Bool.false_eq_true, if_false, if_true, done]

theorem exec_registerWrite_of_alive (hready : portWaits s off = false) (halive : rpAlive s = true) :
    exec (.registerWrite p off d) s = .next
      (rpAnswer (rpResp (lockout s) true p off) 0
        (if rpResp (lockout s) true p off = 0 then regWrite p off d.toNat (fresh s) else fresh s)) := by
  change (if portWaits s off then _ else done (rpWrite p off _ (fresh s))) = _
  simp only [hready, rpWrite, rpAlive_fresh, halive, Bool.not_true, Bool.false_eq_true, if_false, done]
  rfl

/-- Log 103: without clock or in RESET a read has no effect. -/
theorem exec_loRegisterRead_of_dead (hdead : rpAlive s = false) :
    exec (.loRegisterRead p ctx off) s = .next (fresh s) := by
  change execLoRegisterRead p ctx off s = _
  simp only [execLoRegisterRead, rpAlive_fresh, hdead, Bool.not_false, if_true, done]

theorem exec_loRegisterRead_of_alive (halive : rpAlive s = true) :
    exec (.loRegisterRead p ctx off) s = .next
      (if rpResp (lockout s) false p off = 0 then regFetch p ctx off (fresh s)
       else rpAnswer (rpResp (lockout s) false p off) 0 (fresh s)) := by
  change execLoRegisterRead p ctx off s = _
  simp only [execLoRegisterRead, rpAlive_fresh, halive, Bool.not_true, Bool.false_eq_true, if_false, done]
  rfl

end

/-- Settles O48: the port is dead, or the response of the access (`rpResp_write`, `rpResp_read`) refuses or grants it. That a
dead port leaves an access without effect is log 103. -/
theorem registerPort : Obligations.RegisterPort := by
  intro p ctx off d s
  refine ⟨fun hdead hready => ⟨exec_registerWrite_of_dead p d hready hdead, exec_loRegisterRead_of_dead p ctx hdead⟩,
    fun halive => ⟨?write, ?read⟩⟩
  case write =>
    intro r hready
    have hr : rpResp (lockout s) true p off = r := rpResp_write p off s
    rw [exec_registerWrite_of_alive p d hready halive, hr]
    refine ⟨fun hrefused => ?_, fun hgranted => ⟨_, rfl, ?_⟩⟩
    · rw [if_neg hrefused]
      simp only [rpAnswer, wrapInc_resp]
      rfl
    · rw [if_pos hgranted, hgranted, rpAnswer_granted]
      rfl
  case read =>
    intro r
    have hr : rpResp (lockout s) false p off = r := rpResp_read (lockout s) p off
    have hthree : r ≠ 3 := hr ▸ rpResp_read_ne_three (lockout s) p off
    rw [exec_loRegisterRead_of_alive p ctx halive, hr]
    refine ⟨fun hrefused => ?_, fun hgranted => ?_⟩
    · rw [if_neg hrefused]
      simp only [rpAnswer, wrapInc_resp, if_neg hthree]
      rfl
    · obtain ⟨hi, hfetch⟩ := regFetch_frame p ctx off (fresh s)
      rw [if_pos hgranted, hfetch]
      exact ⟨_, hi, rfl, rfl⟩

end Sys2Proof.Machine
end

section
/-! Log 4, R269, R325, R337, R444: what lasts over a command. Almost every operation leaves the parameters, the waiting
commands, the flash and the Curtain's Lockout as they were; those that write the flash keep its canonical form, and those of
the Curtain keep a Lockout that is set. -/

namespace Sys2Proof.Machine

open Sys2Proof

/-! ### What lasts -/

/-- What almost every operation leaves as it was: the parameters, the waiting commands, the flash and the Lockout. -/
abbrev Lasting := Params × List Instr × Tab Nat × Bool

def lasting (s : State) : Lasting := (s.par, s.pending, s.flash, s.curt.lockout)

/-- Of a state that is written out, the four fields alone. -/
@[simp] theorem lasting_mk (par time ord core tk tel law cap margin therm curt pkg zilt mgmt start fault book obs port
    regs pb flash out free pending) :
    lasting (State.mk par time ord core tk tel law cap margin therm curt pkg zilt mgmt start fault book obs port regs
      pb flash out free pending) = (par, pending, flash, curt.lockout) := by simp only [lasting]

@[simp] theorem lasting_fold (s : State) : (s.par, s.pending, s.flash, s.curt.lockout) = lasting s := rfl

@[simp] theorem lasting_ite (c : Prop) [Decidable c] (a b : State) :
    lasting (if c then a else b) = if c then lasting a else lasting b := apply_ite lasting c a b

theorem lasting_foldl {β : Type} (f : State → β → State) (l : List β) (s : State)
    (h : ∀ x, ∀ b ∈ l, lasting (f x b) = lasting x) : lasting (l.foldl f s) = lasting s :=
  List.foldlRecOn l f (motive := fun x => lasting x = lasting s) rfl fun x hx b hb => (h x b hb).trans hx

theorem lasting_foldl_fst {β γ : Type} (f : State × γ → β → State × γ) (l : List β) (s : State × γ)
    (h : ∀ x b, lasting (f x b).1 = lasting x.1) : lasting (l.foldl f s).1 = lasting s.1 :=
  List.foldlRecOn l f (motive := fun x => lasting x.1 = lasting s.1) rfl fun x hx b _ => (h x b).trans hx

theorem lasting_foldl_snd {β γ : Type} (f : γ × State → β → γ × State) (l : List β) (s : γ × State)
    (h : ∀ x b, lasting (f x b).2 = lasting x.2) : lasting (l.foldl f s).2 = lasting s.2 :=
  List.foldlRecOn l f (motive := fun x => lasting x.2 = lasting s.2) rfl fun x hx b _ => (h x b).trans hx

/-! ### Operations that leave all of it, in the order of the model's files -/

@[simp] theorem lasting_fresh (s : State) : lasting (fresh s) = lasting s := by simp [fresh]

@[simp] theorem lasting_emit (e : Emit) (s : State) : lasting (emit e s) = lasting s := by simp [emit]

@[simp] theorem lasting_emitAll (l : List Emit) (s : State) : lasting (emitAll l s) = lasting s := by simp [emitAll]

@[simp] theorem lasting_raise (g b : Nat) (s : State) : lasting (raise g b s) = lasting s := by simp [raise]

@[simp] theorem lasting_raiseIf (c : Bool) (g b : Nat) (s : State) : lasting (raiseIf c g b s) = lasting s := by
  simp [raiseIf]

@[simp] theorem lasting_arrived (src : Nat) (s : State) : lasting (arrived src s) = lasting s := by simp [arrived]

@[simp] theorem lasting_trcFire (type code cycle : Nat) (l : List Nat) (s : State) :
    lasting (trcFire type code cycle l s) = lasting s := by simp [trcFire]

@[simp] theorem lasting_trcDelivery (code : Nat) (s : State) : lasting (trcDelivery code s) = lasting s := by
  simp [trcDelivery]

@[simp] theorem lasting_deliver (code sev : Nat) (v : Int) (s : State) : lasting (deliver code sev v s) = lasting s := by
  simp [deliver]

@[simp] theorem lasting_event (code : Nat) (v : Int) (s : State) : lasting (event code v s) = lasting s := by
  simp [event]

@[simp] theorem lasting_friSend (type addr value : Nat) (s : State) :
    lasting (friSend type addr value s) = lasting s := by simp [friSend]

@[simp] theorem lasting_holdDrive (s : State) : lasting (holdDrive s) = lasting s := by simp [holdDrive, lasting_foldl]

@[simp] theorem lasting_enterSafe (s : State) : lasting (enterSafe s) = lasting s := by simp [enterSafe]

@[simp] theorem lasting_collect (code : Nat) (v : Int) (inj : Bool) (s : State) :
    lasting (collect code v inj s) = lasting s := by simp [collect]

@[simp] theorem lasting_reportInj (inj : Bool) (code : Nat) (v : Int) (s : State) :
    lasting (reportInj inj code v s) = lasting s := by simp [reportInj]

@[simp] theorem lasting_report (code : Nat) (v : Int) (s : State) : lasting (report code v s) = lasting s := by
  simp [report]

@[simp] theorem lasting_reportIf (c : Bool) (code : Nat) (v : Int) (s : State) :
    lasting (reportIf c code v s) = lasting s := by simp [reportIf]

@[simp] theorem lasting_reportAll (l : List (Nat × Int)) (s : State) : lasting (reportAll l s) = lasting s := by
  simp [reportAll, lasting_foldl]

@[simp] theorem lasting_injCheck (checker : Nat) (s : State) : lasting (injCheck checker s).2 = lasting s := by
  unfold injCheck
  repeat' split
  all_goals simp

@[simp] theorem lasting_injParity (checker : Nat) (s : State) : lasting (injParity checker s).2 = lasting s := by
  simp [injParity]

@[simp] theorem lasting_rpAnswer (resp : Nat) (data : Word) (s : State) :
    lasting (rpAnswer resp data s) = lasting s := by simp [rpAnswer]

@[simp] theorem lasting_rpWrite (priv off : Nat) (f : State → State) (s : State) (h : ∀ x, lasting (f x) = lasting x) :
    lasting (rpWrite priv off f s) = lasting s := by
  simp [rpWrite, h]

@[simp] theorem lasting_putReg (off w : Nat) (s : State) : lasting (putReg off w s) = lasting s := by simp [putReg]

@[simp] theorem lasting_alert (code : Nat) (data : List Nat) (s : State) : lasting (alert code data s) = lasting s := by
  simp [alert]

@[simp] theorem lasting_bookClear (s : State) : lasting (bookClear s) = lasting s := by simp [bookClear]

@[simp] theorem lasting_bookStore (s : State) : lasting (bookStore s) = lasting s := by simp [bookStore]

@[simp] theorem lasting_bookBegin (s : State) : lasting (bookBegin s) = lasting s := by simp [bookBegin]

@[simp] theorem lasting_writePbCtrl (w : Nat) (s : State) : lasting (writePbCtrl w s) = lasting s := by
  simp [writePbCtrl]

@[simp] theorem lasting_writePbCursor (w : Nat) (s : State) : lasting (writePbCursor w s) = lasting s := by
  simp [writePbCursor]

@[simp] theorem lasting_injChecks (checker n : Nat) (s : State) :
    lasting (injChecks checker n s).2.2 = lasting s := by
  induction n generalizing s with
  | zero => rfl
  | succ n ih => simp [injChecks, ih]

@[simp] theorem lasting_slotEcc (r : Run) (s : State) : lasting (slotEcc r s).2.2 = lasting s := by
  unfold slotEcc
  split <;> simp

@[simp] theorem lasting_eccFixed (inj : Bool) (s : State) : lasting (eccFixed inj s) = lasting s := by simp [eccFixed]

@[simp] theorem lasting_telEnd (complete : Bool) (t : Nat) (s : State) : lasting (telEnd complete t s) = lasting s := by
  simp [telEnd]

@[simp] theorem lasting_telRequest (s : State) : lasting (telRequest s) = lasting s := by
  unfold telRequest
  repeat' split
  all_goals simp

@[simp] theorem lasting_countStep (c : Nat) (s : State) : lasting (countStep c s) = lasting s := by simp [countStep]

@[simp] theorem lasting_holdoverLeave (c : Nat) (s : State) : lasting (holdoverLeave c s) = lasting s := by
  simp [holdoverLeave]

@[simp] theorem lasting_epochMark (wasLocked : Bool) (s : State) : lasting (epochMark wasLocked s) = lasting s := by
  unfold epochMark
  dsimp only
  repeat' split
  all_goals simp

@[simp] theorem lasting_epochNone (s : State) : lasting (epochNone s) = lasting s := by simp [epochNone]

@[simp] theorem lasting_aoclkCount (n : Nat) (s : State) : lasting (aoclkCount n s) = lasting s := by simp [aoclkCount]

@[simp] theorem lasting_holdoverEnter (s : State) : lasting (holdoverEnter s) = lasting s := by simp [holdoverEnter]

@[simp] theorem lasting_missedFour (s : State) : lasting (missedFour s) = lasting s := by simp [missedFour]

@[simp] theorem lasting_putEst (o : EstOut) (fs : List (Nat × Int)) (cs : List (Nat × Nat)) (s : State) :
    lasting (putEst o fs cs s) = lasting s := by simp [putEst]

@[simp] theorem lasting_plausEdge (s : State) : lasting (plausEdge s) = lasting s := by simp [plausEdge]

@[simp] theorem lasting_writeEstCmd (w : Nat) (s : State) : lasting (writeEstCmd w s) = lasting s := by
  simp [writeEstCmd]

@[simp] theorem lasting_adaptReset (s : State) : lasting (adaptReset s) = lasting s := by simp [adaptReset]

@[simp] theorem lasting_readmit (site : Nat) (s : State) : lasting (readmit site s) = lasting s := by simp [readmit]

@[simp] theorem lasting_estCmdEdge (s : State) : lasting (estCmdEdge s) = lasting s := by
  unfold estCmdEdge
  split <;> simp

@[simp] theorem lasting_bumpLaw (f : LawOut → LawOut) (s : State) : lasting (bumpLaw f s) = lasting s := by
  simp [bumpLaw]

@[simp] theorem lasting_writeScene (w : Nat) (s : State) : lasting (writeScene w s) = lasting s := by simp [writeScene]

@[simp] theorem lasting_writeSpt (w : Nat) (s : State) : lasting (writeSpt w s) = lasting s := by simp [writeSpt]

@[simp] theorem lasting_sceneEdge (s : State) : lasting (sceneEdge s) = lasting s := by simp [sceneEdge]

@[simp] theorem lasting_opEdge (target : Option Nat) (s : State) : lasting (opEdge target s) = lasting s := by
  simp [opEdge]

@[simp] theorem lasting_railApply (r : Nat) (s : State) : lasting (railApply r s) = lasting s := by simp [railApply]

@[simp] theorem lasting_railEdge (s : State) : lasting (railEdge s) = lasting s := by simp [railEdge, lasting_foldl]

@[simp] theorem lasting_friSends (n : Nat) (s : State) : lasting (friSends n s) = lasting s := by
  induction n generalizing s with
  | zero => rfl
  | succ n ih =>
    unfold friSends
    split
    · simp
    · split <;> simp [ih]

@[simp] theorem lasting_friDrain (s : State) : lasting (friDrain s) = lasting s := by simp [friDrain]

@[simp] theorem lasting_clockApply (settle : Bool) (d : Nat) (s : State) :
    lasting (clockApply settle d s) = lasting s := by simp [clockApply]

@[simp] theorem lasting_clockEdge (s : State) : lasting (clockEdge s) = lasting s := by simp [clockEdge, lasting_foldl]

@[simp] theorem lasting_hostRefuse (s : State) : lasting (hostRefuse s) = lasting s := by simp [hostRefuse]

@[simp] theorem lasting_writeHostCap (w : Nat) (s : State) : lasting (writeHostCap w s) = lasting s := by
  simp [writeHostCap]

@[simp] theorem lasting_writeHostPref (w : Nat) (s : State) : lasting (writeHostPref w s) = lasting s := by
  simp [writeHostPref]

@[simp] theorem lasting_putCap (m : CapMem) (o : CapOut) (cs : List (Nat × Nat)) (s : State) :
    lasting (putCap m o cs s) = lasting s := by simp [putCap]

@[simp] theorem lasting_dieEscAlert (s : State) : lasting (dieEscAlert s) = lasting s := by simp [dieEscAlert]

@[simp] theorem lasting_trcOne (cycle n b src value : Nat) (s : State) :
    lasting (trcOne cycle n b src value s) = lasting s := by simp [trcOne]

@[simp] theorem lasting_trcCapture (cycle : Nat) (modes : List Nat) (value : Nat → Option Nat) (s : State) :
    lasting (trcCapture cycle modes value s) = lasting s := by
  rw [trcCapture, lasting_foldl_snd]
  intro x q
  split
  · rfl
  · split <;> simp

@[simp] theorem lasting_putAgent (a : Nat) (g : Agent) (s : State) : lasting (putAgent a g s) = lasting s := by
  simp [putAgent]

@[simp] theorem lasting_lateMessage (late : Nat) (s : State) : lasting (lateMessage late s) = lasting s := by
  simp [lateMessage]

@[simp] theorem lasting_bypSet (a cause : Nat) (s : State) : lasting (bypSet a cause s).1 = lasting s := by
  unfold bypSet
  dsimp only
  repeat' split
  all_goals simp

@[simp] theorem lasting_bypEnter (inj : Bool) (a cause : Nat) (s : State) :
    lasting (bypEnter inj a cause s) = lasting s := by simp [bypEnter]

@[simp] theorem lasting_boothFail (inj : Bool) (b : Nat) (s : State) : lasting (boothFail inj b s) = lasting s := by
  unfold boothFail
  split
  · rfl
  · dsimp only
    split <;> simp [lasting_foldl_fst]

@[simp] theorem lasting_vrefEdge (pNs : Nat) (s : State) : lasting (vrefEdge pNs s) = lasting s := by simp [vrefEdge]

@[simp] theorem lasting_putRegion (r : Nat) (x : Region) (s : State) : lasting (putRegion r x s) = lasting s := by
  simp [putRegion]

@[simp] theorem lasting_countTrips (r : Nat) (s : State) : lasting (countTrips r s) = lasting s := by simp [countTrips]

@[simp] theorem lasting_regionRise (r : Nat) (s : State) : lasting (regionRise r s) = lasting s := by simp [regionRise]

@[simp] theorem lasting_droopEdge (s : State) : lasting (droopEdge s) = lasting s := by simp [droopEdge]

@[simp] theorem lasting_monRead (mon code : Nat) (ok : Bool) (s : State) :
    lasting (monRead mon code ok s) = lasting s := by
  unfold monRead
  split <;> simp

@[simp] theorem lasting_writeAgemon (w : Nat) (s : State) : lasting (writeAgemon w s) = lasting s := by
  simp [writeAgemon]

@[simp] theorem lasting_marginEdge (s : State) : lasting (marginEdge s) = lasting s := by simp [marginEdge]

@[simp] theorem lasting_marginDue (k : Nat) (s : State) : lasting (marginDue k s) = lasting s := by simp [marginDue]

@[simp] theorem lasting_marginStore (s : State) : lasting (marginStore s) = lasting s := by simp [marginStore]

@[simp] theorem lasting_writeMarginCmd (w : Nat) (s : State) : lasting (writeMarginCmd w s) = lasting s := by
  simp [writeMarginCmd]

@[simp] theorem lasting_askAgent (a h cls cost : Nat) (s : State) : lasting (askAgent a h cls cost s) = lasting s := by
  simp [askAgent]

@[simp] theorem lasting_holderCheck (inj : Bool) (a h out : Nat) (s : State) :
    lasting (holderCheck inj a h out s) = lasting s := by simp [holderCheck]

@[simp] theorem lasting_grantPulse (a : Nat) (g : Agent) (s : State) : lasting (grantPulse a g s).2 = lasting s := by
  unfold grantPulse
  repeat' split
  all_goals simp

@[simp] theorem lasting_decisionEcc (agent : Nat) (ecc : List (Nat × Nat)) (s : State) :
    lasting (decisionEcc agent ecc s) = lasting s := by
  unfold decisionEcc
  split <;> simp [lasting_foldl]

@[simp] theorem lasting_poolCheck (agent : Nat) (s : State) : lasting (poolCheck agent s) = lasting s := by
  simp [poolCheck]

@[simp] theorem lasting_officeEdge (s : State) : lasting (officeEdge s) = lasting s := by simp [officeEdge]

@[simp] theorem lasting_latchDone (s : State) : lasting (latchDone s) = lasting s := by simp [latchDone]

@[simp] theorem lasting_refillReports (s : State) : lasting (refillReports s) = lasting s := by simp [refillReports]

@[simp] theorem lasting_refillSend (s : State) : lasting (refillSend s) = lasting s := by simp [refillSend]

@[simp] theorem lasting_refillIdle (s : State) : lasting (refillIdle s) = lasting s := by simp [refillIdle]

@[simp] theorem lasting_handDone (st : Nat) (s : State) : lasting (handDone st s) = lasting s := by simp [handDone]

@[simp] theorem lasting_handEvent (op n : Nat) (s : State) : lasting (handEvent op n s) = lasting s := by
  simp [handEvent]

@[simp] theorem lasting_handSent (a n : Nat) (s : State) : lasting (handSent a n s) = lasting s := by simp [handSent]

@[simp] theorem lasting_restoreCheck (a : Nat) (s : State) : lasting (restoreCheck a s) = lasting s := by
  simp [restoreCheck]

@[simp] theorem lasting_handRestore (a : Nat) (s : State) : lasting (handRestore a s) = lasting s := by
  simp [handRestore]

@[simp] theorem lasting_handGrant (a h : Nat) (s : State) : lasting (handGrant a h s) = lasting s := by simp [handGrant]

@[simp] theorem lasting_handRun (c : AgentCmd) (s : State) : lasting (handRun c s) = lasting s := by
  unfold handRun
  repeat' split
  all_goals simp

@[simp] theorem lasting_handBoundary (s : State) : lasting (handBoundary s) = lasting s := by
  unfold handBoundary
  split <;> simp

@[simp] theorem lasting_officeCounts (m : AgentRep) (s : State) : lasting (officeCounts m s) = lasting s := by
  simp [officeCounts]

@[simp] theorem lasting_officeRep (m : AgentRep) (s : State) : lasting (officeRep m s) = lasting s := by
  simp [officeRep]

@[simp] theorem lasting_writeTarget (w : Nat) (s : State) : lasting (writeTarget w s) = lasting s := by
  simp [writeTarget]

@[simp] theorem lasting_targetKeep (s : State) : lasting (targetKeep s) = lasting s := by simp [targetKeep]

@[simp] theorem lasting_putSite (i : Nat) (x : SiteSt) (s : State) : lasting (putSite i x s) = lasting s := by
  simp [putSite]

@[simp] theorem lasting_siteBreak (inj : Bool) (i c : Nat) (s : State) : lasting (siteBreak inj i c s) = lasting s := by
  simp [siteBreak]

@[simp] theorem lasting_enfBegin (force : Bool) (s : State) : lasting (enfBegin force s) = lasting s := by
  simp [enfBegin]

@[simp] theorem lasting_enfQuota (s : State) : lasting (enfQuota s) = lasting s := by simp [enfQuota]

@[simp] theorem lasting_enfBudget (s : State) : lasting (enfBudget s) = lasting s := by simp [enfBudget]

@[simp] theorem lasting_enfImage (s : State) : lasting (enfImage s) = lasting s := by simp [enfImage]

@[simp] theorem lasting_levelEdge (s : State) : lasting (levelEdge s) = lasting s := by simp [levelEdge]

@[simp] theorem lasting_enfEdge (forced : Bool) (s : State) : lasting (enfEdge forced s) = lasting s := by
  simp [enfEdge]

@[simp] theorem lasting_thermEdge (old : Nat) (forced : Bool) (s : State) :
    lasting (thermEdge old forced s) = lasting s := by simp [thermEdge]

@[simp] theorem lasting_coolStart (s : State) : lasting (coolStart s) = lasting s := by simp [coolStart]

@[simp] theorem lasting_railOff (s : State) : lasting (railOff s) = lasting s := by simp [railOff]

@[simp] theorem lasting_railOffAll (s : State) : lasting (railOffAll s) = lasting s := by
  unfold railOffAll
  dsimp only
  repeat' split
  all_goals simp

@[simp] theorem lasting_thermShut (s : State) : lasting (thermShut s) = lasting s := by simp [thermShut]

@[simp] theorem lasting_curtCheck (s : State) : lasting (curtCheck s) = lasting s := by
  unfold curtCheck
  repeat' split
  all_goals simp

@[simp] theorem lasting_clearState (cold : Bool) (s : State) : lasting (clearState cold s) = lasting s := by
  simp [clearState]

@[simp] theorem lasting_resetTo (cold : Bool) (s : State) : lasting (resetTo cold s) = lasting s := by simp [resetTo]

@[simp] theorem lasting_beginStart (cold : Bool) (cause : Nat) (s : State) :
    lasting (beginStart cold cause s) = lasting s := by simp [beginStart]

@[simp] theorem lasting_warmStart (cause : Nat) (s : State) : lasting (warmStart cause s) = lasting s := by
  simp [warmStart]

@[simp] theorem lasting_tapKeep (old s : State) : lasting (tapKeep old s) = lasting s := rfl

@[simp] theorem lasting_deliverHeld (s : State) : lasting (deliverHeld s) = lasting s := by
  simp [deliverHeld, lasting_foldl]

@[simp] theorem lasting_toState (n : Nat) (s : State) : lasting (toState n s) = lasting s := by simp [toState]

@[simp] theorem lasting_reject (b : Bad) (s : State) : lasting (reject b s) = lasting s := by simp [reject]

@[simp] theorem lasting_railGreet (s : State) : lasting (railGreet s) = lasting s := by simp [railGreet, lasting_foldl]

@[simp] theorem lasting_coldRead (p : Playbill) (s : State) : lasting (coldRead p s) = lasting s := by simp [coldRead]

@[simp] theorem lasting_bookCheck (p : Playbill) (s : State) : lasting (bookCheck p s) = lasting s := by
  simp [bookCheck]

@[simp] theorem lasting_readEnd (next : Nat) (s : State) : lasting (readEnd next s) = lasting s := by simp [readEnd]

@[simp] theorem lasting_initialWrite (s : State) (w : Nat × Nat) : lasting (initialWrite s w) = lasting s := by
  simp [initialWrite]

@[simp] theorem lasting_applyImage (x : Src) (p : Playbill) (n : Nat) (s : State) :
    lasting (applyImage x p n s) = lasting s := by simp [applyImage, lasting_foldl]

@[simp] theorem lasting_settle (s : State) : lasting (settle s) = lasting s := by simp [settle]

@[simp] theorem lasting_ctrlSt (n : Nat) (s : State) : lasting (ctrlSt n s) = lasting s := by simp [ctrlSt]

@[simp] theorem lasting_faultClose (merged : Bool) (s : State) : lasting (faultClose merged s) = lasting s := by
  simp [faultClose]

@[simp] theorem lasting_writeFaultCtrl (merged : Bool) (w : Nat) (s : State) :
    lasting (writeFaultCtrl merged w s) = lasting s := by simp [writeFaultCtrl]

@[simp] theorem lasting_resume (s : State) : lasting (resume s) = lasting s := by simp [resume]

@[simp] theorem lasting_resumeEdge (s : State) : lasting (resumeEdge s) = lasting s := by simp [resumeEdge]

@[simp] theorem lasting_recoverEdge (s : State) : lasting (recoverEdge s) = lasting s := by simp [recoverEdge]

@[simp] theorem lasting_writeReh (w : Nat) (s : State) : lasting (writeReh w s) = lasting s := by simp [writeReh]

@[simp] theorem lasting_writeInj (w : Nat) (s : State) : lasting (writeInj w s) = lasting s := by simp [writeInj]

@[simp] theorem lasting_curtArmNow (s : State) : lasting (curtArmNow s) = lasting s := by simp [curtArmNow]

@[simp] theorem lasting_rehEdge (s : State) : lasting (rehEdge s) = lasting s := by simp [rehEdge]

@[simp] theorem lasting_putDie (j : Nat) (d : DieRec) (s : State) : lasting (putDie j d s) = lasting s := by
  simp [putDie]

@[simp] theorem lasting_setRole (r : Nat) (s : State) : lasting (setRole r s) = lasting s := by simp [setRole]

@[simp] theorem lasting_dbpReject (s : State) : lasting (dbpReject s) = lasting s := by simp [dbpReject]

theorem lasting_termSee {t : Nat} {s u : State} (h : termSee t s = some u) : lasting u = lasting s := by
  unfold termSee at h
  split at h
  · cases h; rfl
  · split at h
    · cases h; rfl
    · split at h
      · cases h; simp
      · cases h

@[simp] theorem lasting_sawLeader (src : Nat) (s : State) : lasting (sawLeader src s) = lasting s := by simp [sawLeader]

@[simp] theorem lasting_pkgEscAlert (s : State) : lasting (pkgEscAlert s) = lasting s := by simp [pkgEscAlert]

@[simp] theorem lasting_allocEdge (s : State) : lasting (allocEdge s) = lasting s := by simp [allocEdge]

@[simp] theorem lasting_leaveEdge (s : State) : lasting (leaveEdge s) = lasting s := by simp [leaveEdge]

@[simp] theorem lasting_ledgerEdge (s : State) : lasting (ledgerEdge s) = lasting s := by simp [ledgerEdge]

@[simp] theorem lasting_dbpSend (type dst payload : Nat) (s : State) :
    lasting (dbpSend type dst payload s) = lasting s := by simp [dbpSend]

@[simp] theorem lasting_sendLeave (s : State) : lasting (sendLeave s) = lasting s := by simp [sendLeave]

@[simp] theorem lasting_sendReport (demand : Nat) (s : State) : lasting (sendReport demand s) = lasting s := by
  simp [sendReport]

@[simp] theorem lasting_sendJoin (s : State) : lasting (sendJoin s) = lasting s := by simp [sendJoin]

@[simp] theorem lasting_sendSlack (s : State) : lasting (sendSlack s) = lasting s := by simp [sendSlack]

@[simp] theorem lasting_sendAlloc (j : Nat) (s : State) : lasting (sendAlloc j s) = lasting s := by simp [sendAlloc]

@[simp] theorem lasting_sendRoles (s : State) : lasting (sendRoles s) = lasting s := by simp [sendRoles]

@[simp] theorem lasting_barEdge (s : State) : lasting (barEdge s) = lasting s := by
  unfold barEdge
  split <;> simp

@[simp] theorem lasting_pkgEdge (demand : Nat) (s : State) : lasting (pkgEdge demand s) = lasting s := by
  simp [pkgEdge, lasting_foldl]

@[simp] theorem lasting_zltSend (type dst : Nat) (body : List Nat) (s : State) :
    lasting (zltSend type dst body s) = lasting s := by simp [zltSend]

@[simp] theorem lasting_putChildren (l : List Child) (s : State) : lasting (putChildren l s) = lasting s := by
  simp [putChildren]

@[simp] theorem lasting_modChild (id : Nat) (f : Child → Child) (s : State) : lasting (modChild id f s) = lasting s := by
  simp [modChild]

@[simp] theorem lasting_zltEdge (s : State) : lasting (zltEdge s) = lasting s := by simp [zltEdge]

@[simp] theorem lasting_allocOut (hold : Bool) (c : Child) (s : State) : lasting (allocOut hold c s) = lasting s := by
  simp [allocOut]

@[simp] theorem lasting_parentInterval (s : State) : lasting (parentInterval s) = lasting s := by
  simp [parentInterval, lasting_foldl]

@[simp] theorem lasting_childInterval (s : State) : lasting (childInterval s) = lasting s := by simp [childInterval]

@[simp] theorem lasting_latchHigh (priv ctx off : Nat) (s : State) : lasting (latchHigh priv ctx off s) = lasting s := by
  unfold latchHigh
  split <;> simp

@[simp] theorem lasting_regFetch (priv ctx off : Nat) (s : State) : lasting (regFetch priv ctx off s) = lasting s := by
  simp [regFetch]

@[simp] theorem lasting_writeOpCtrl (w : Nat) (s : State) : lasting (writeOpCtrl w s) = lasting s := by
  simp [writeOpCtrl]

@[simp] theorem lasting_trcMod (f : TraceBuf → TraceBuf) (s : State) : lasting (trcMod f s) = lasting s := by
  unfold trcMod
  split <;> simp

@[simp] theorem lasting_writeTrcCtrl (w : Nat) (s : State) : lasting (writeTrcCtrl w s) = lasting s := by
  simp [writeTrcCtrl]

@[simp] theorem lasting_writeTrcWord (off w : Nat) (s : State) : lasting (writeTrcWord off w s) = lasting s := by
  simp [writeTrcWord]

@[simp] theorem lasting_trcArmEdge (s : State) : lasting (trcArmEdge s) = lasting s := by simp [trcArmEdge]

@[simp] theorem lasting_trcEdge (s : State) : lasting (trcEdge s) = lasting s := by simp [trcEdge]

@[simp] theorem lasting_snapSchedule (tick : Nat) (freeze : Bool) (s : State) :
    lasting (snapSchedule tick freeze s) = lasting s := by simp [snapSchedule]

@[simp] theorem lasting_writeSnapCtrl (w : Nat) (s : State) : lasting (writeSnapCtrl w s) = lasting s := by
  simp [writeSnapCtrl]

@[simp] theorem lasting_snapEdge (s : State) : lasting (snapEdge s) = lasting s := by simp [snapEdge]

@[simp] theorem lasting_loaderEnd (st : Nat) (s : State) : lasting (loaderEnd st s) = lasting s := by simp [loaderEnd]

@[simp] theorem lasting_loaderBad (b : Bad) (s : State) : lasting (loaderBad b s) = lasting s := by simp [loaderBad]

@[simp] theorem lasting_loaderBegin (op : Nat) (s : State) : lasting (loaderBegin op s) = lasting s := by
  simp [loaderBegin]

@[simp] theorem lasting_loadBegin (s : State) : lasting (loadBegin s) = lasting s := by simp [loadBegin]

@[simp] theorem lasting_restart (s : State) : lasting (restart s) = lasting s := by simp [restart]

@[simp] theorem lasting_loaderGo (op : Nat) (s : State) : lasting (loaderGo op s) = lasting s := by
  unfold loaderGo
  repeat' split
  all_goals simp

@[simp] theorem lasting_writeLoadCtrl (w : Nat) (s : State) : lasting (writeLoadCtrl w s) = lasting s := by
  simp [writeLoadCtrl]

@[simp] theorem lasting_streamEnd (s : State) : lasting (streamEnd s) = lasting s := by
  unfold streamEnd
  repeat' split
  all_goals simp

@[simp] theorem lasting_writeKeyReg (off w : Nat) (s : State) : lasting (writeKeyReg off w s) = lasting s := by
  simp [writeKeyReg]

@[simp] theorem lasting_storeBoth (s : State) : lasting (storeBoth s) = lasting s := by simp [storeBoth]

@[simp] theorem lasting_hostDone (seq code result : Nat) (res : Tab Nat) (s : State) :
    lasting (hostDone seq code result res s) = lasting s := by simp [hostDone]

@[simp] theorem lasting_storesEnd (s : State) : lasting (storesEnd s) = lasting s := by
  unfold storesEnd
  dsimp only
  repeat' split
  all_goals simp

@[simp] theorem lasting_thrSet (which : Nat) (v : Int) (s : State) : lasting (thrSet which v s) = lasting s := by
  simp [thrSet]

@[simp] theorem lasting_zltPlace (id level parent : Nat) (s : State) :
    lasting (zltPlace id level parent s) = lasting s := by simp [zltPlace]

@[simp] theorem lasting_release (scope id : Nat) (s : State) : lasting (release scope id s) = lasting s := by
  simp [release]

@[simp] theorem lasting_rampCancel (id : Nat) (s : State) : lasting (rampCancel id s) = lasting s := by
  simp [rampCancel]

@[simp] theorem lasting_mgmtEffect (code : Nat) (a : List Int) (s : State) :
    lasting (mgmtEffect code a s) = lasting s := by
  unfold mgmtEffect
  split <;> simp

@[simp] theorem lasting_mgmtAhead (s : State) : lasting (mgmtAhead s) = lasting s := by simp [mgmtAhead, lasting_foldl]

@[simp] theorem lasting_mgmtResp (code seq status : Nat) (data : List Nat) (s : State) :
    lasting (mgmtResp code seq status data s) = lasting s := by simp [mgmtResp]

@[simp] theorem lasting_mgmtRefuse (code : Nat) (s : State) : lasting (mgmtRefuse code s) = lasting s := by
  simp [mgmtRefuse]

@[simp] theorem lasting_mgmtNow (code : Nat) (a : List Int) (s : State) : lasting (mgmtNow code a s) = lasting s := by
  simp [mgmtNow]

@[simp] theorem lasting_mgmtRun (tell : Bool) (seq code : Nat) (a : List Int) (s : State) :
    lasting (mgmtRun tell seq code a s) = lasting s := by simp [mgmtRun]

@[simp] theorem lasting_mgmtDrain (n : Nat) (s : State) : lasting (mgmtDrain n s) = lasting s := by
  induction n generalizing s with
  | zero => rfl
  | succ n ih =>
    unfold mgmtDrain
    split
    · split
      · rw [ih]; simp
      · rfl
    · rfl

@[simp] theorem lasting_mgmtGap (s : State) : lasting (mgmtGap s) = lasting s := by
  unfold mgmtGap
  split <;> simp

@[simp] theorem lasting_mgmtTake (seq code : Nat) (a : List Int) (s0 : State) :
    lasting (mgmtTake seq code a s0) = lasting s0 := by simp [mgmtTake]

@[simp] theorem lasting_mgmtStopped (code seq : Nat) (s : State) : lasting (mgmtStopped code seq s) = lasting s := by
  simp [mgmtStopped]

@[simp] theorem lasting_mgmtEdgeOne (t : Nat × List Int) (s : State) : lasting (mgmtEdgeOne t s) = lasting s := by
  simp [mgmtEdgeOne]

@[simp] theorem lasting_mgmtEdge (s : State) : lasting (mgmtEdge s) = lasting s := by simp [mgmtEdge, lasting_foldl]

@[simp] theorem lasting_handLatch (c : AgentCmd) (s : State) : lasting (handLatch c s) = lasting s := by
  simp [handLatch]

@[simp] theorem lasting_writeAgentCmd (priv w : Nat) (s : State) : lasting (writeAgentCmd priv w s) = lasting s := by
  simp [writeAgentCmd]

@[simp] theorem lasting_writeTktSel (w : Nat) (s : State) : lasting (writeTktSel w s) = lasting s := by
  simp [writeTktSel]

@[simp] theorem lasting_writeClassData (w : Nat) (s : State) : lasting (writeClassData w s) = lasting s := by
  simp [writeClassData]

@[simp] theorem lasting_writeClassCtrl (w : Nat) (s : State) : lasting (writeClassCtrl w s) = lasting s := by
  simp [writeClassCtrl]

@[simp] theorem lasting_writeCoreFlags (w : Nat) (s : State) : lasting (writeCoreFlags w s) = lasting s := by
  simp [writeCoreFlags]

@[simp] theorem lasting_writeSlotInfo (w : Nat) (s : State) : lasting (writeSlotInfo w s) = lasting s := by
  simp [writeSlotInfo]

@[simp] theorem lasting_writeCtlFlags (w : Nat) (s : State) : lasting (writeCtlFlags w s) = lasting s := by
  simp [writeCtlFlags]

@[simp] theorem lasting_writeLoopState (w : Nat) (s : State) : lasting (writeLoopState w s) = lasting s := by
  simp [writeLoopState]

@[simp] theorem lasting_writeFreeze (w : Nat) (s : State) : lasting (writeFreeze w s) = lasting s := by
  simp [writeFreeze]

@[simp] theorem lasting_writeHcmd (w : Nat) (s : State) : lasting (writeHcmd w s) = lasting s := by simp [writeHcmd]

@[simp] theorem lasting_writeLow (priv off w : Nat) (s : State) : lasting (writeLow priv off w s) = lasting s := by
  unfold writeLow
  split <;> simp

theorem lasting_writeHigh {off : Nat} (w : Nat) (s : State) (h : off ≠ 0xA01C) :
    lasting (writeHigh off w s) = lasting s := by
  unfold writeHigh
  split
  case h_3 => exact absurd rfl h
  all_goals simp

/-- A write of any register but LOAD_DATA, whose word can end a store into the flash. -/
theorem lasting_regWrite {off : Nat} (priv w : Nat) (s : State) (h : off ≠ 0xA01C) :
    lasting (regWrite priv off w s) = lasting s := by
  unfold regWrite
  split
  · simp
  · split
    · simp
    · exact lasting_writeHigh w s h

@[simp] theorem lasting_hostNop (s : State) : lasting (hostNop s) = lasting s := by
  unfold hostNop
  split <;> simp

/-- R401: LOAD_DATA has no RW field, so no pair of APPLY names it. -/
theorem pairOk_ne_loadData {p : Nat × Nat} (h : pairOk p = true) : p.1 ≠ 0xA01C := by
  obtain ⟨off, w⟩ := p
  rintro rfl
  have hmask : rwMask 0xA01C = 0 := by decide
  simp [pairOk, hmask] at h

@[simp] theorem lasting_hostApply (s : State) : lasting (hostApply s) = lasting s := by
  unfold hostApply
  split
  · rfl
  · dsimp only
    split
    next hok =>
      simp only [List.all_eq_true] at hok
      obtain ⟨-, -, hpairs⟩ := hok
      simp [lasting_foldl _ _ s fun x p hp => lasting_regWrite 1 p.2 x (pairOk_ne_loadData (hpairs p hp))]
    next => simp

@[simp] theorem lasting_hostReadCut (s : State) : lasting (hostReadCut s) = lasting s := by
  unfold hostReadCut
  split <;> simp

@[simp] theorem lasting_hostStoreAll (s : State) : lasting (hostStoreAll s) = lasting s := by
  unfold hostStoreAll
  split <;> simp

@[simp] theorem lasting_hostReserved (s : State) : lasting (hostReserved s) = lasting s := by
  unfold hostReserved
  split <;> simp

@[simp] theorem lasting_hostEdge (s : State) : lasting (hostEdge s) = lasting s := by simp [hostEdge]

@[simp] theorem lasting_slotTrace (old : CoreOut) (r : Run) (s : State) : lasting (slotTrace old r s) = lasting s := by
  unfold slotTrace
  split
  · rfl
  · exact lasting_foldl _ _ _ fun x l => by simp

theorem lasting_times {f : State → State} (h : ∀ x, lasting (f x) = lasting x) (n : Nat) (s : State) :
    lasting (times f n s) = lasting s := by
  induction n generalizing s with
  | zero => rfl
  | succ n ih => rw [times, ih, h]

@[simp] theorem lasting_eccFixedN (inj : Bool) (n : Nat) (s : State) : lasting (eccFixedN inj n s) = lasting s :=
  lasting_times (lasting_eccFixed inj) n s

@[simp] theorem lasting_slotEnds (r : Run) (s : State) : lasting (slotEnds r s) = lasting s := by simp [slotEnds]

@[simp] theorem lasting_slotGoesOn (r : Run) (s : State) : lasting (slotGoesOn r s) = lasting s := by simp [slotGoesOn]

@[simp] theorem lasting_slotLost (r : Run) (s : State) : lasting (slotLost r s) = lasting s := by simp [slotLost]

@[simp] theorem lasting_slotChecked (corr : Nat) (unc : Bool) (r : Run) (go : State → State) (s : State)
    (h : ∀ x, lasting (go x) = lasting x) : lasting (slotChecked corr unc r go s) = lasting s := by
  unfold slotChecked
  dsimp only
  split <;> simp [h]

@[simp] theorem lasting_slotStops (r : Run) (s : State) : lasting (slotStops r s) = lasting s := by simp [slotStops]

@[simp] theorem lasting_overrunRest (s : State) : lasting (overrunRest s) = lasting s := by
  simp [overrunRest, lasting_foldl]

@[simp] theorem lasting_bclkEdge (out : Bool) (s : State) : lasting (bclkEdge out s) = lasting s := by simp [bclkEdge]

@[simp] theorem lasting_flagEdge (s : State) : lasting (flagEdge s) = lasting s := by simp [flagEdge]

@[simp] theorem lasting_tellEdge (o : CoreOut) (s : State) : lasting (tellEdge o s) = lasting s := by
  simp [tellEdge, lasting_foldl]

@[simp] theorem lasting_escEdge (die pkg : Bool) (s : State) : lasting (escEdge die pkg s) = lasting s := by
  simp [escEdge]

@[simp] theorem lasting_applyOut (s : State) : lasting (applyOut s) = lasting s := by simp [applyOut]

@[simp] theorem lasting_driveEdge (ran : Bool) (s : State) : lasting (driveEdge ran s) = lasting s := by
  simp [driveEdge]

@[simp] theorem lasting_heatEdge (old : Nat) (ran : Bool) (s : State) : lasting (heatEdge old ran s) = lasting s := by
  simp [heatEdge]

@[simp] theorem lasting_ziltEnergy (s : State) : lasting (ziltEnergy s) = lasting s := by simp [ziltEnergy]

@[simp] theorem lasting_packageEdge (s : State) : lasting (packageEdge s) = lasting s := by simp [packageEdge]

@[simp] theorem lasting_freezeEdge (s : State) : lasting (freezeEdge s) = lasting s := by simp [freezeEdge]

@[simp] theorem lasting_latchEdge (run : Bool) (froze : Nat) (wr : List (Nat × Nat)) (s : State) :
    lasting (latchEdge run froze wr s) = lasting s := by simp [latchEdge]

@[simp] theorem lasting_ordinalEdge (s : State) : lasting (ordinalEdge s) = lasting s := by simp [ordinalEdge]

@[simp] theorem lasting_ordinalClear (s : State) : lasting (ordinalClear s) = lasting s := by simp [ordinalClear]

@[simp] theorem lasting_overrunEdge (s : State) : lasting (overrunEdge s) = lasting s := by simp [overrunEdge]

@[simp] theorem lasting_edgeBegin (out : Bool) (dropped : Nat) (s : State) :
    lasting (edgeBegin out dropped s) = lasting s := by simp [edgeBegin]

@[simp] theorem lasting_edgeApply (ran : Bool) (s : State) : lasting (edgeApply ran s) = lasting s := by
  simp [edgeApply]

@[simp] theorem lasting_edgeEnd (wr : List (Nat × Nat)) (s : State) : lasting (edgeEnd wr s) = lasting s := by
  simp [edgeEnd]

@[simp] theorem lasting_edgeAt (c u i : Nat) (out : Bool) (dropped : Nat) (s : State) :
    lasting (edgeAt c u i out dropped s) = lasting s := by simp [edgeAt]

@[simp] theorem lasting_goLive (s : State) : lasting (goLive s) = lasting s := by simp [goLive]

@[simp] theorem lasting_edgeStep (cycles : Option Nat) (dropped : Nat) (s : State) :
    lasting (edgeStep cycles dropped s) = lasting s := by
  unfold edgeStep
  repeat' split
  all_goals simp

@[simp] theorem lasting_ccc (code : Nat) (data : List Nat) (s : State) : lasting (ccc code data s) = lasting s := by
  simp [ccc]

@[simp] theorem lasting_mctp (cmd cc : Nat) (data : List Nat) (s : State) :
    lasting (mctp cmd cc data s) = lasting s := by simp [mctp]

@[simp] theorem lasting_pldm (type cmd cc : Nat) (data : List Nat) (s : State) :
    lasting (pldm type cmd cc data s) = lasting s := by simp [pldm]

@[simp] theorem lasting_spoil (s : State) : lasting (spoil s) = lasting s := by simp [spoil]

@[simp] theorem lasting_testHold (s : State) : lasting (testHold s) = lasting s := by simp [testHold]

@[simp] theorem lasting_testLeave (s : State) : lasting (testLeave s) = lasting s := by simp [testLeave]

@[simp] theorem lasting_selectIr (n : Nat) (s : State) : lasting (selectIr n s) = lasting s := by simp [selectIr]

@[simp] theorem lasting_tapOut (data : List Nat) (s : State) : lasting (tapOut data s) = lasting s := by simp [tapOut]

/-! ### Commands that leave all of it -/

/-- What lasts in the next state that a meaning answers; `none` where it answers none. -/
def lastingNext : Host.Outcome State Fault Refusal → Option Lasting
  | .next t => some (lasting t)
  | _ => none

@[simp] theorem lastingNext_done (s : State) : lastingNext (done s) = some (lasting s) := rfl

@[simp] theorem lastingNext_next (s : State) : lastingNext (.next s) = some (lasting s) := rfl

@[simp] theorem lastingNext_ite (c : Prop) [Decidable c] (a b : Host.Outcome State Fault Refusal) :
    lastingNext (if c then a else b) = if c then lastingNext a else lastingNext b := apply_ite lastingNext c a b

@[simp] theorem lasting_i3cDo (f : State → State) (s0 : State) (h : ∀ x, lasting (f x) = lasting x) :
    lastingNext (i3cDo f s0) = some (lasting s0) := by
  unfold i3cDo
  dsimp only
  split <;> simp [h]

@[simp] theorem lasting_execDbpAlloc (src dst role payload : Nat) (s0 : State) :
    lastingNext (execDbpAlloc src dst role payload s0) = some (lasting s0) := by
  unfold execDbpAlloc
  dsimp only
  split
  · simp
  · split
    next => simp
    next s1 hsee =>
      repeat' split
      all_goals simp [lasting_termSee hsee]

@[simp] theorem lasting_execDbpRoles (src dst role payload : Nat) (s0 : State) :
    lastingNext (execDbpRoles src dst role payload s0) = some (lasting s0) := by
  unfold execDbpRoles
  dsimp only
  split
  · simp
  · split
    next => simp
    next s1 hsee => simp [lasting_termSee hsee]

@[simp] theorem lasting_done (s : State) : lastingNext (done s) = some (lasting s) := by simp [done]

@[simp] theorem lasting_execPbPublish (code : Nat) (s0 : State) :
    lastingNext (execPbPublish code s0) = some (lasting s0) := by
  unfold execPbPublish
  dsimp only
  repeat' split
  all_goals simp

@[simp] theorem lasting_execPbFind (priv code : Nat) (s0 : State) :
    lastingNext (execPbFind priv code s0) = some (lasting s0) := by simp [execPbFind]

@[simp] theorem lasting_execClear (priv : Nat) (s : State) : lastingNext (execClear priv s) = some (lasting s) := by
  simp [execClear]

@[simp] theorem lasting_execPbStore (priv : Nat) (s : State) : lastingNext (execPbStore priv s) = some (lasting s) := by
  simp [execPbStore]

@[simp] theorem lasting_execPbStoredFetch (priv : Nat) (s0 : State) :
    lastingNext (execPbStoredFetch priv s0) = some (lasting s0) := by simp [execPbStoredFetch]

@[simp] theorem lasting_execFreezeMaxExpiry (s0 : State) : lastingNext (execFreezeMaxExpiry s0) = some (lasting s0) := by
  simp [execFreezeMaxExpiry]

@[simp] theorem lasting_execRailResponse (rail frame : Nat) (sync : Bool) (s0 : State) :
    lastingNext (execRailResponse rail frame sync s0) = some (lasting s0) := by
  unfold execRailResponse
  dsimp only
  repeat' split
  all_goals simp

@[simp] theorem lasting_execTelemetryTimeout (s0 : State) :
    lastingNext (execTelemetryTimeout s0) = some (lasting s0) := by
  unfold execTelemetryTimeout
  dsimp only
  repeat' split
  all_goals simp

@[simp] theorem lasting_execActivityRecord (booth slot ctx sample window : Nat) (taps : List (Nat × Nat)) (s0 : State) :
    lastingNext (execActivityRecord booth slot ctx sample window taps s0) = some (lasting s0) := by
  unfold execActivityRecord
  dsimp only
  repeat' split
  all_goals simp

@[simp] theorem lasting_execAvsResponse (rail : Nat) (ok : Bool) (s0 : State) :
    lastingNext (execAvsResponse rail ok s0) = some (lasting s0) := by
  unfold execAvsResponse
  dsimp only
  repeat' split
  all_goals simp

@[simp] theorem lasting_execTick (refNs : Int) (epoch : Bool) (bclk phase aoclk : Nat) (s0 : State)
    (filtered : optParam Bool true) :
    lastingNext (execTick refNs epoch bclk phase aoclk s0 filtered) = some (lasting s0) := by simp [execTick]

@[simp] theorem lasting_execTickWindowClose (refNs : Int) (s0 : State) :
    lastingNext (execTickWindowClose refNs s0) = some (lasting s0) := by simp [execTickWindowClose]

@[simp] theorem lasting_execOrdinalBeat (oo : Nat) (step : Bool) (scene ctx : Nat) (s0 : State) :
    lastingNext (execOrdinalBeat oo step scene ctx s0) = some (lasting s0) := by simp [execOrdinalBeat]

@[simp] theorem lasting_execStepTimeout (s0 : State) : lastingNext (execStepTimeout s0) = some (lasting s0) := by
  simp [execStepTimeout]

@[simp] theorem lasting_execOrdinalQueueFull (s0 : State) (oo : Nat) :
    lastingNext (execOrdinalQueueFull s0 oo) = some (lasting s0) := by simp [execOrdinalQueueFull]

@[simp] theorem lasting_execOpminAdvance (s0 : State) : lastingNext (execOpminAdvance s0) = some (lasting s0) := by
  simp [execOpminAdvance]

@[simp] theorem lasting_execAoclkOutOfRange (count : Nat) (s0 : State) :
    lastingNext (execAoclkOutOfRange count s0) = some (lasting s0) := by simp [execAoclkOutOfRange]

@[simp] theorem lasting_execTrustLost (s0 : State) : lastingNext (execTrustLost s0) = some (lasting s0) := by
  simp [execTrustLost]

@[simp] theorem lasting_execTrustRegained (s0 : State) : lastingNext (execTrustRegained s0) = some (lasting s0) := by
  simp [execTrustRegained]

@[simp] theorem lasting_execUnverified (s0 : State) : lastingNext (execUnverified s0) = some (lasting s0) := by
  simp [execUnverified]

@[simp] theorem lasting_execSiteImplausible (site : Nat) (s0 : State) :
    lastingNext (execSiteImplausible site s0) = some (lasting s0) := by simp [execSiteImplausible]

@[simp] theorem lasting_execColdMajority (s0 : State) : lastingNext (execColdMajority s0) = some (lasting s0) := by
  simp [execColdMajority]

@[simp] theorem lasting_execColdMajorityClear (s0 : State) :
    lastingNext (execColdMajorityClear s0) = some (lasting s0) := by simp [execColdMajorityClear]

@[simp] theorem lasting_execHotMajorityRaise (s0 : State) :
    lastingNext (execHotMajorityRaise s0) = some (lasting s0) := by simp [execHotMajorityRaise]

@[simp] theorem lasting_execResetAdapt (priv : Nat) (s : State) :
    lastingNext (execResetAdapt priv s) = some (lasting s) := by simp [execResetAdapt]

@[simp] theorem lasting_execReadmitSite (priv site : Nat) (s : State) :
    lastingNext (execReadmitSite priv site s) = some (lasting s) := by simp [execReadmitSite]

@[simp] theorem lasting_execCue (ctx bits : Nat) (s0 : State) :
    lastingNext (execCue ctx bits s0) = some (lasting s0) := by
  unfold execCue
  dsimp only
  repeat' split
  all_goals simp

@[simp] theorem lasting_execCueExpire (index : Nat) (s0 : State) :
    lastingNext (execCueExpire index s0) = some (lasting s0) := by
  unfold execCueExpire
  dsimp only
  repeat' split
  all_goals simp

@[simp] theorem lasting_execSettleHoldEnd (dom : Nat) (s0 : State) :
    lastingNext (execSettleHoldEnd dom s0) = some (lasting s0) := by simp [execSettleHoldEnd]

@[simp] theorem lasting_execSceneDataWrite (priv : Nat) (data : Word) (s : State) :
    lastingNext (execSceneDataWrite priv data s) = some (lasting s) := by simp [execSceneDataWrite]

@[simp] theorem lasting_execHostCapWrite (priv : Nat) (data : Word) (s : State) :
    lastingNext (execHostCapWrite priv data s) = some (lasting s) := by simp [execHostCapWrite]

@[simp] theorem lasting_execHostPrefWrite (priv : Nat) (data : Word) (s : State) :
    lastingNext (execHostPrefWrite priv data s) = some (lasting s) := by simp [execHostPrefWrite]

@[simp] theorem lasting_execFfFallback (s0 : State) : lastingNext (execFfFallback s0) = some (lasting s0) := by
  simp [execFfFallback]

@[simp] theorem lasting_execFfReturn (s0 : State) : lastingNext (execFfReturn s0) = some (lasting s0) := by
  simp [execFfReturn]

@[simp] theorem lasting_execCapUnattClear (s0 : State) : lastingNext (execCapUnattClear s0) = some (lasting s0) := by
  simp [execCapUnattClear]

@[simp] theorem lasting_execSupplyEscRepeat (s0 : State) : lastingNext (execSupplyEscRepeat s0) = some (lasting s0) := by
  simp [execSupplyEscRepeat]

@[simp] theorem lasting_execRampStep (s0 : State) : lastingNext (execRampStep s0) = some (lasting s0) := by
  simp [execRampStep]

@[simp] theorem lasting_execDroopCrossing (det supply ns : Nat) (s0 : State) :
    lastingNext (execDroopCrossing det supply ns s0) = some (lasting s0) := by
  unfold execDroopCrossing
  dsimp only
  repeat' split
  all_goals simp

@[simp] theorem lasting_execStretchHoldExpiry (region : Nat) (s0 : State) :
    lastingNext (execStretchHoldExpiry region s0) = some (lasting s0) := by
  unfold execStretchHoldExpiry
  dsimp only
  repeat' split
  all_goals simp

@[simp] theorem lasting_execHoldMaxExpiry (region : Nat) (s0 : State) :
    lastingNext (execHoldMaxExpiry region s0) = some (lasting s0) := by
  unfold execHoldMaxExpiry
  dsimp only
  repeat' split
  all_goals simp

@[simp] theorem lasting_execRateWindowEnd (s0 : State) : lastingNext (execRateWindowEnd s0) = some (lasting s0) := by
  unfold execRateWindowEnd
  dsimp only
  repeat' split
  all_goals simp

@[simp] theorem lasting_execAgemonRead (codes : List (Nat × Nat × Bool)) (s0 : State) :
    lastingNext (execAgemonRead codes s0) = some (lasting s0) := by simp [execAgemonRead, lasting_foldl]

@[simp] theorem lasting_execTrimInstant (s0 : State) : lastingNext (execTrimInstant s0) = some (lasting s0) := by
  unfold execTrimInstant
  dsimp only
  repeat' split
  all_goals simp

@[simp] theorem lasting_execStore (priv : Nat) (s : State) : lastingNext (execStore priv s) = some (lasting s) := by
  simp [execStore]

@[simp] theorem lasting_execTkReq (agent holder cls cost : Nat) (ret : Bool) (ecc : Nat) (s0 : State) :
    lastingNext (execTkReq agent holder cls cost ret ecc s0) = some (lasting s0) := by
  unfold execTkReq
  dsimp only
  repeat' split
  all_goals simp

@[simp] theorem lasting_execTkRet (agent holder amount : Nat) (s0 : State) :
    lastingNext (execTkRet agent holder amount s0) = some (lasting s0) := by
  unfold execTkRet
  dsimp only
  repeat' split
  all_goals simp

@[simp] theorem lasting_execGrantDecision (agent ps : Nat) (busy : Bool) (ctx : Nat) (taps : List (Nat × Nat))
    (req : Nat) (s0 : State) (ecc : optParam (List (Nat × Nat)) []) :
    lastingNext (execGrantDecision agent ps busy ctx taps req s0 ecc) = some (lasting s0) := by simp [execGrantDecision]

@[simp] theorem lasting_execReserveAge (agent holder : Nat) (s0 : State) :
    lastingNext (execReserveAge agent holder s0) = some (lasting s0) := by simp [execReserveAge]

@[simp] theorem lasting_execDeschedHint (agent holder : Nat) (s0 : State) :
    lastingNext (execDeschedHint agent holder s0) = some (lasting s0) := by simp [execDeschedHint]

@[simp] theorem lasting_execForcedExpiry (agent holder : Nat) (s0 : State) :
    lastingNext (execForcedExpiry agent holder s0) = some (lasting s0) := by simp [execForcedExpiry]

@[simp] theorem lasting_execEngRstAssert (agent : Nat) (s0 : State) :
    lastingNext (execEngRstAssert agent s0) = some (lasting s0) := by simp [execEngRstAssert]

@[simp] theorem lasting_execEngRstRelease (agent : Nat) (s0 : State) :
    lastingNext (execEngRstRelease agent s0) = some (lasting s0) := by simp [execEngRstRelease]

@[simp] theorem lasting_execGiveWatchdogExpiry (agent : Nat) (s0 : State) :
    lastingNext (execGiveWatchdogExpiry agent s0) = some (lasting s0) := by simp [execGiveWatchdogExpiry]

@[simp] theorem lasting_execRefill (s0 : State) : lastingNext (execRefill s0) = some (lasting s0) := by
  unfold execRefill
  dsimp only
  repeat' split
  all_goals simp

@[simp] theorem lasting_execRefillMessage (booth late : Nat) (s0 : State) :
    lastingNext (execRefillMessage booth late s0) = some (lasting s0) := by
  unfold execRefillMessage
  dsimp only
  repeat' split
  all_goals simp

@[simp] theorem lasting_execGive (agent late : Nat) (s0 : State) :
    lastingNext (execGive agent late s0) = some (lasting s0) := by
  unfold execGive
  dsimp only
  repeat' split
  all_goals simp

@[simp] theorem lasting_execAgentReport (agent late : Nat) (s0 : State) :
    lastingNext (execAgentReport agent late s0) = some (lasting s0) := by
  unfold execAgentReport
  dsimp only
  repeat' split
  all_goals simp

@[simp] theorem lasting_execBoothReportSummary (booth late : Nat) (s0 : State) :
    lastingNext (execBoothReportSummary booth late s0) = some (lasting s0) := by
  unfold execBoothReportSummary
  dsimp only
  repeat' split
  all_goals simp [lasting_foldl]

@[simp] theorem lasting_execBoothReportTimeout (booth : Nat) (s0 : State) :
    lastingNext (execBoothReportTimeout booth s0) = some (lasting s0) := by simp [execBoothReportTimeout]

@[simp] theorem lasting_execResync (agent : Nat) (s0 : State) :
    lastingNext (execResync agent s0) = some (lasting s0) := by simp [execResync]

@[simp] theorem lasting_execThermalSiteRead (site : Nat) (raw : Int) (parityOk : Bool) (s0 : State) :
    lastingNext (execThermalSiteRead site raw parityOk s0) = some (lasting s0) := by
  unfold execThermalSiteRead
  dsimp only
  repeat' split
  all_goals simp

@[simp] theorem lasting_execSiteTimeout (site : Nat) (s0 : State) :
    lastingNext (execSiteTimeout site s0) = some (lasting s0) := by simp [execSiteTimeout]

@[simp] theorem lasting_execThrAck (s0 : State) : lastingNext (execThrAck s0) = some (lasting s0) := by
  simp [execThrAck]

@[simp] theorem lasting_execGraceExpiry (s0 : State) : lastingNext (execGraceExpiry s0) = some (lasting s0) := by
  unfold execGraceExpiry
  dsimp only
  repeat' split
  all_goals simp

@[simp] theorem lasting_execCoolHbEdge (ns : Nat) (s0 : State) :
    lastingNext (execCoolHbEdge ns s0) = some (lasting s0) := by simp [execCoolHbEdge]

@[simp] theorem lasting_execCoolHbExpiry (s0 : State) : lastingNext (execCoolHbExpiry s0) = some (lasting s0) := by
  simp [execCoolHbExpiry]

@[simp] theorem lasting_execCoolFaultClose (s0 : State) : lastingNext (execCoolFaultClose s0) = some (lasting s0) := by
  unfold execCoolFaultClose
  dsimp only
  repeat' split
  all_goals simp

@[simp] theorem lasting_execLeakState (p n : Bool) (s0 : State) :
    lastingNext (execLeakState p n s0) = some (lasting s0) := by simp [execLeakState]

@[simp] theorem lasting_execLeakFiltExpiry (s0 : State) : lastingNext (execLeakFiltExpiry s0) = some (lasting s0) := by
  simp [execLeakFiltExpiry]

@[simp] theorem lasting_execRailOffRepeat (s0 : State) : lastingNext (execRailOffRepeat s0) = some (lasting s0) := by
  simp [execRailOffRepeat]

@[simp] theorem lasting_execPorstNRelease (s0 : State) : lastingNext (execPorstNRelease s0) = some (lasting s0) := by
  simp [execPorstNRelease]

@[simp] theorem lasting_execHrstNRelease (s0 : State) : lastingNext (execHrstNRelease s0) = some (lasting s0) := by
  simp [execHrstNRelease]

@[simp] theorem lasting_execBlockSupplyReturn (s0 : State) :
    lastingNext (execBlockSupplyReturn s0) = some (lasting s0) := by
  unfold execBlockSupplyReturn
  dsimp only
  repeat' split
  all_goals simp

@[simp] theorem lasting_execCurtainRelease (s0 : State) : lastingNext (execCurtainRelease s0) = some (lasting s0) := by
  unfold execCurtainRelease
  dsimp only
  repeat' split
  all_goals simp

@[simp] theorem lasting_execMemInit (s0 : State) : lastingNext (execMemInit s0) = some (lasting s0) := by
  simp [execMemInit, lasting_foldl]

@[simp] theorem lasting_execPingRepeat (s0 : State) : lastingNext (execPingRepeat s0) = some (lasting s0) := by
  simp [execPingRepeat, lasting_foldl]

@[simp] theorem lasting_execDiscover (valid : Bool) (rev density : Nat) (erase4k quad : Bool) (s0 : State) :
    lastingNext (execDiscover valid rev density erase4k quad s0) = some (lasting s0) := by simp [execDiscover]

@[simp] theorem lasting_execRead (s0 : State) : lastingNext (execRead s0) = some (lasting s0) := by
  unfold execRead
  dsimp only
  repeat' split
  all_goals simp

@[simp] theorem lasting_execKeyWaitAttn (s0 : State) : lastingNext (execKeyWaitAttn s0) = some (lasting s0) := by
  simp [execKeyWaitAttn]

@[simp] theorem lasting_execVerify (s0 : State) : lastingNext (execVerify s0) = some (lasting s0) := by
  unfold execVerify
  dsimp only
  repeat' split
  all_goals simp

@[simp] theorem lasting_execCheck (s0 : State) : lastingNext (execCheck s0) = some (lasting s0) := by
  unfold execCheck
  dsimp only
  repeat' split
  all_goals simp

@[simp] theorem lasting_execClose (priv : Nat) (same : List Nat) (s0 : State) :
    lastingNext (execClose priv same s0) = some (lasting s0) := by simp [execClose]

@[simp] theorem lasting_execRecover (priv : Nat) (s : State) : lastingNext (execRecover priv s) = some (lasting s) := by
  simp [execRecover]

@[simp] theorem lasting_execErrPairMismatch (s0 : State) : lastingNext (execErrPairMismatch s0) = some (lasting s0) := by
  simp [execErrPairMismatch]

@[simp] theorem lasting_execBclkAbsent (s0 : State) : lastingNext (execBclkAbsent s0) = some (lasting s0) := by
  simp [execBclkAbsent]

@[simp] theorem lasting_execBclkReturn (s0 : State) : lastingNext (execBclkReturn s0) = some (lasting s0) := by
  simp [execBclkReturn]

@[simp] theorem lasting_execEn (priv : Nat) (on : Bool) (s : State) :
    lastingNext (execEn priv on s) = some (lasting s) := by simp [execEn]

@[simp] theorem lasting_execCurtArm (priv : Nat) (s0 : State) :
    lastingNext (execCurtArm priv s0) = some (lasting s0) := by simp [execCurtArm]

@[simp] theorem lasting_execHostIdle (s0 : State) : lastingNext (execHostIdle s0) = some (lasting s0) := by
  simp [execHostIdle]

@[simp] theorem lasting_execInjectionGo (priv : Nat) (s : State) :
    lastingNext (execInjectionGo priv s) = some (lasting s) := by simp [execInjectionGo]

@[simp] theorem lasting_execDbpReport (src _dst _role payload : Nat) (s0 : State) :
    lastingNext (execDbpReport src _dst _role payload s0) = some (lasting s0) := by simp [execDbpReport]

@[simp] theorem lasting_execDbpJoin (src _dst _role payload : Nat) (s0 : State) :
    lastingNext (execDbpJoin src _dst _role payload s0) = some (lasting s0) := by simp [execDbpJoin]

@[simp] theorem lasting_execDbpSlack (src _dst _role payload : Nat) (s0 : State) :
    lastingNext (execDbpSlack src _dst _role payload s0) = some (lasting s0) := by simp [execDbpSlack]

@[simp] theorem lasting_execDbpLeave (src _dst _role payload : Nat) (s0 : State) :
    lastingNext (execDbpLeave src _dst _role payload s0) = some (lasting s0) := by simp [execDbpLeave]

@[simp] theorem lasting_execDbpBad (s0 : State) : lastingNext (execDbpBad s0) = some (lasting s0) := by
  simp [execDbpBad]

@[simp] theorem lasting_execJoinPhaseEnd (s0 : State) : lastingNext (execJoinPhaseEnd s0) = some (lasting s0) := by
  simp [execJoinPhaseEnd]

@[simp] theorem lasting_execTakeover (s0 : State) : lastingNext (execTakeover s0) = some (lasting s0) := by
  simp [execTakeover]

@[simp] theorem lasting_execMemberSilence (s0 : State) : lastingNext (execMemberSilence s0) = some (lasting s0) := by
  simp [execMemberSilence]

@[simp] theorem lasting_execDieSilence (die : Nat) (s0 : State) :
    lastingNext (execDieSilence die s0) = some (lasting s0) := by simp [execDieSilence]

@[simp] theorem lasting_execDonorTimeout (die : Nat) (s0 : State) :
    lastingNext (execDonorTimeout die s0) = some (lasting s0) := by
  unfold execDonorTimeout
  dsimp only
  repeat' split
  all_goals simp

@[simp] theorem lasting_execPkgEscRepeat (s0 : State) : lastingNext (execPkgEscRepeat s0) = some (lasting s0) := by
  simp [execPkgEscRepeat]

@[simp] theorem lasting_execZltReport (src dst seq term : Nat) (body : List Nat) (s0 : State) :
    lastingNext (execZltReport src dst seq term body s0) = some (lasting s0) := by
  unfold execZltReport
  dsimp only
  repeat' split
  all_goals simp

@[simp] theorem lasting_execZltAlloc (src dst seq term : Nat) (body : List Nat) (s0 : State) :
    lastingNext (execZltAlloc src dst seq term body s0) = some (lasting s0) := by simp [execZltAlloc]

@[simp] theorem lasting_execZltJoin (src dst seq term : Nat) (body : List Nat) (s0 : State) :
    lastingNext (execZltJoin src dst seq term body s0) = some (lasting s0) := by simp [execZltJoin]

@[simp] theorem lasting_execZltLeave (src dst seq term : Nat) (body : List Nat) (s0 : State) :
    lastingNext (execZltLeave src dst seq term body s0) = some (lasting s0) := by
  unfold execZltLeave
  dsimp only
  repeat' split
  all_goals simp

@[simp] theorem lasting_execZltLeaveAck (src dst _seq _term : Nat) (_body : List Nat) (s0 : State) :
    lastingNext (execZltLeaveAck src dst _seq _term _body s0) = some (lasting s0) := by simp [execZltLeaveAck]

@[simp] theorem lasting_execZltBad (s0 : State) (crc : optParam Bool true) :
    lastingNext (execZltBad s0 crc) = some (lasting s0) := by simp [execZltBad]

@[simp] theorem lasting_execFmpTxTimeout (s0 : State) : lastingNext (execFmpTxTimeout s0) = some (lasting s0) := by
  simp [execFmpTxTimeout]

@[simp] theorem lasting_execParentSilence (s0 : State) : lastingNext (execParentSilence s0) = some (lasting s0) := by
  simp [execParentSilence]

@[simp] theorem lasting_execChildSilence (package : Nat) (s0 : State) :
    lastingNext (execChildSilence package s0) = some (lasting s0) := by
  unfold execChildSilence
  dsimp only
  repeat' split
  all_goals simp

@[simp] theorem lasting_execZilterInterval (s0 : State) : lastingNext (execZilterInterval s0) = some (lasting s0) := by
  unfold execZilterInterval
  dsimp only
  repeat' split
  all_goals simp

@[simp] theorem lasting_execLoRegisterRead (priv ctx offset : Nat) (s0 : State) :
    lastingNext (execLoRegisterRead priv ctx offset s0) = some (lasting s0) := by simp [execLoRegisterRead]

@[simp] theorem lasting_execObsOpLatch (priv : Nat) (s : State) :
    lastingNext (execObsOpLatch priv s) = some (lasting s) := by simp [execObsOpLatch]

@[simp] theorem lasting_execArm (priv : Nat) (s0 : State) : lastingNext (execArm priv s0) = some (lasting s0) := by
  simp [execArm]

@[simp] theorem lasting_execStop (priv : Nat) (s0 : State) : lastingNext (execStop priv s0) = some (lasting s0) := by
  simp [execStop]

@[simp] theorem lasting_execSnapIn (s0 : State) : lastingNext (execSnapIn s0) = some (lasting s0) := by
  simp [execSnapIn]

@[simp] theorem lasting_execSnapArm (priv : Nat) (s0 : State) :
    lastingNext (execSnapArm priv s0) = some (lasting s0) := by simp [execSnapArm]

@[simp] theorem lasting_execCancel (priv : Nat) (s0 : State) : lastingNext (execCancel priv s0) = some (lasting s0) := by
  simp [execCancel]

@[simp] theorem lasting_execSnapshotEdge (s0 : State) : lastingNext (execSnapshotEdge s0) = some (lasting s0) := by
  unfold execSnapshotEdge
  dsimp only
  repeat' split
  all_goals simp

@[simp] theorem lasting_execSnapDrainDone (s0 : State) : lastingNext (execSnapDrainDone s0) = some (lasting s0) := by
  unfold execSnapDrainDone
  dsimp only
  repeat' split
  all_goals simp

@[simp] theorem lasting_loaderRow (op priv : Nat) (s : State) :
    lastingNext (loaderRow op priv s) = some (lasting s) := by simp [loaderRow]

@[simp] theorem lasting_execLoad (priv : Nat) (s : State) : lastingNext (execLoad priv s) = some (lasting s) := by
  simp [execLoad]

@[simp] theorem lasting_execProgram (priv : Nat) (s : State) : lastingNext (execProgram priv s) = some (lasting s) := by
  simp [execProgram]

@[simp] theorem lasting_execProgramCal (priv : Nat) (s : State) :
    lastingNext (execProgramCal priv s) = some (lasting s) := by simp [execProgramCal]

@[simp] theorem lasting_execRestart (priv : Nat) (s : State) : lastingNext (execRestart priv s) = some (lasting s) := by
  simp [execRestart]

@[simp] theorem lasting_execRelease (priv : Nat) (s : State) : lastingNext (execRelease priv s) = some (lasting s) := by
  simp [execRelease]

@[simp] theorem lasting_mgmtSeq (code seq : Nat) (a : List Int) (s0 : State) :
    lastingNext (mgmtSeq code seq a s0) = some (lasting s0) := by simp [mgmtSeq]

@[simp] theorem lasting_execSetTickCount (seq count : Nat) (s : State) :
    lastingNext (execSetTickCount seq count s) = some (lasting s) := by simp [execSetTickCount]

@[simp] theorem lasting_execSetLimit (seq scope window value : Nat) (s : State) :
    lastingNext (execSetLimit seq scope window value s) = some (lasting s) := by simp [execSetLimit]

@[simp] theorem lasting_execSetThermalThreshold (seq which : Nat) (value : Int) (s : State) :
    lastingNext (execSetThermalThreshold seq which value s) = some (lasting s) := by simp [execSetThermalThreshold]

@[simp] theorem lasting_execSetThrottleLevel (seq level : Nat) (s : State) :
    lastingNext (execSetThrottleLevel seq level s) = some (lasting s) := by simp [execSetThrottleLevel]

@[simp] theorem lasting_execSetAuthority (seq value : Nat) (s : State) :
    lastingNext (execSetAuthority seq value s) = some (lasting s) := by simp [execSetAuthority]

@[simp] theorem lasting_execSetAllowedModes (seq mask : Nat) (s : State) :
    lastingNext (execSetAllowedModes seq mask s) = some (lasting s) := by simp [execSetAllowedModes]

@[simp] theorem lasting_execSetDieSlew (seq value : Nat) (s : State) :
    lastingNext (execSetDieSlew seq value s) = some (lasting s) := by simp [execSetDieSlew]

@[simp] theorem lasting_execSetHoldoverPercent (seq value : Nat) (s : State) :
    lastingNext (execSetHoldoverPercent seq value s) = some (lasting s) := by simp [execSetHoldoverPercent]

@[simp] theorem lasting_execStartRamp (seq rampId c1 t0 d : Nat) (s : State) :
    lastingNext (execStartRamp seq rampId c1 t0 d s) = some (lasting s) := by simp [execStartRamp]

@[simp] theorem lasting_execCancelRamp (seq rampId : Nat) (s : State) :
    lastingNext (execCancelRamp seq rampId s) = some (lasting s) := by simp [execCancelRamp]

@[simp] theorem lasting_execSetZilterPosition (seq package level parent : Nat) (s : State) :
    lastingNext (execSetZilterPosition seq package level parent s) = some (lasting s) := by simp [execSetZilterPosition]

@[simp] theorem lasting_execSetFleetBudget (seq budget : Nat) (s : State) :
    lastingNext (execSetFleetBudget seq budget s) = some (lasting s) := by simp [execSetFleetBudget]

@[simp] theorem lasting_execOrderlyDeparture (seq scope : Nat) (s : State) :
    lastingNext (execOrderlyDeparture seq scope s) = some (lasting s) := by simp [execOrderlyDeparture]

@[simp] theorem lasting_execDeparted (seq scope id : Nat) (s : State) :
    lastingNext (execDeparted seq scope id s) = some (lasting s) := by simp [execDeparted]

@[simp] theorem lasting_execScheduleSnapshot (seq tick : Nat) (freeze : Bool) (s : State) :
    lastingNext (execScheduleSnapshot seq tick freeze s) = some (lasting s) := by simp [execScheduleSnapshot]

@[simp] theorem lasting_execOrderlyShutdown (seq : Nat) (s : State) :
    lastingNext (execOrderlyShutdown seq s) = some (lasting s) := by simp [execOrderlyShutdown]

@[simp] theorem lasting_execManagementHeartbeat (seq : Nat) (s0 : State) :
    lastingNext (execManagementHeartbeat seq s0) = some (lasting s0) := by simp [execManagementHeartbeat]

@[simp] theorem lasting_execGetSequenceState (seq : Nat) (s0 : State) :
    lastingNext (execGetSequenceState seq s0) = some (lasting s0) := by simp [execGetSequenceState]

@[simp] theorem lasting_execGetStatus (seq : Nat) (s0 : State) :
    lastingNext (execGetStatus seq s0) = some (lasting s0) := by simp [execGetStatus]

@[simp] theorem lasting_execGetRegister (seq offset : Nat) (s0 : State) :
    lastingNext (execGetRegister seq offset s0) = some (lasting s0) := by simp [execGetRegister]

@[simp] theorem lasting_execReportCoolantTemperature (seq : Nat) (temp : Int) (s0 : State) :
    lastingNext (execReportCoolantTemperature seq temp s0) = some (lasting s0) := by simp [execReportCoolantTemperature]

@[simp] theorem lasting_execUnknownCommand (code seq : Nat) (wrongLength : Bool) (s0 : State) :
    lastingNext (execUnknownCommand code seq wrongLength s0) = some (lasting s0) := by simp [execUnknownCommand]

@[simp] theorem lasting_execMgmtGapTimeout (s0 : State) : lastingNext (execMgmtGapTimeout s0) = some (lasting s0) := by
  simp [execMgmtGapTimeout]

@[simp] theorem lasting_execHeartbeatLost (s0 : State) : lastingNext (execHeartbeatLost s0) = some (lasting s0) := by
  simp [execHeartbeatLost]

@[simp] theorem lasting_execOrphan (s0 : State) : lastingNext (execOrphan s0) = some (lasting s0) := by
  simp [execOrphan]

@[simp] theorem lasting_handOp (op priv agent holder count : Nat) (s0 : State) :
    lastingNext (handOp op priv agent holder count s0) = some (lasting s0) := by simp [handOp]

@[simp] theorem lasting_execNoneOp (priv agent : Nat) (s : State) :
    lastingNext (execNoneOp priv agent s) = some (lasting s) := by simp [execNoneOp]

@[simp] theorem lasting_execHold (priv agent : Nat) (s : State) :
    lastingNext (execHold priv agent s) = some (lasting s) := by simp [execHold]

@[simp] theorem lasting_execUnhold (priv agent : Nat) (s : State) :
    lastingNext (execUnhold priv agent s) = some (lasting s) := by simp [execUnhold]

@[simp] theorem lasting_execAddPool (priv agent count : Nat) (s : State) :
    lastingNext (execAddPool priv agent count s) = some (lasting s) := by simp [execAddPool]

@[simp] theorem lasting_execDiscardPool (priv agent count : Nat) (s : State) :
    lastingNext (execDiscardPool priv agent count s) = some (lasting s) := by simp [execDiscardPool]

@[simp] theorem lasting_execGrantHolder (priv agent holder : Nat) (s : State) :
    lastingNext (execGrantHolder priv agent holder s) = some (lasting s) := by simp [execGrantHolder]

@[simp] theorem lasting_execExpireHolder (priv agent holder : Nat) (s : State) :
    lastingNext (execExpireHolder priv agent holder s) = some (lasting s) := by simp [execExpireHolder]

@[simp] theorem lasting_execClearHolder (priv agent holder : Nat) (s : State) :
    lastingNext (execClearHolder priv agent holder s) = some (lasting s) := by simp [execClearHolder]

@[simp] theorem lasting_execRestore (priv agent : Nat) (s : State) :
    lastingNext (execRestore priv agent s) = some (lasting s) := by simp [execRestore]

@[simp] theorem lasting_execForceBypass (priv agent : Nat) (s : State) :
    lastingNext (execForceBypass priv agent s) = some (lasting s) := by simp [execForceBypass]

@[simp] theorem lasting_execTktSelLatch (priv : Nat) (data : Word) (s0 : State) :
    lastingNext (execTktSelLatch priv data s0) = some (lasting s0) := by simp [execTktSelLatch]

@[simp] theorem lasting_execTktClassSwap (priv : Nat) (s0 : State) :
    lastingNext (execTktClassSwap priv s0) = some (lasting s0) := by simp [execTktClassSwap]

@[simp] theorem lasting_execNop (s : State) : lastingNext (execNop s) = some (lasting s) := by simp [execNop]

@[simp] theorem lasting_execApply (s : State) : lastingNext (execApply s) = some (lasting s) := by simp [execApply]

@[simp] theorem lasting_execReadCut (s : State) : lastingNext (execReadCut s) = some (lasting s) := by
  simp [execReadCut]

@[simp] theorem lasting_execStoreAll (s : State) : lastingNext (execStoreAll s) = some (lasting s) := by
  simp [execStoreAll]

@[simp] theorem lasting_execSlotRun (slot : Nat) (steps : Option Nat) (s0 : State) (corr : Nat) (unc : Bool) :
    lastingNext (execSlotRun slot steps s0 corr unc) = some (lasting s0) := by
  unfold execSlotRun
  dsimp only
  repeat' split
  all_goals simp

@[simp] theorem lasting_execOverrun (slot n : Nat) (s0 : State) (corr : Nat) (unc : Bool) :
    lastingNext (execOverrun slot n s0 corr unc) = some (lasting s0) := by simp [execOverrun]

@[simp] theorem lasting_execSampleEdge (cycles dropped : Nat) (s : State) :
    lastingNext (execSampleEdge cycles dropped s) = some (lasting s) := by simp [execSampleEdge]

@[simp] theorem lasting_execLive (s0 : State) : lastingNext (execLive s0) = some (lasting s0) := by simp [execLive]

@[simp] theorem lasting_execEntdaa (address : Nat) (s : State) :
    lastingNext (execEntdaa address s) = some (lasting s) := by simp [execEntdaa]

@[simp] theorem lasting_execSetdasa (static address : Nat) (s : State) :
    lastingNext (execSetdasa static address s) = some (lasting s) := by simp [execSetdasa]

@[simp] theorem lasting_execRstdaa (s : State) : lastingNext (execRstdaa s) = some (lasting s) := by simp [execRstdaa]

@[simp] theorem lasting_execEnec (mask : Nat) (s : State) : lastingNext (execEnec mask s) = some (lasting s) := by
  simp [execEnec]

@[simp] theorem lasting_execDisec (mask : Nat) (s : State) : lastingNext (execDisec mask s) = some (lasting s) := by
  simp [execDisec]

@[simp] theorem lasting_execGetPid (s : State) : lastingNext (execGetPid s) = some (lasting s) := by simp [execGetPid]

@[simp] theorem lasting_execGetBcr (s : State) : lastingNext (execGetBcr s) = some (lasting s) := by simp [execGetBcr]

@[simp] theorem lasting_execGetDcr (s : State) : lastingNext (execGetDcr s) = some (lasting s) := by simp [execGetDcr]

@[simp] theorem lasting_execI3cGetStatus (s : State) : lastingNext (execI3cGetStatus s) = some (lasting s) := by
  simp [execI3cGetStatus]

@[simp] theorem lasting_execSetMwl (length : Nat) (s : State) :
    lastingNext (execSetMwl length s) = some (lasting s) := by simp [execSetMwl]

@[simp] theorem lasting_execGetMwl (s : State) : lastingNext (execGetMwl s) = some (lasting s) := by simp [execGetMwl]

@[simp] theorem lasting_execSetMrl (length : Nat) (s : State) :
    lastingNext (execSetMrl length s) = some (lasting s) := by simp [execSetMrl]

@[simp] theorem lasting_execGetMrl (s : State) : lastingNext (execGetMrl s) = some (lasting s) := by simp [execGetMrl]

@[simp] theorem lasting_execRstact (s : State) : lastingNext (execRstact s) = some (lasting s) := by simp [execRstact]

@[simp] theorem lasting_execSetEndpointId (eid : Nat) (s : State) :
    lastingNext (execSetEndpointId eid s) = some (lasting s) := by simp [execSetEndpointId]

@[simp] theorem lasting_execGetEndpointId (s : State) : lastingNext (execGetEndpointId s) = some (lasting s) := by
  simp [execGetEndpointId]

@[simp] theorem lasting_execGetEndpointUuid (s : State) : lastingNext (execGetEndpointUuid s) = some (lasting s) := by
  simp [execGetEndpointUuid]

@[simp] theorem lasting_execGetMctpVersionSupport (type : Nat) (s : State) :
    lastingNext (execGetMctpVersionSupport type s) = some (lasting s) := by simp [execGetMctpVersionSupport]

@[simp] theorem lasting_execGetMessageTypeSupport (s : State) :
    lastingNext (execGetMessageTypeSupport s) = some (lasting s) := by simp [execGetMessageTypeSupport]

@[simp] theorem lasting_execGetVendorDefinedMessageSupport (selector : Nat) (s : State) :
    lastingNext (execGetVendorDefinedMessageSupport selector s) = some (lasting s) := by
  simp [execGetVendorDefinedMessageSupport]

@[simp] theorem lasting_execMctpReassemblyTimeout (s : State) :
    lastingNext (execMctpReassemblyTimeout s) = some (lasting s) := by simp [execMctpReassemblyTimeout]

@[simp] theorem lasting_execGetTid (s : State) : lastingNext (execGetTid s) = some (lasting s) := by simp [execGetTid]

@[simp] theorem lasting_execGetPldmVersion (type : Nat) (s : State) :
    lastingNext (execGetPldmVersion type s) = some (lasting s) := by simp [execGetPldmVersion]

@[simp] theorem lasting_execGetPldmTypes (s : State) : lastingNext (execGetPldmTypes s) = some (lasting s) := by
  simp [execGetPldmTypes]

@[simp] theorem lasting_execGetPldmCommands (type : Nat) (s : State) :
    lastingNext (execGetPldmCommands type s) = some (lasting s) := by simp [execGetPldmCommands]

@[simp] theorem lasting_execGetSensorReading (sensor : Nat) (s : State) :
    lastingNext (execGetSensorReading sensor s) = some (lasting s) := by
  refine lasting_i3cDo _ s fun x => ?_
  split
  · simp
  · split <;> simp

@[simp] theorem lasting_execGetStateSensorReadings (sensor : Nat) (s : State) :
    lastingNext (execGetStateSensorReadings sensor s) = some (lasting s) := by simp [execGetStateSensorReadings]

@[simp] theorem lasting_execGetPdrRepositoryInfo (s : State) :
    lastingNext (execGetPdrRepositoryInfo s) = some (lasting s) := by simp [execGetPdrRepositoryInfo]

@[simp] theorem lasting_execGetPdr (record : Nat) (s : State) :
    lastingNext (execGetPdr record s) = some (lasting s) := by simp [execGetPdr]

@[simp] theorem lasting_execUnsupportedPldmCmd (type cmd : Nat) (s : State) :
    lastingNext (execUnsupportedPldmCmd type cmd s) = some (lasting s) := by simp [execUnsupportedPldmCmd]

@[simp] theorem lasting_execTapIdcode (s0 : State) : lastingNext (execTapIdcode s0) = some (lasting s0) := by
  simp [execTapIdcode]

@[simp] theorem lasting_execSamplePreload (s0 : State) : lastingNext (execSamplePreload s0) = some (lasting s0) := by
  simp [execSamplePreload]

@[simp] theorem lasting_execTapBypass (s0 : State) : lastingNext (execTapBypass s0) = some (lasting s0) := by
  simp [execTapBypass]

@[simp] theorem lasting_execMbistRun (s0 : State) : lastingNext (execMbistRun s0) = some (lasting s0) := by
  simp [execMbistRun]

@[simp] theorem lasting_execMbistDone (result : Word) (s0 : State) :
    lastingNext (execMbistDone result s0) = some (lasting s0) := by
  unfold execMbistDone
  dsimp only
  repeat' split
  all_goals simp

@[simp] theorem lasting_execMbistResult (s0 : State) : lastingNext (execMbistResult s0) = some (lasting s0) := by
  simp [execMbistResult]

@[simp] theorem lasting_execScanBlock (s0 : State) : lastingNext (execScanBlock s0) = some (lasting s0) := by
  simp [execScanBlock]

@[simp] theorem lasting_execParamRead (s0 : State) : lastingNext (execParamRead s0) = some (lasting s0) := by
  simp [execParamRead]

@[simp] theorem lasting_execAoMirror (s0 : State) : lastingNext (execAoMirror s0) = some (lasting s0) := by
  simp [execAoMirror]

/-! ### Operations on the flash and the Curtain -/

/-- What every command keeps but the removal of the always-on supply, which ends a Lockout. -/
structure Lasts (s t : State) : Prop where
  par : t.par = s.par
  pending : t.pending = s.pending
  canonical : s.canonical → t.canonical
  lockout : s.curt.lockout = true → t.curt.lockout = true

theorem Lasts.of_eq {s t : State} (h : lasting t = lasting s) : Lasts s t := by
  simp only [lasting, Prod.mk.injEq] at h
  obtain ⟨hpar, hpending, hflash, hlock⟩ := h
  exact ⟨hpar, hpending, (congrArg (twf 0xFF) hflash).trans, hlock.trans⟩

theorem Lasts.refl (s : State) : Lasts s s := .of_eq rfl

theorem Lasts.trans {s t u : State} (h : Lasts s t) (k : Lasts t u) : Lasts s u :=
  ⟨k.par.trans h.par, k.pending.trans h.pending, k.canonical ∘ h.canonical, k.lockout ∘ h.lockout⟩

/-- An operation that leaves all of it, after one that keeps it. -/
theorem Lasts.of_eq_right {s t u : State} (h : Lasts s t) (k : lasting u = lasting t) : Lasts s u := h.trans (.of_eq k)

/-- A write of the flash alone. -/
theorem Lasts.of_flash {s t : State} {f : Tab Nat} (h : lasting t = (s.par, s.pending, f, s.curt.lockout))
    (hf : twf 0xFF s.flash = true → twf 0xFF f = true) : Lasts s t := by
  simp only [lasting, Prod.mk.injEq] at h
  obtain ⟨hpar, hpending, rfl, hlock⟩ := h
  exact ⟨hpar, hpending, hf, hlock.trans⟩

theorem twf_bookPlace (s : State) (ws : List Nat) (h : s.canonical) : twf 0xFF (bookPlace s ws) = true :=
  twf_flashProgram _ _ _ (twf_flashProgram _ _ _ (twf_flashProgram _ _ _ (twf_flashErase _ _ _ (twf_flashErase _ _ _ h))))

theorem twf_loaderPlace (back : List Nat) (s : State) (h : s.canonical) : twf 0xFF (loaderPlace back s) = true := by
  unfold loaderPlace
  dsimp only
  split
  · exact twf_flashProgram _ _ _ (twf_flashWrite _ _ _ _ (twf_flashErase _ _ _ h))
  · exact twf_flashWrite _ _ _ _ h

theorem lasts_bookEnd (error : Bool) (back img : List Nat) (s : State) : Lasts s (bookEnd error back img s) :=
  .of_flash (f := bookPlace s back) (by simp [bookEnd]) (twf_bookPlace s back)

theorem lasts_bookTorn (s : State) : Lasts s (bookTorn s) := by
  unfold bookTorn
  split
  · exact .of_eq (by simp)
  · exact .of_flash (lasting_mk ..) (twf_flashErase _ _ _)

theorem lasts_marginEnd (error : Bool) (back rec : List Nat) (s : State) : Lasts s (marginEnd error back rec s) :=
  .of_flash (f := flashWrite s.pb.marginOffset 4096 back s.flash) (by simp [marginEnd]) (twf_flashWrite _ _ _ _)

theorem lasts_marginTorn (s : State) : Lasts s (marginTorn s) := by
  unfold marginTorn
  split
  · exact .refl s
  · exact .of_flash (lasting_mk ..) (twf_flashWrite _ _ _ _)

theorem lasts_loaderTorn (s : State) : Lasts s (loaderTorn s) := by
  unfold loaderTorn
  split
  · refine .of_flash (lasting_mk ..) fun h => twf_flashProgram _ _ _ (twf_flashProgram _ _ _ ?_)
    split
    · exact twf_flashErase _ _ _ (twf_flashErase _ _ _ h)
    · exact twf_flashErase _ _ _ h
  · split
    · exact .of_flash (lasting_mk ..) (twf_flashWrite _ _ _ _)
    · exact .refl s

/-- A reset tears whatever store runs. -/
theorem lasts_torn (s : State) : Lasts s (loaderTorn (bookTorn (marginTorn s))) :=
  ((lasts_marginTorn s).trans (lasts_bookTorn _)).trans (lasts_loaderTorn _)

theorem lasts_streamAbort (s : State) : Lasts s (streamAbort s) := by
  unfold streamAbort
  dsimp only
  split
  · exact .of_eq (by simp)
  · split
    · exact (lasts_loaderTorn s).of_eq_right (by simp)
    · exact .of_eq (by simp)

theorem lasts_writeLoadData (w : Nat) (s : State) : Lasts s (writeLoadData w s) := by
  unfold writeLoadData
  dsimp only
  split
  · exact .refl s
  · split
    · exact .trans (.of_eq (lasting_mk ..)) (lasts_streamAbort _)
    · exact .of_eq (by simp)

theorem lasts_regWrite (priv off w : Nat) (s : State) : Lasts s (regWrite priv off w s) := by
  by_cases h : off = 0xA01C
  · subst h
    exact lasts_writeLoadData w s
  · exact .of_eq (lasting_regWrite priv w s h)

theorem lasts_rpWrite (priv off : Nat) {f : State → State} (h : ∀ x, Lasts x (f x)) (s : State) :
    Lasts s (rpWrite priv off f s) := by
  unfold rpWrite
  dsimp only
  split
  · exact .refl s
  · split
    · exact (h s).of_eq_right (lasting_rpAnswer ..)
    · exact .of_eq (lasting_rpAnswer ..)

/-- R267: a trip may set the Lockout; it tears a store of the margin record or of the book. -/
theorem lasts_curtTrip (p : Nat) (s : State) : Lasts s (curtTrip p s) := by
  unfold curtTrip
  split
  · exact .refl s
  · extract_lets c v lock more c1 s1 s2 s3
    have hset : Lasts s { s with curt := c1, free := s.free + 1 } :=
      ⟨rfl, rfl, id, fun h => by simp [c1, c, h]⟩
    have htorn := hset.trans ((lasts_marginTorn _).trans (lasts_bookTorn _))
    exact htorn.of_eq_right (by simp [s3, s2, s1])

theorem lasts_curtLock (cause code : Nat) (s : State) : Lasts s (curtLock cause code s) := by
  unfold curtLock
  split
  · exact .refl s
  · have hset : Lasts s { s with curt := { s.curt with lockout := true, lockCause := cause } } :=
      ⟨rfl, rfl, id, fun _ => rfl⟩
    exact hset.of_eq_right (lasting_report ..)

/-! ### Commands on the flash and the Curtain -/

/-- A command that answers a next state in which all of it lasts. -/
def NextLasts (s : State) (o : Host.Outcome State Fault Refusal) : Prop := ∃ t, o = .next t ∧ Lasts s t

theorem NextLasts.done {s t : State} (h : Lasts s t) : NextLasts s (done t) := ⟨t, rfl, h⟩

theorem NextLasts.of_eq {s : State} {o : Host.Outcome State Fault Refusal} (h : lastingNext o = some (lasting s)) :
    NextLasts s o := by
  cases o with
  | next t => exact ⟨t, rfl, .of_eq (Option.some.inj h)⟩
  | fault r => cases h
  | refused r => cases h

theorem lasts_fresh (s : State) : Lasts s (fresh s) := .of_eq rfl

theorem lasts_execLoadData (priv : Nat) (data : Word) (s : State) : NextLasts s (execLoadData priv data s) := by
  unfold execLoadData
  dsimp only
  split
  · exact .done (lasts_fresh s)
  · exact .done ((lasts_fresh s).trans (lasts_rpWrite _ _ (lasts_writeLoadData _) _))

theorem lasts_execLoadStreamTimeout (s : State) : NextLasts s (execLoadStreamTimeout s) := by
  unfold execLoadStreamTimeout
  dsimp only
  split
  · exact .done ((lasts_fresh s).trans (lasts_streamAbort _))
  · exact .done (lasts_fresh s)

theorem lasts_execLoaderDone (error : Bool) (back : List Nat) (s : State) : NextLasts s (execLoaderDone error back s) := by
  have hplace : Lasts s { fresh s with flash := loaderPlace back (fresh s) } :=
    .of_flash (lasting_mk ..) (twf_loaderPlace back (fresh s))
  unfold execLoaderDone
  dsimp only
  split
  · exact .done (lasts_fresh s)
  · split
    · exact .done (hplace.of_eq_right (lasting_loaderEnd ..))
    · split
      · exact .done (hplace.of_eq_right (lasting_loaderEnd ..))
      · split
        · exact .done (hplace.of_eq_right (lasting_loaderBad ..))
        · exact .done (hplace.of_eq_right (lasting_loaderEnd ..))

theorem lasts_execMarginStoreDone (error : Bool) (back : List Nat) (s : State) :
    NextLasts s (execMarginStoreDone error back s) := by
  unfold execMarginStoreDone
  dsimp only
  split
  · exact .done (lasts_fresh s)
  · exact .done (((lasts_fresh s).trans (lasts_marginEnd ..)).of_eq_right (lasting_storesEnd _))

theorem lasts_execPbStoreDone (error : Bool) (back : List Nat) (s : State) :
    NextLasts s (execPbStoreDone error back s) := by
  unfold execPbStoreDone
  dsimp only
  split
  · exact .done (lasts_fresh s)
  · exact .done (((lasts_fresh s).trans (lasts_bookEnd ..)).of_eq_right (lasting_storesEnd _))

theorem lasts_execFlashReadTimeout (s : State) : NextLasts s (execFlashReadTimeout s) := by
  unfold execFlashReadTimeout
  dsimp only
  split
  · exact .done (lasts_fresh s)
  · split
    · exact .done (((lasts_fresh s).trans (lasts_marginEnd ..)).of_eq_right (lasting_storesEnd _))
    · exact .done (((lasts_fresh s).trans (lasts_bookEnd ..)).of_eq_right (lasting_storesEnd _))
    · split
      · exact .done ((lasts_fresh s).of_eq_right (lasting_reject ..))
      · split
        · exact .done (((lasts_fresh s).trans (lasts_loaderTorn _)).of_eq_right (lasting_loaderEnd ..))
        · exact .done (lasts_fresh s)

theorem lasts_execRegisterWrite (priv offset : Nat) (data : Word) (s : State) :
    NextLasts s (execRegisterWrite priv offset data s) := by
  unfold execRegisterWrite
  dsimp only
  split
  · exact .done (lasts_fresh s)
  · exact .done ((lasts_fresh s).trans (lasts_rpWrite _ _ (lasts_regWrite _ _ _) _))

theorem lasts_execKeyRegWrite (priv offset : Nat) (data : Word) (s : State) :
    NextLasts s (execKeyRegWrite priv offset data s) := by
  unfold execKeyRegWrite
  split
  · exact .of_eq (by simp)
  · exact lasts_execRegisterWrite priv offset data s

theorem sensRead_lockout (i : Nat) (r : Option Int) (c : CurtSt) : (sensRead i r c).lockout = c.lockout := by
  cases r <;> rfl

theorem pairsDiffer_lockout (c : CurtSt) : (pairsDiffer c).1.lockout = c.lockout :=
  List.foldlRecOn (motive := fun (x : CurtSt × Bool) => x.1.lockout = c.lockout) _ _ rfl fun _ hx _ _ => hx

theorem curtSense_lockout (readings : List (Option Int)) (split : List Nat) (thr res : Int) (flip : Nat → Bool)
    (c : CurtSt) :
    (curtSense readings split thr res flip c).lockout = c.lockout :=
  (pairsDiffer_lockout _).trans <|
    List.foldlRecOn (motive := fun (x : CurtSt) => x.lockout = c.lockout) _ _ rfl fun x hx i _ =>
      (sensRead_lockout i _ x).trans hx

theorem lasts_execCurtainRead (readings : List (Option Int)) (split : List Nat) (s : State) :
    NextLasts s (execCurtainRead readings split s) := by
  unfold execCurtainRead
  dsimp only
  split
  · exact .done (lasts_fresh s)
  · generalize hs4 : raiseIf _ 8 0 _ = s4
    have h4 : Lasts s s4 := .of_eq (by simp [← hs4, curtSense_lockout])
    have h5 (o : Option Nat) : Lasts s (match o with | some p => curtTrip p s4 | none => s4) := by
      cases o with
      | none => exact h4
      | some p => exact h4.trans (lasts_curtTrip p s4)
    split
    · exact .done (((h5 _).trans (lasts_curtTrip ..)).trans (lasts_curtLock ..))
    · exact .done (h5 _)

theorem lasts_execCurtainTest (failed : List Nat) (s : State) : NextLasts s (execCurtainTest failed s) := by
  unfold execCurtainTest
  dsimp only
  split
  · exact .done (lasts_fresh s)
  · split
    · exact .done (.of_eq (by simp))
    · exact .done (.trans (.of_eq (by simp)) (lasts_curtLock ..))

theorem lasts_execPorstNAssert (s : State) : NextLasts s (execPorstNAssert s) := by
  unfold execPorstNAssert
  dsimp only
  split
  · exact .done (lasts_fresh s)
  · exact .done (((lasts_fresh s).trans (lasts_torn _)).of_eq_right (by simp))

theorem lasts_execHrstNAssert (s : State) : NextLasts s (execHrstNAssert s) := by
  unfold execHrstNAssert
  dsimp only
  split
  · exact .done (lasts_fresh s)
  · split
    · exact .done (.of_eq (by simp))
    · exact .done (((lasts_fresh s).trans (lasts_torn _)).of_eq_right (by simp))

theorem lasts_execBlockSupplyLoss (s : State) : NextLasts s (execBlockSupplyLoss s) := by
  unfold execBlockSupplyLoss
  dsimp only
  split
  · exact .done (lasts_fresh s)
  · exact .done (((lasts_fresh s).trans (lasts_torn _)).of_eq_right (by simp))

/-! ### The machine -/

/-- Every command but the removal of the always-on supply. -/
theorem exec_lasts {c : Instr} (h : c ≠ .alwaysOnSupplyRemoval) (s : State) : NextLasts s (exec c s) := by
  cases c with
  | alwaysOnSupplyRemoval => exact absurd rfl h
  | loadData => exact lasts_execLoadData ..
  | loadStreamTimeout => exact lasts_execLoadStreamTimeout s
  | loaderDone => exact lasts_execLoaderDone ..
  | marginStoreDone => exact lasts_execMarginStoreDone ..
  | pbStoreDone => exact lasts_execPbStoreDone ..
  | flashReadTimeout => exact lasts_execFlashReadTimeout s
  | registerWrite => exact lasts_execRegisterWrite ..
  | keyRegWrite => exact lasts_execKeyRegWrite ..
  | curtainRead => exact lasts_execCurtainRead ..
  | curtainTest => exact lasts_execCurtainTest ..
  | porstNAssert => exact lasts_execPorstNAssert s
  | hrstNAssert => exact lasts_execHrstNAssert s
  | blockSupplyLoss => exact lasts_execBlockSupplyLoss s
  | _ => exact .of_eq (by simp [exec])

/-- R305: with the always-on supply the Curtain's state goes; parameters, queue and flash stay. -/
theorem execAlwaysOnSupplyRemoval_keeps (s : State) : ∃ t, exec .alwaysOnSupplyRemoval s = .next t ∧
    t.par = s.par ∧ t.pending = s.pending ∧ (s.canonical → t.canonical) :=
  have h := (lasts_fresh s).trans (lasts_torn (fresh s))
  ⟨_, rfl, h.par, h.pending, h.canonical⟩

theorem exec_keeps (c : Instr) (s : State) : ∃ t, exec c s = .next t ∧
    t.par = s.par ∧ t.pending = s.pending ∧ (s.canonical → t.canonical) := by
  by_cases h : c = .alwaysOnSupplyRemoval
  · exact h ▸ execAlwaysOnSupplyRemoval_keeps s
  · obtain ⟨t, ht, hl⟩ := exec_lasts h s
    exact ⟨t, ht, hl.par, hl.pending, hl.canonical⟩

theorem step_of_nil {s : State} (h : s.pending = []) : step s = .next s := by simp only [step, h]

theorem step_of_cons {s : State} {c : Instr} {r : List Instr} (h : s.pending = c :: r) :
    step s = exec c { s with pending := r } := by simp only [step, h]

/-- Settles O1: the two equations of `step`. -/
theorem stepRunsFront : Obligations.StepRunsFront := ⟨fun _ _ _ h => step_of_cons h, fun _ h => step_of_nil h⟩

/-- Settles O58: an empty queue changes nothing, and every command keeps the canonical form (`exec_keeps`). -/
theorem flashCanonical : Obligations.FlashCanonical := by
  intro s t hs hstep
  cases hq : s.pending with
  | nil =>
    cases (step_of_nil hq).symm.trans hstep
    exact hs
  | cons c r =>
    obtain ⟨u, hu, -, -, hcanon⟩ := exec_keeps c { s with pending := r }
    cases hu.symm.trans ((step_of_cons hq).symm.trans hstep)
    exact hcanon hs

/-- Settles O60: what every command keeps (`exec_keeps`), and the Lockout that all but one keep (`exec_lasts`). -/
theorem lockoutStays : Obligations.LockoutStays := by
  refine ⟨fun c s => ?answers, fun s t hstep => ?stays⟩
  case answers =>
    obtain ⟨t, ht, hpar, hpending, -⟩ := exec_keeps c s
    exact ⟨t, ht, hpar, hpending⟩
  case stays =>
    cases hq : s.pending with
    | nil =>
      cases (step_of_nil hq).symm.trans hstep
      exact ⟨rfl, fun h _ => h⟩
    | cons c r =>
      rw [step_of_cons hq] at hstep
      refine ⟨?_, fun hlock hne => ?_⟩
      · obtain ⟨u, hu, hpar, -⟩ := exec_keeps c { s with pending := r }
        cases hu.symm.trans hstep
        exact hpar
      · obtain ⟨u, hu, hl⟩ := exec_lasts (c := c) (fun h => hne r (h ▸ rfl)) { s with pending := r }
        cases hu.symm.trans hstep
        exact hl.lockout hlock

/-- Settles O59: the reset state computes. -/
theorem resetStands : Obligations.ResetStands :=
  ⟨rfl, rfl, rfl, rfl, rfl, rfl, rfl, rfl, rfl, rfl⟩


end Sys2Proof.Machine
end

section
/-! R328 to R342: what a fault counts, the safe state, and the commands on the record, the error pair and Rehearsal. -/

namespace Sys2Proof.Machine

open Sys2Proof

/-! ### Counters and causes -/

theorem wrapInc_eq (n : Nat) (b : Bool) (c : Nat) : wrapInc n b c = if b then (c + 1) % 2 ^ n else c := rfl

theorem countFault_counts (cls : Nat) (inj : Bool) (f : FaultSt) :
    (countFault cls inj f).nN = (if cls = 1 then (f.nN + 1) % 2 ^ 16 else f.nN) ∧
    (countFault cls inj f).nC = (if cls = 2 then (f.nC + 1) % 2 ^ 16 else f.nC) ∧
    (countFault cls inj f).nD = (if cls = 3 then (f.nD + 1) % 2 ^ 16 else f.nD) ∧
    (countFault cls inj f).nS = (if cls = 4 then (f.nS + 1) % 2 ^ 8 else f.nS) ∧
    (countFault cls inj f).nL = (if cls = 5 then (f.nL + 1) % 2 ^ 8 else f.nL) := by
  simp only [countFault, wrapInc_eq, beq_iff_eq, and_self]

theorem recordFault_counts (cls code tick opmin : Nat) (inj : Bool) (f : FaultSt) :
    let g := recordFault cls code tick opmin inj f
    g.nN = f.nN ∧ g.nC = f.nC ∧ g.nD = f.nD ∧ g.nS = f.nS ∧ g.nL = f.nL := by
  cases h : f.isOpen
  · rw [recordFault_of_closed cls code tick opmin inj h]
    exact ⟨rfl, rfl, rfl, rfl, rfl⟩
  · rw [recordFault_of_open cls code tick opmin inj h]
    exact ⟨rfl, rfl, rfl, rfl, rfl⟩

/-- A cause raised in another group leaves a group's bits alone. -/
theorem raiseIf_other_group {c : Bool} {g k b : Nat} (s : State) (h : k ≠ g) :
    tget 0 k (raiseIf c g b s).regs.cause = tget 0 k s.regs.cause := by
  cases c
  · rfl
  · exact tget_tset_ne _ _ _ _ _ h

@[simp] theorem holdDrive_regs (s : State) : (holdDrive s).regs = s.regs := by
  obtain ⟨_, _, _, _, _, _, h⟩ := holdDrive_frame s
  rw [h]

theorem enterSafe_cause (s : State) : tget 0 0 (enterSafe s).regs.cause = tget 0 0 s.regs.cause := by
  unfold enterSafe
  split
  · rfl
  · rw [raiseIf_other_group _ (by decide), holdDrive_regs]

/-- R330: from class D on, FAULT is raised. -/
theorem collect_raises {code : Nat} (v : Int) (inj : Bool) (s : State) (h : 3 ≤ faultClass code) :
    (tget 0 0 (collect code v inj s).regs.cause).testBit 0 = true := by
  have hrec : (tget 0 0 (recorded code v inj s).regs.cause).testBit 0 = true := raise_bit 0 0 _
  rcases (by omega : faultClass code = 3 ∨ faultClass code = 4 ∨ 4 < faultClass code) with hD | hS | hL
  · rwa [collect_of_degraded v inj hD]
  · rwa [collect_of_severe v inj hS, enterSafe_cause]
  · rw [collect_of_lockout v inj hL]
    rwa [← enterSafe_cause] at hrec

theorem collect_counts {code : Nat} (v : Int) (inj : Bool) (s : State) :
    let g := (collect code v inj s).fault
    let f := countFault (faultClass code) inj s.fault
    g.nN = f.nN ∧ g.nC = f.nC ∧ g.nD = f.nD ∧ g.nS = f.nS ∧ g.nL = f.nL := by
  by_cases h3 : faultClass code < 3
  · rw [collect_fault_of_note v inj h3]
    exact ⟨rfl, rfl, rfl, rfl, rfl⟩
  · rw [collect_fault_of_record v inj (by omega)]
    split
    · rw [recorded_fault]
      exact recordFault_counts ..
    · obtain ⟨early, h⟩ := enterSafe_fault (recorded code v inj s)
      rw [h, recorded_fault]
      exact recordFault_counts ..

theorem clocked_eq_false {s : State} (h : s.start.blkUp = false ∨ s.start.bclkAbsent = true) : clocked s = false := by
  rcases h with h | h <;> simp [clocked, h]

theorem reportInj_of_unclocked {code : Nat} {s : State} (v : Int) (inj : Bool) (h : clocked s = false)
    (h0 : faultClass code ≠ 0) : reportInj inj code v s =
      if code / 4096 = 8 then { s with fault := { s.fault with held := s.fault.held ++ [(code, v)] } } else s := by
  simp only [reportInj, if_neg h0, h, Bool.false_eq_true, if_false]

/-- A fault below class S is told and does nothing else. -/
theorem report_onlyTold {code : Nat} (v : Int) (s : State) (h : faultClass code < 4) : s.onlyTold (report code v s) := by
  obtain ⟨_, _, _, _, _, _, _, ht⟩ := report_frame code v s h
  rw [State.onlyTold, ht]

/-- Settles O4: counting (`collect_counts`), the FAULT cause (`collect_raises`) and the frame below class S. -/
theorem faultCounts : Obligations.FaultCounts := by
  intro code v s
  refine ⟨reportInj_of_unlisted v false, fun hup hbclk h0 => ?taken,
    fun hdown h0 => reportInj_of_unclocked v false (clocked_eq_false hdown) h0⟩
  case taken =>
    have ht : report code v s = collect code v false s := reportInj_eq_collect v false (clocked_of hup hbclk) h0
    obtain ⟨hN, hC, hD, hS, hL⟩ := collect_counts (code := code) v false s
    obtain ⟨cN, cC, cD, cS, cL⟩ := countFault_counts (faultClass code) false s.fault
    refine ⟨?_, ?_, ?_, ?_, ?_, fun h3 => ht ▸ collect_raises v false s h3, report_onlyTold v s⟩
    · rw [ht, hN, cN]
    · rw [ht, hC, cC]
    · rw [ht, hD, cD]
    · rw [ht, hS, cS]
    · rw [ht, hL, cL]

/-! ### The safe state -/

/-- R309: after a write of SAFE_VOLT to a list of rails each of them is at it. -/
theorem tget_foldl_tset {v : Nat} (hv : v ≠ 0) {r : Nat} (l : List Nat) (t : Tab Nat) :
    tget 0 r (l.foldl (fun t r => tset 0 r v t) t) = if r ∈ l then v else tget 0 r t := by
  induction l generalizing t with
  | nil => simp
  | cons a l ih =>
    rw [List.foldl_cons, ih]
    by_cases ha : r = a
    · subst ha
      simp [tset, hv, tget_tins]
    · simp [tget_tset_ne _ _ _ _ _ ha, ha]

/-- R309, R335: what the transfer to the safe state sets. -/
theorem enterSafe_sets (s : State) (h : s.fault.safe = false) :
    let t := enterSafe s
    t.fault.safe = true ∧ t.fault.errFault = true ∧ t.core.running = false ∧ t.core.frozen = false ∧
      t.law.clock = [] ∧ t.law.railV = (safeRailList s).foldl (fun t r => tset 0 r s.par.safeVolt t) s.law.railV ∧
      t.tk.agents = s.tk.agents.map (fun a => (a.1, { a.2 with rateQ := 0, target := 0, igniting := false, took := 0 })) := by
  obtain ⟨o, q, hsend⟩ := friSend_fold (safeRailList s) s.par.safeVolt s
  simp only [enterSafe, h, Bool.false_eq_true, if_false, holdDrive, hsend]
  cases s.core.frozen <;> exact ⟨rfl, rfl, rfl, rfl, rfl, rfl, rfl⟩

@[simp] theorem recorded_law (code : Nat) (v : Int) (inj : Bool) (s : State) : (recorded code v inj s).law = s.law := by
  obtain ⟨_, _, _, _, _, h⟩ := deliver_frame code (classSev (faultClass code)) v
    { s with fault := countFault (faultClass code) inj s.fault }
  simp only [recorded, h, raise_law]

@[simp] theorem recorded_par (code : Nat) (v : Int) (inj : Bool) (s : State) : (recorded code v inj s).par = s.par := by
  obtain ⟨_, _, _, _, _, h⟩ := deliver_frame code (classSev (faultClass code)) v
    { s with fault := countFault (faultClass code) inj s.fault }
  simp only [recorded, h, raise_par]

@[simp] theorem recorded_start (code : Nat) (v : Int) (inj : Bool) (s : State) : (recorded code v inj s).start = s.start := by
  obtain ⟨_, _, _, _, _, h⟩ := deliver_frame code (classSev (faultClass code)) v
    { s with fault := countFault (faultClass code) inj s.fault }
  simp only [recorded, h, raise_start]

theorem recorded_safe (code : Nat) (v : Int) (inj : Bool) (s : State) :
    (recorded code v inj s).fault.safe = s.fault.safe := by
  rw [recorded_fault]
  cases h : s.fault.isOpen
  · rw [recordFault_of_closed _ _ _ _ _ ((countFault_isOpen ..).trans h)]
    rfl
  · rw [recordFault_of_open _ _ _ _ _ ((countFault_isOpen ..).trans h)]
    rfl

@[simp] theorem enterSafe_par (s : State) : (enterSafe s).par = s.par := by
  obtain ⟨_, _, _, _, _, _, _, _, h, -, -⟩ := enterSafe_frame s
  rw [h]

@[simp] theorem enterSafe_start (s : State) : (enterSafe s).start = s.start := by
  obtain ⟨_, _, _, _, _, _, _, _, h, -, -⟩ := enterSafe_frame s
  rw [h]

/-- Settles O5: a fault of class S that is recorded enters the safe state (`enterSafe_sets`), and `reportInj_any` is its
frame. -/
theorem safeStateEntry : Obligations.SafeStateEntry := by
  intro code v s hup hbclk hcls hsafe hvolt
  have ht : report code v s = enterSafe (recorded code v false s) := by
    rw [report, reportInj_eq_collect v false (clocked_of hup hbclk) (by omega), collect_of_severe v false hcls]
  obtain ⟨hs, herr, hrun, hfrz, hclk, hrail, hag⟩ :=
    enterSafe_sets (recorded code v false s) ((recorded_safe ..).trans hsafe)
  rw [← ht] at hs herr hrun hfrz hclk hrail hag
  have hstart : (report code v s).start = s.start := by rw [ht, enterSafe_start, recorded_start]
  refine ⟨hs, herr, holdOut_of_safe hs, hrun, hfrz, fun a ha => ?leases, fun d => ?clocks, fun r hr hbit => ?rails,
    by simp, by simp, by simp, by simp, by simp, by simp, by simp, by simp, by simp, hstart, by simp, by simp, by simp,
    by simp⟩
  case leases =>
    rw [hag] at ha
    obtain ⟨x, -, rfl⟩ := List.mem_map.1 ha
    exact ⟨rfl, rfl⟩
  case clocks => rw [clockOf, hclk, report_par]; rfl
  case rails =>
    have hmem : r ∈ safeRailList (recorded code v false s) := by simp [safeRailList, hr, hbit]
    rw [hrail, recorded_par, tget_foldl_tset hvolt, if_pos hmem]

/-! ### Commands on the record, the pair and Rehearsal -/

/-- A write of REH_CTRL by its bits 31 (EN), 30 (CURT_ARM) and 28 (CURT_INJ_SEEN). -/
theorem writeReh_of {w e : Nat} {arm : Bool} (hen : bits w 31 31 * 2 ^ 31 = e)
    (harm : (w.testBit 30 && w.testBit 31) = arm) (hseen : w.testBit 28 = false) (s : State) :
    writeReh w s = { s with
      regs := { s.regs with wr := tset 0 0xB040 e s.regs.wr },
      fault := { s.fault with armReq := s.fault.armReq || arm } } := by
  simp only [writeReh, hen, harm, hseen, Bool.not_false, Bool.and_true]

section
variable {p : Nat} {s : State} (hopen : s.portOpen)
include hopen

theorem execClose_alone (hp : 1 ≤ p) :
    exec (.close p []) s = .next (rpAnswer 0 0 (faultClose false (fresh s))) := by
  change done (rpWrite p 0xB028 (writeFaultCtrl false (2 ^ 31)) (fresh s)) = _
  rw [rpWrite_open hopen 2 (by decide) (mayWrite_two hp)]
  rfl

theorem exec_recover (hp : 1 ≤ p) :
    exec (.recover p) s = .next (rpAnswer 0 0 { s with out := [], fault := { s.fault with recoverReq := true } }) := by
  change done (rpWrite p 0xB028 (writeFaultCtrl false (2 ^ 30)) (fresh s)) = _
  rw [rpWrite_open hopen 2 (by decide) (mayWrite_two hp)]
  rfl

/-- A write of REH_CTRL at debug privilege. -/
theorem rpWrite_reh (f : State → State) : rpWrite 2 0xB040 f (fresh s) = rpAnswer 0 0 (f (fresh s)) :=
  rpWrite_open hopen 3 (by decide) (by decide)

theorem exec_en (on : Bool) : exec (.en 2 on) s = .next (rpAnswer 0 0 { s with
    out := [], regs := { s.regs with wr := tset 0 0xB040 (if on then 2 ^ 31 else 0) s.regs.wr } }) := by
  change done (rpWrite 2 0xB040 (writeReh (on.toNat * 2 ^ 31)) (fresh s)) = _
  rw [rpWrite_reh hopen, writeReh_of (e := if on then 2 ^ 31 else 0) (arm := false) (by cases on <;> decide)
    (by cases on <;> decide) (by cases on <;> decide)]
  simp only [Bool.or_false]
  rfl

theorem exec_curtArm (hen : wreg s 0xB040 = 2 ^ 31) : exec (.curtArm 2) s = .next (rpAnswer 0 0 { s with
    out := [], regs := { s.regs with wr := tset 0 0xB040 (2 ^ 31) s.regs.wr }, fault := { s.fault with armReq := true } }) := by
  have hw : wreg (fresh s) 0xB040 = 2 ^ 31 := hen
  change done (rpWrite 2 0xB040 (fun x => writeReh (wreg x 0xB040 + 2 ^ 30) x) (fresh s)) = _
  rw [rpWrite_reh hopen, hw, writeReh_of (e := 2 ^ 31) (arm := true) (by decide) (by decide) (by decide)]
  simp only [Bool.or_true]
  rfl

/-- R341: a GO of an injection that nothing stands against. -/
theorem exec_injectionGo (hreh : s.fault.reh = true) (hinj : s.fault.inj = none)
    (hhere : checkerHere s (bits (wreg s 0xB044) 31 16) = true) (hcurt : bits (wreg s 0xB044) 31 16 / 4096 ≠ 11) :
    exec (.injectionGo 2) s = .next (rpAnswer 0 0 { s with
      out := [], fault := { s.fault with
        injStatus := 0, inj := some ⟨bits (wreg s 0xB044) 31 16, bits (wreg s 0xB044) 7 0,
          max 1 (bits (wreg s 0xB044) 15 8)⟩ } }) := by
  have hst : injStatusOf (fresh s) (bits (wreg s 0xB044) 31 16) = 0 := by
    have hhere' : checkerHere (fresh s) (bits (wreg s 0xB044) 31 16) = true := hhere
    simp [injStatusOf, hreh, hinj, hhere', hcurt]
  have hw : wreg (fresh s) 0xB044 = wreg s 0xB044 := rfl
  change done (rpWrite 2 0xB048 (writeInj (2 ^ 31)) (fresh s)) = _
  rw [rpWrite_open hopen 3 (by decide) (by decide)]
  simp only [writeInj, hw, hst, if_neg hcurt]
  rfl

end

/-- Settles O6: one equation for each command. -/
theorem faultCommands : Obligations.FaultCommands := by
  refine ⟨fun p s hopen hp hrec hcls => ?close, fun p s hopen hp hrec hcls => ?closeSevere,
    fun p s hopen hp => exec_recover hopen hp, fun s hup => ?mismatch, fun s hup hbclk => ?absent,
    fun s hup hbclk => ?back, fun on s hopen => exec_en hopen on, fun s hopen hen => exec_curtArm hopen hen,
    fun s hup hbclk harm hleases htime => ?idle, fun s hopen hreh hinj => exec_injectionGo hopen hreh hinj⟩
  case close =>
    rw [execClose_alone hopen hp]
    simp [faultClose, closeRecord, ctrlSt, hrec, hcls, fresh]
  case closeSevere =>
    rw [execClose_alone hopen hp]
    simp [faultClose, ctrlSt, hrec, hcls, fresh]
  case mismatch =>
    change execErrPairMismatch s = _
    simp only [execErrPairMismatch, fresh_start, hup]
    rfl
  case absent =>
    change execBclkAbsent s = _
    simp only [execBclkAbsent, fresh_start, hup, hbclk]
    rfl
  case back =>
    change execBclkReturn s = _
    simp only [execBclkReturn, fresh_start, hup, hbclk]
    rfl
  case idle =>
    have hzero : leasesZero (fresh s) = true := by simpa [leasesZero] using hleases
    change execHostIdle s = _
    simp only [execHostIdle, fresh_fault, fresh_time, clocked_fresh, clocked_of hup hbclk, harm, hzero, htime]
    rfl

end Sys2Proof.Machine
end

section
/-! R20 to R38, R354, R390: ticks, the window of a tick, the step lock and the timers of external time. -/

namespace Sys2Proof.Machine

open Sys2Proof

/-! ### An accepted tick -/

theorem generatorCounts_eq_false {t : TimeSt} (h : t.holdover = false ∨ t.locked = true) : generatorCounts t = false := by
  rcases h with h | h <;> simp [generatorCounts, h]

theorem generatorCounts_eq_true {t : TimeSt} (hh : t.holdover = true) (hl : t.locked = false) :
    generatorCounts t = true := by simp [generatorCounts, hh, hl]

theorem intervalOk_of {bclk : Nat} (hlo : 980 ≤ bclk) (hhi : bclk ≤ 1020) : intervalOk bclk = true := by
  simp [intervalOk, hlo, hhi]

/-- R20, R22, R390: the state once a tick with its interval in range has been counted and has gone through the generator,
before its epoch marker is judged. -/
def tickTaken (ref : Int) (bclk phase aoclk : Nat) (s : State) : State :=
  aoclkCount aoclk { s with
    out := [], time := tickGen ref bclk phase (tickCount ref s.time), port := { s.port with bclkPerTick := bclk } }

/-- R142: the request that a tick which the count takes may bring. -/
def telRequestIf (c : Bool) (s : State) : State := if c then telRequest s else s

theorem telRequestIf_frame (c : Bool) (s : State) :
    ∃ o te po cm, telRequestIf c s = { s with out := o, tel := te, port := po, time := { s.time with came := cm } } := by
  cases c
  · exact ⟨s.out, s.tel, s.port, s.time.came, rfl⟩
  · exact telRequest_frame s

theorem exec_tick_of_accepted {ref : Int} {bclk : Nat} (epoch : Bool) (phase aoclk : Nat) {s : State}
    (hclk : clocked s = true) (hacc : tickAccepted s.time ref = true) (hint : intervalOk bclk = true) :
    exec (.tick ref epoch bclk phase aoclk true) s =
      .next (telRequestIf (!generatorCounts s.time)
        (if epoch then epochMark s.time.locked (tickTaken ref bclk phase aoclk s)
         else epochNone (tickTaken ref bclk phase aoclk s))) := by
  change execTick ref epoch bclk phase aoclk s true = _
  simp only [execTick, clocked_fresh, hclk, fresh_time, hacc, hint, Bool.not_true, Bool.false_eq_true, if_false,
    Bool.false_and, reportIf_false]
  rfl

theorem tickTaken_frame (ref : Int) (bclk phase aoclk : Nat) (s : State) :
    ∃ po ao, tickTaken ref bclk phase aoclk s = { s with
      out := [], time := tickGen ref bclk phase (tickCount ref s.time), port := po,
      start := { s.start with aoclkBad := ao } } := ⟨_, _, rfl⟩

theorem tickCount_of_counting {t : TimeSt} (ref : Int) (hg : generatorCounts t = false) (hany : t.anyTick = true) :
    tickCount ref t = { t with
      up := t.up + 1, opTicks := t.opTicks + 1, count := (t.count + 1) % 2 ^ 64, lastTick := some ref } := by
  simp only [tickCount, hg, hany, if_true, Bool.false_eq_true, if_false, tickUp]

/-- R448: ticks that leave the count: those of reacquisition and the first. -/
theorem tickCount_keeps {t : TimeSt} (ref : Int) (h : reacquiring t = true) :
    (tickCount ref t).count = t.count ∧ (tickCount ref t).holdover = t.holdover := by
  unfold tickCount
  split
  next => exact ⟨rfl, rfl⟩
  next hg =>
    split
    next hany => simp [reacquiring, hg, hany] at h
    next => exact ⟨rfl, rfl⟩

theorem epochNone_frame (s : State) : ∃ n, epochNone s = { s with time := { s.time with epochMis := n } } := by
  unfold epochNone
  split
  · exact ⟨_, rfl⟩
  · exact ⟨s.time.epochMis, rfl⟩

theorem epochNone_eq (s : State) : epochNone s = { s with time := { s.time with
    epochMis := if s.time.locked = true ∧ s.time.count % 1000 = 0 then (s.time.epochMis + 1) % 256 else s.time.epochMis } } := by
  unfold epochNone
  by_cases h : s.time.locked = true ∧ s.time.count % 1000 = 0
  · rw [if_pos (by simpa using h), if_pos h]
    rfl
  · rw [if_neg (by simpa using h), if_neg h]

/-- R22: the run towards lock after a tick whose interval is in range. -/
theorem lockTick_of_intervalOk {bclk phase : Nat} (h : intervalOk bclk = true) :
    lockTick bclk phase = decide (phase ≤ 4) := by simp [lockTick, h]

/-- Settles O7: an accepted tick is counted (`tickCount_of_counting`), and its missing marker judged (`epochNone_eq`). -/
theorem tickAccepted_settled : Obligations.TickAccepted := by
  intro ref a bclk phase aoclk s hup hbclk hcnt hany hlast hlo hhi hblo hbhi
  have hg := generatorCounts_eq_false hcnt
  have hint := intervalOk_of hblo hbhi
  have hacc : tickAccepted s.time ref = true := by
    simp [tickAccepted, reacquiring, hg, hany, hlast, hlo, hhi]
  refine ⟨_, exec_tick_of_accepted false phase aoclk (clocked_of hup hbclk) hacc hint, ?_⟩
  obtain ⟨_, _, _, _, htel⟩ := telRequestIf_frame (!generatorCounts s.time) (epochNone (tickTaken ref bclk phase aoclk s))
  obtain ⟨_, _, htaken⟩ := tickTaken_frame ref bclk phase aoclk s
  simp only [Bool.false_eq_true, if_false]
  rw [htel, epochNone_eq, htaken, tickCount_of_counting ref hg hany]
  simp only [tickGen, hint, lockTick_of_intervalOk hint, hany, decide_eq_true_eq, Bool.not_true]
  exact ⟨trivial, trivial⟩

/-! ### Ticks that leave the count, markers -/

/-- R31: a count step sets the count and is told. -/
theorem countStep_frame (c : Nat) (s : State) :
    ∃ f bk bufs fz fs cs fr, countStep c s = { s with
      time := { s.time with count := c % 2 ^ 64 }, fault := f, book := bk, obs := { s.obs with bufs := bufs },
      core := { s.core with freezeReq := fz, faultSince := fs }, regs := { s.regs with cause := cs }, free := fr } := by
  unfold countStep
  dsimp only
  split
  · exact ⟨s.fault, s.book, s.obs.bufs, s.core.freezeReq, s.core.faultSince, s.regs.cause, s.free, rfl⟩
  · obtain ⟨f, bk, bufs, fz, fs, cs, fr, h⟩ := report_frame 0x1003 ((c : Int) - (s.time.count : Int))
      { s with time := { s.time with count := c % 2 ^ 64 } } (by decide)
    rw [h]
    exact ⟨_, _, _, _, _, _, _, rfl⟩

/-- R30: the end of holdover sets the count and is told. -/
theorem holdoverLeave_frame (c : Nat) (s : State) :
    ∃ f bk bufs fz fs cs fr, holdoverLeave c s = { s with
      time := { s.time with holdover := false, epochRes := none, count := c % 2 ^ 64 }, fault := f, book := bk,
      obs := { s.obs with bufs := bufs }, core := { s.core with freezeReq := fz, faultSince := fs },
      regs := { s.regs with cause := cs }, free := fr } := by
  obtain ⟨_, _, _, _, _, _, _, hstep⟩ := countStep_frame c
    { s with time := { s.time with holdover := false, epochRes := none } }
  unfold holdoverLeave
  dsimp only
  rw [hstep]
  obtain ⟨_, _, _, _, _, hev⟩ := event_frame 0xE001 ((s.time.up - s.time.holdSince : Nat) : Int) _
  rw [hev]
  exact ⟨_, _, _, _, _, _, _, rfl⟩

/-- R26: outside holdover a marker loads the count that waits. -/
theorem epochMark_of_pending {s : State} {c : Nat} (was : Bool) (hh : s.time.holdover = false)
    (hp : s.time.pendCount = some c) : ∃ n, epochMark was s = countStep c { s with time := { s.time with
      epochMis := n, pendCount := none, countSet := true, epochRes := none } } :=
  ⟨_, by simp only [epochMark, hp, hh, Bool.false_and, Bool.false_eq_true, if_false]; rfl⟩

/-- R30: in a holdover that had lock before it, a marker ends holdover at the nearest multiple of 1,000. -/
theorem epochMark_of_relocked {s : State} (hh : s.time.holdover = true) (hp : s.time.pendCount = none) :
    ∃ n r, epochMark true s = holdoverLeave (nearestKilo s.time.count)
      { s with time := { s.time with epochMis := n, epochRes := r } } :=
  ⟨_, _, by simp only [epochMark, hp, hh, if_true]; rfl⟩

theorem exec_tick_of_discarded {ref : Int} {s : State} (epoch : Bool) (bclk phase aoclk : Nat)
    (hclk : clocked s = true) (hacc : tickAccepted s.time ref = false) :
    exec (.tick ref epoch bclk phase aoclk true) s = .next { s with
      out := [],
      time := { s.time with
        missed := (s.time.missed + 1) % 2 ^ 16,
        epochMis := if epoch then (s.time.epochMis + 1) % 256 else s.time.epochMis } } := by
  change execTick ref epoch bclk phase aoclk s true = _
  simp only [execTick, clocked_fresh, hclk, fresh_time, hacc]
  rfl

theorem exec_tick_of_unfiltered (ref : Int) {s : State} (bclk phase aoclk : Nat) (hclk : clocked s = true) :
    exec (.tick ref true bclk phase aoclk false) s = .next { s with
      out := [], time := { s.time with epochMis := (s.time.epochMis + 1) % 256 } } := by
  change execTick ref true bclk phase aoclk s false = _
  simp only [execTick, clocked_fresh, hclk]
  rfl

/-- R448: until the generator locks, any pulse at least 950 ns after the last accepted one is taken. -/
theorem tickAccepted_of_reacquiring {t : TimeSt} {ref : Int} (h : reacquiring t = true)
    (hacc : ∀ a, t.lastAcc = some a → 950 ≤ ref - a) : tickAccepted t ref = true := by
  cases hl : t.lastAcc with
  | none => simp [tickAccepted, h, hl]
  | some a => simp [tickAccepted, h, hl, hacc a hl]

/-- Settles O8: the tick of a reacquisition (`tickCount_keeps`), the discarded tick, the lone marker, and the markers that
load the count (`epochMark_of_pending`) or end holdover (`epochMark_of_relocked`). -/
theorem tickKeepsCount : Obligations.TickKeepsCount := by
  refine ⟨fun ref bclk phase aoclk s hup hbclk hblo hbhi hre hacc => ?kept,
    fun ref a epoch bclk phase aoclk s hup hbclk hout =>
      exec_tick_of_discarded epoch bclk phase aoclk (clocked_of hup hbclk) ?outside,
    fun ref bclk phase aoclk s hup hbclk => exec_tick_of_unfiltered ref bclk phase aoclk (clocked_of hup hbclk),
    fun ref bclk phase aoclk c s hup hbclk hh hblo hbhi hacc hp => ?load,
    fun ref bclk phase aoclk s hup hbclk hh hl hany hblo hbhi hacc hp => ?realign⟩
  case kept =>
    have hreq : reacquiring s.time = true := by
      rcases hre with ⟨hh, hl⟩ | hany
      · simp [reacquiring, generatorCounts_eq_true hh hl]
      · simp [reacquiring, hany]
    refine ⟨_, exec_tick_of_accepted false phase aoclk (clocked_of hup hbclk)
      (tickAccepted_of_reacquiring hreq hacc) (intervalOk_of hblo hbhi), ?_⟩
    obtain ⟨_, _, _, _, htel⟩ := telRequestIf_frame (!generatorCounts s.time) (epochNone (tickTaken ref bclk phase aoclk s))
    obtain ⟨_, hnone⟩ := epochNone_frame (tickTaken ref bclk phase aoclk s)
    obtain ⟨_, _, htaken⟩ := tickTaken_frame ref bclk phase aoclk s
    obtain ⟨hcount, hhold⟩ := tickCount_keeps ref hreq
    simp only [Bool.false_eq_true, if_false]
    rw [htel, hnone, htaken]
    exact ⟨hcount, rfl, rfl, rfl, hhold, rfl⟩
  case outside =>
    rcases hout with ⟨hcnt, hany, hlast, hwin⟩ | ⟨hre, hlast, hwin⟩
    · have hg := generatorCounts_eq_false hcnt
      simp only [tickAccepted, reacquiring, hg, hany, hlast, Bool.not_true, Bool.or_false, Bool.false_eq_true, if_false,
        decide_eq_false_iff_not]
      omega
    · have hreq : reacquiring s.time = true := by
        rcases hre with ⟨hh, hl⟩ | hany
        · simp [reacquiring, generatorCounts_eq_true hh hl]
        · simp [reacquiring, hany]
      simp only [tickAccepted, hreq, hlast, if_true, decide_eq_false_iff_not]
      omega
  case load =>
    refine ⟨_, exec_tick_of_accepted true phase aoclk (clocked_of hup hbclk) hacc (intervalOk_of hblo hbhi), ?_⟩
    obtain ⟨po, ao, htaken⟩ := tickTaken_frame ref bclk phase aoclk s
    have hkeep : (tickCount ref s.time).holdover = false ∧ (tickCount ref s.time).pendCount = some c := by
      unfold tickCount
      split
      · exact ⟨hh, hp⟩
      · split <;> exact ⟨hh, hp⟩
    obtain ⟨n, hmark⟩ := epochMark_of_pending (s := tickTaken ref bclk phase aoclk s) s.time.locked hkeep.1 hkeep.2
    obtain ⟨_, _, _, _, _, _, _, hstep⟩ := countStep_frame c { tickTaken ref bclk phase aoclk s with
      time := { (tickTaken ref bclk phase aoclk s).time with
        epochMis := n, pendCount := none, countSet := true, epochRes := none } }
    obtain ⟨_, _, _, _, htel⟩ := telRequestIf_frame (!generatorCounts s.time)
      (epochMark s.time.locked (tickTaken ref bclk phase aoclk s))
    simp only [if_true]
    rw [htel, hmark, hstep, htaken]
    exact ⟨rfl, rfl, rfl, hkeep.1, rfl, rfl, rfl, rfl, rfl, rfl⟩
  case realign =>
    refine ⟨_, exec_tick_of_accepted true phase aoclk (clocked_of hup hbclk) hacc (intervalOk_of hblo hbhi), ?_⟩
    obtain ⟨po, ao, htaken⟩ := tickTaken_frame ref bclk phase aoclk s
    have hcount := tickCount_of_counting ref (generatorCounts_eq_false (.inr hl)) hany
    have htime : (tickTaken ref bclk phase aoclk s).time.holdover = true ∧
        (tickTaken ref bclk phase aoclk s).time.pendCount = none ∧
        (tickTaken ref bclk phase aoclk s).time.count = (s.time.count + 1) % 2 ^ 64 := by
      rw [htaken, hcount]
      exact ⟨hh, hp, rfl⟩
    obtain ⟨hth, htp, htc⟩ := htime
    obtain ⟨n, r, hmark⟩ := epochMark_of_relocked hth htp
    obtain ⟨_, _, _, _, _, _, _, hleave⟩ := holdoverLeave_frame (nearestKilo (tickTaken ref bclk phase aoclk s).time.count)
      { tickTaken ref bclk phase aoclk s with time := { (tickTaken ref bclk phase aoclk s).time with
        epochMis := n, epochRes := r } }
    obtain ⟨_, _, _, _, htel⟩ := telRequestIf_frame (!generatorCounts s.time)
      (epochMark true (tickTaken ref bclk phase aoclk s))
    simp only [if_true, hl]
    rw [htel, hmark, hleave, htc]
    exact ⟨rfl, rfl, rfl, rfl, rfl, rfl, rfl, rfl⟩

/-! ### The generator's tick -/

theorem sameTick_iff (ref : Int) (o : Option Int) : sameTick ref o = true ↔ ∃ a, o = some a ∧ ref < a + 500 := by
  cases o <;> simp [sameTick]

/-- R23, R448: the state at the generator's tick, before a fourth miss in a row is judged. -/
def tickSynthesised (ref : Int) (miss : Bool) (s : State) : State :=
  { s with
    out := [],
    time := { s.time with
      up := s.time.up + 1, opTicks := s.time.opTicks + 1, count := (s.time.count + 1) % 2 ^ 64, lastTick := some ref,
      lastRef := if sameTick ref s.time.lastAcc then s.time.lastRef else some ref,
      missed := if miss then (s.time.missed + 1) % 2 ^ 16 else s.time.missed,
      synthRun := if miss then s.time.synthRun + 1 else s.time.synthRun,
      lockRun := if miss then 0 else s.time.lockRun } }

theorem exec_tickWindowClose_of_due {ref : Int} {s : State} (hclk : clocked s = true) (hany : s.time.anyTick = true)
    (hdue : sameTick ref s.time.lastTick = false) :
    let miss := !generatorCounts s.time && !sameTick ref s.time.lastAcc
    let s1 := tickSynthesised ref miss s
    exec (.tickWindowClose ref) s =
      .next (telRequest (if miss && decide (4 ≤ s1.time.synthRun) then missedFour s1 else s1)) := by
  intro miss s1
  change execTickWindowClose ref s = _
  simp only [execTickWindowClose, clocked_fresh, hclk, fresh_time, hany, hdue]
  rfl

theorem exec_tickWindowClose_of_taken {ref : Int} {s : State} (h : sameTick ref s.time.lastTick = true) :
    exec (.tickWindowClose ref) s = .next { s with out := [] } := by
  change execTickWindowClose ref s = _
  simp only [execTickWindowClose, fresh_time, h, Bool.or_true]
  rfl

theorem recordFault_isOpen (cls code tick opmin : Nat) (inj : Bool) (f : FaultSt) :
    (recordFault cls code tick opmin inj f).isOpen = true := by
  cases h : f.isOpen
  · rw [recordFault_of_closed _ _ _ _ _ h]
  · rw [recordFault_of_open _ _ _ _ _ h, ← h]

theorem recordFault_lastCode (cls code tick opmin : Nat) (inj : Bool) (f : FaultSt) :
    (recordFault cls code tick opmin inj f).lastCode = code := by
  cases h : f.isOpen
  · rw [recordFault_of_closed _ _ _ _ _ h]
  · rw [recordFault_of_open _ _ _ _ _ h]

/-- R331, R332: the record after a fault of class D. -/
theorem report_degraded {code : Nat} {s : State} (v : Int) (hclk : clocked s = true) (h : faultClass code = 3) :
    (report code v s).fault.isOpen = true ∧ (report code v s).fault.lastCode = code ∧
      (report code v s).fault.nD = (s.fault.nD + 1) % 2 ^ 16 := by
  have hrec : (report code v s).fault = recordFault 3 code s.time.count s.book.opmin false (countFault 3 false s.fault) := by
    rw [report_fault code v s hclk (by omega) (by omega), if_neg (by omega), h]
  rw [hrec]
  obtain ⟨-, -, hD, -, -⟩ := recordFault_counts 3 code s.time.count s.book.opmin false (countFault 3 false s.fault)
  exact ⟨recordFault_isOpen .., recordFault_lastCode .., hD⟩

/-- R28: what the entry into holdover sets. -/
theorem holdoverEnter_sets {s : State} (hclk : clocked s = true) (h : s.time.holdover = false) :
    (holdoverEnter s).fault.isOpen = true ∧ (holdoverEnter s).fault.lastCode = 0x1002 ∧
      (holdoverEnter s).fault.nD = (s.fault.nD + 1) % 2 ^ 16 ∧
      (tget 0 1 (holdoverEnter s).regs.cause).testBit 0 = true := by
  rw [holdoverEnter_eq s h]
  obtain ⟨hopen, hlast, hD⟩ := report_degraded (code := 0x1002) (s := { s with time := { s.time with
    holdover := true, locked := false, lockRun := 0, holdSince := s.time.up, epochRes := none } }) 0 hclk (by decide)
  exact ⟨hopen, hlast, hD, raise_bit 1 0 _⟩

/-- R23: after the fourth miss in a row the block is in holdover without lock. -/
theorem missedFour_time (s : State) : ∃ h, (missedFour s).time = { s.time with
    holdover := true, locked := false, lockRun := 0, holdSince := h, epochRes := none } := by
  unfold missedFour
  split
  next hh => exact ⟨s.time.holdSince, by rw [lockLost, ← hh]⟩
  next hh =>
    rw [holdoverEnter_eq s (by simpa using hh)]
    exact ⟨s.time.up, report_time ..⟩

theorem missedFour_of_holdover {s : State} (h : s.time.holdover = true) :
    missedFour s = { s with time := lockLost s.time } := if_pos h

/-- Settles O9: the generator's tick is taken once, and it is a miss unless the block reacquires or its pulse has come. -/
theorem windowClose : Obligations.WindowClose := by
  intro ref s hup hbclk hany
  refine ⟨fun htaken => exec_tickWindowClose_of_taken ((sameTick_iff ..).2 htaken), fun hdue => ?tick⟩
  case tick =>
    have hclk := clocked_of hup hbclk
    have hdue' : sameTick ref s.time.lastTick = false := by
      rw [← Bool.not_eq_true, sameTick_iff]
      rintro ⟨a, ha, hlt⟩
      exact absurd (hdue a ha) (by omega)
    have hcame : (∃ a, s.time.lastAcc = some a ∧ ref < a + 500) ↔ sameTick ref s.time.lastAcc = true :=
      (sameTick_iff ..).symm
    simp only [hcame]
    refine ⟨_, exec_tickWindowClose_of_due hclk hany hdue', ?_⟩
    by_cases hmiss : (s.time.holdover = true ∧ s.time.locked = false) ∨ sameTick ref s.time.lastAcc = true
    · have hm : (!generatorCounts s.time && !sameTick ref s.time.lastAcc) = false := by
        rcases hmiss with ⟨hh, hl⟩ | hc
        · simp [generatorCounts_eq_true hh hl]
        · simp [hc]
      obtain ⟨_, _, _, _, htel⟩ := telRequest_frame (tickSynthesised ref false s)
      simp only [hm, Bool.false_and, Bool.false_eq_true, if_false]
      rw [htel]
      refine ⟨rfl, rfl, rfl, rfl, fun hc => if_pos hc, fun hc => if_neg hc, fun _ => ⟨rfl, rfl, rfl, rfl⟩,
        fun hcnt hc => ?_⟩
      rcases hmiss with ⟨hh, hl⟩ | hc'
      · simp [hh, hl] at hcnt
      · exact absurd hc' hc
    · rw [not_or] at hmiss
      obtain ⟨hcnt, hc⟩ := hmiss
      have hg : generatorCounts s.time = false := by simpa [generatorCounts] using hcnt
      have hm : (!generatorCounts s.time && !sameTick ref s.time.lastAcc) = true := by simp [hg, hc]
      simp only [hm, Bool.true_and, decide_eq_true_eq]
      have hrun : (tickSynthesised ref true s).time.synthRun = s.time.synthRun + 1 := rfl
      have href : (tickSynthesised ref true s).time.lastRef = some ref := if_neg hc
      rw [hrun]
      by_cases h4 : 4 ≤ s.time.synthRun + 1
      · rw [if_pos h4]
        obtain ⟨up, htime⟩ := missedFour_time (tickSynthesised ref true s)
        obtain ⟨_, _, _, _, htel⟩ := telRequest_frame (missedFour (tickSynthesised ref true s))
        rw [htel, htime]
        refine ⟨rfl, rfl, rfl, rfl, fun h => absurd h hc, fun _ => href, fun h => absurd h (by simp [hc, hcnt]),
          fun _ _ => ⟨rfl, rfl, rfl, fun h2 => by omega, fun _ => ⟨rfl, rfl⟩, fun h2 => ?relocked, fun _ hh => ?enters⟩⟩
        case relocked =>
          rcases h2 with h2 | h2
          · omega
          · rw [missedFour_of_holdover (s := tickSynthesised ref true s) h2]
            rfl
        case enters =>
          have hh1 : (tickSynthesised ref true s).time.holdover = false := hh
          simp only [missedFour, hh1, Bool.false_eq_true, if_false]
          exact holdoverEnter_sets (s := tickSynthesised ref true s) hclk hh1
      · rw [if_neg h4]
        obtain ⟨_, _, _, _, htel⟩ := telRequest_frame (tickSynthesised ref true s)
        rw [htel]
        exact ⟨rfl, rfl, rfl, rfl, fun h => absurd h hc, fun _ => href, fun h => absurd h (by simp [hc, hcnt]),
          fun _ _ => ⟨rfl, rfl, rfl, fun _ => ⟨rfl, rfl⟩, fun h3 => by omega, fun _ => rfl, fun h3 => by omega⟩⟩

/-! ### The step lock and the timers -/

/-- Settles O11: the length and the lock of a step start are those of `stepStart_len`. -/
theorem stepLock : Obligations.StepLock := by
  intro oo scene ctx s hup hbclk hahead
  have hord : ordinalAhead s.ord oo = true :=
    (ordinalAhead_iff _ _).2 (hahead.imp_right fun h => ⟨h.1, by omega⟩)
  refine ⟨_, exec_ordinalBeat_of_ahead true scene ctx (clocked_of hup hbclk) hord, ?_, (beatTake_last ..).1, ?_, rfl⟩
  · simp [beatAccepted, beatTake]
  · intro st hst hne len
    have hpos : 0 < len := Nat.pos_of_ne_zero hne
    have hfit : (len < 2 ^ 32 ∧ 0 < len) ↔ len ≤ 2 ^ 32 - 1 := by omega
    obtain ⟨hprev, hlock⟩ := stepStart_len oo st { s.ord with
      seen := true, last := oo, scene := scene, ctx := ctx, adv := s.ord.adv + beatAdvance s.ord oo, beat := true } hst
    simp only [beatAccepted, beatTake, if_true]
    rw [hprev, hlock]
    exact ⟨by simp only [len, hfit], by simp only [len, hfit]⟩

/-- R38: more active samples than the smaller figure, or than TIME_CTRL's alone before any locked step. -/
theorem stepExpired_of {s : State} {st : Nat} (hst : s.ord.start = some st) (hexp : s.ord.expired = false)
    (h : stepLimit s < s.ord.active ∨ ∃ a, s.ord.activeLast = some a ∧ 2 * a < s.ord.active) : stepExpired s = true := by
  simp only [stepExpired, hst, hexp, Option.isSome_some, Bool.not_false, Bool.true_and, decide_eq_true_eq]
  cases hlast : s.ord.activeLast with
  | none =>
    rcases h with h | ⟨a, ha, -⟩
    · exact h
    · rw [hlast] at ha
      cases ha
  | some b =>
    rcases h with h | ⟨a, ha, hlt⟩
    · exact Nat.lt_of_le_of_lt (Nat.min_le_right _ _) h
    · rw [hlast] at ha
      cases ha
      exact Nat.lt_of_le_of_lt (Nat.min_le_left _ _) hlt

/-- Settles O12: each timer's guard holds, and its effect is the one stated. -/
theorem timeTimers : Obligations.TimeTimers := by
  refine ⟨fun st s hup hbclk hst hexp hlim => ?step, fun oo s => rfl, fun s hup hdue => ?minute,
    fun n s hout hrun hok => ?aoclk⟩
  case step =>
    have hexpired : stepExpired (fresh s) = true := stepExpired_of hst hexp hlim
    change execStepTimeout s = _
    simp only [execStepTimeout, hexpired, clocked_fresh, clocked_of hup hbclk, fresh_ord]
    rfl
  case minute =>
    have hguard : (s.start.blkUp && (!s.time.anyTick || decide (60000000 ≤ s.time.opTicks))) = true := by
      rw [hup]
      rcases hdue with h | h <;> simp [h]
    exact if_pos hguard
  case aoclk =>
    have hin : decide (95 ≤ n ∧ n ≤ 105) = false := decide_eq_false (by omega)
    have hrange : (decide (n < 95) || decide (105 < n)) = true := by simpa using hout
    have hmin : min 4 (s.port.aoBadRun + 1) = 4 := by omega
    change execAoclkOutOfRange n s = _
    simp only [execAoclkOutOfRange, aoclkCount, hin, hrange, fresh_port, fresh_start, hmin, hok]
    rfl

end Sys2Proof.Machine
end

section
/-! R134 to R143, R404, R409, R410: answers of the rails and activity records. -/

namespace Sys2Proof.Machine

open Sys2Proof

section
variable {r f : Nat} {s : State}

theorem exec_railResponse_of_silent : exec (.railResponse r f false) s = .next { s with
    out := [], port := { s.port with friMiss := (s.port.friMiss + 1) % 256 } } := by
  have hbad : frameBad s.pb.law r f false = 1 := by simp [frameBad]
  change execRailResponse r f false s = _
  simp only [execRailResponse, fresh_pb, hbad]
  rfl

theorem exec_railResponse_of_ping (hgood : frameBad s.pb.law r f true = 0) (hty : bits f 43 40 = 0xB)
    (hnew : r ∉ s.port.replied) : exec (.railResponse r f true) s = .next { s with
      out := [], port := { s.port with replied := s.port.replied ++ [r] } } := by
  have hcont : s.port.replied.contains r = false := by simpa using hnew
  change execRailResponse r f true s = _
  simp only [execRailResponse, fresh_pb, hgood, hty, fresh_port, hcont]
  rfl

theorem railFields (f : Nat) : bits f 39 24 = f / 2 ^ 24 % 2 ^ 16 ∧ bits f 23 8 = f / 2 ^ 8 % 2 ^ 16 := by
  simp [bits, Nat.shiftRight_eq_div_pow]

/-- R409: the state once a telemetry frame has answered the open phase. -/
def railAnswered (r f : Nat) (s : State) : State :=
  { s with
    out := [],
    tel := { s.tel with
      answered := tins r (f / 2 ^ 24 % 2 ^ 16, f / 2 ^ 8 % 2 ^ 16) s.tel.answered,
      lastP := tset 0 r ((1024 * (f / 2 ^ 24 % 2 ^ 16) * (f / 2 ^ 8 % 2 ^ 16) : Nat) : Int) s.tel.lastP } }

theorem exec_railResponse_of_telemetry {t : Nat} (hgood : frameBad s.pb.law r f true = 0)
    (hty : bits f 43 40 = 9 ∨ bits f 43 40 = 0xA) (hmeas : r ∈ s.pb.model.measured) (hrep : r ∈ s.port.replied)
    (hphase : s.tel.phase = some t) :
    exec (.railResponse r f true) s = .next
      (if s.pb.model.measured.all (fun m => (tlook m (railAnswered r f s).tel.answered).isSome)
       then telEnd true t (railAnswered r f s) else railAnswered r f s) := by
  have hnot : bits f 43 40 ≠ 0xB := by omega
  have hrail : (telRails (fresh s)).contains r = true := by simp [telRails, hmeas, hrep]
  have htype : (decide (bits f 43 40 = 9) || decide (bits f 43 40 = 0xA)) = true := by simpa using hty
  change execRailResponse r f true s = _
  simp only [execRailResponse, fresh_pb, hgood, hnot, htype, hrail, fresh_tel, hphase, (railFields f).1, (railFields f).2, ne_eq, not_true_eq_false,
    if_false, if_true, Bool.true_and, railPower, railAnswered]
  rfl

end

/-- Settles O13: one equation for each kind of frame and answer. -/
theorem railAnswers : Obligations.RailAnswers := by
  refine ⟨fun r f s => exec_railResponse_of_silent, fun r f s => exec_railResponse_of_ping,
    fun r f t s hgood hty hmeas hrep hphase => ?telemetry, fun t s hphase => ?timeout,
    fun r s => ⟨fun mv hq => ⟨?ack, fun htry => ?again, fun htry hun => ?gaveUp⟩, fun ok hq => ?noneWaits⟩⟩
  case telemetry =>
    rw [exec_railResponse_of_telemetry hgood hty hmeas hrep hphase]
    refine ⟨fun ⟨m, hm, hnone⟩ => ?_, fun hall => ⟨_, rfl, ?_⟩⟩
    · rw [if_neg]
      · rfl
      · intro h
        have := List.all_eq_true.1 h m hm
        simp only [railAnswered, hnone] at this
        cases this
    · rw [if_pos]
      · rfl
      · exact List.all_eq_true.2 fun m hm => Option.isSome_iff_ne_none.2 (hall m hm)
  case timeout =>
    refine ⟨telEnd false t (fresh s), ?_, rfl, rfl, rfl, rfl, rfl⟩
    change execTelemetryTimeout s = _
    simp only [execTelemetryTimeout, fresh_tel, hphase]
    rfl
  case ack =>
    change execAvsResponse r true s = _
    simp only [execAvsResponse, fresh_port, hq]
    rfl
  case again =>
    change execAvsResponse r false s = _
    simp only [execAvsResponse, fresh_port, hq, Bool.false_eq_true, if_false, Nat.not_le.2 htry]
    rfl
  case gaveUp =>
    have hcont : s.port.avsUnconf.contains r = false := by simpa using hun
    change execAvsResponse r false s = _
    simp only [execAvsResponse, fresh_port, hq, if_pos htry, hcont]
    rfl
  case noneWaits =>
    change execAvsResponse r ok s = _
    simp only [execAvsResponse, fresh_port, hq]
    rfl

/-! ### Activity records -/

theorem recordLate_iff (k p sm w : Nat) : recordLate k p sm w = true ↔
    2 ≤ (k + 4 - sm % 4) % 4 ∨ (k + 4 - sm % 4) % 4 = 1 ∧ w + 1 < windowsOf p := by
  simp [recordLate]

/-- Settles O14: a record that the agent map does not place is dropped; any other is added. -/
theorem activityAdds : Obligations.ActivityAdds := by
  refine ⟨fun b slot ctx sm w taps s hout => ?dropped, fun b slot ctx sm w taps s hslot hhere => ?added⟩
  case dropped =>
    have hguard : (!s.pb.agents.any (fun a => a.1 / 64 == b) || decide (4 < slot)) = true := by
      rcases hout with hout | hslot
      · simpa using .inl fun a c ha => hout (a, c) ha
      · simp [hslot]
    exact if_pos hguard
  case added =>
    obtain ⟨a, ha, hb⟩ := hhere
    have hguard : ¬ (!s.pb.agents.any (fun a => a.1 / 64 == b) || decide (4 < slot)) = true := by
      simpa using ⟨⟨a.1, ⟨a.2, ha⟩, hb⟩, hslot⟩
    refine ⟨_, if_neg hguard, rfl, rfl, rfl, ?_, rfl⟩
    simp only [← recordLate_iff]
    rfl

end Sys2Proof.Machine
end

section
/-! R48 to R51, R68, R69, R86, R87: requests and returns at an Agent. -/

namespace Sys2Proof.Machine

open Sys2Proof

/-! ### Requests -/

/-- R50: the resolved cost, and whether a supplied cost exceeds the class entry's. -/
theorem resolveCost_eq (cost : Tab Nat) (cls supplied : Nat) :
    resolveCost cost cls supplied =
      (if (tget 0 (2 * cls + 1) cost).testBit 8 then supplied else tget 0 (2 * cls) cost % 2 ^ 24,
       decide ((tget 0 (2 * cls + 1) cost).testBit 8 = true ∧ tget 0 (2 * cls) cost % 2 ^ 24 < supplied)) := by
  unfold resolveCost
  rw [bits_23_0]
  cases h : (tget 0 (2 * cls + 1) cost).testBit 8 <;> simp

/-- R69: the state in which a request is judged: a return that it meets is dropped and counted. -/
def asking (ret : Bool) (s : State) : State :=
  { s with out := [], tk := { s.tk with
    retConflict := if ret then (s.tk.retConflict + 1) % 256 else s.tk.retConflict } }

theorem holderCheck_zero (inj : Bool) (a h : Nat) (s : State) : holderCheck inj a h 0 s = s := rfl

theorem exec_tkReq {a h : Nat} (cls supplied : Nat) (ret : Bool) {s : State} (hhere : (tlook a s.pb.agents).isSome = true)
    (hup : s.start.blkUp = true) (hrst : (agentOf s a).engRst = false) (hinj : s.fault.inj = none)
    (hgood : h ∉ (agentOf s a).badHolders) :
    exec (.tkReq a h cls supplied ret 0) s = .next (askAgent a h cls supplied (asking ret s)) := by
  have hcont : (tget agent0 a s.tk.agents).badHolders.contains h = false := by simpa [agentOf] using hgood
  have hrst' : (tget agent0 a s.tk.agents).engRst = false := hrst
  change execTkReq a h cls supplied ret 0 s = _
  simp only [execTkReq, agentHere_of hhere hup, agentOf, fresh_tk, hrst', injCheck_none, fresh_fault, hinj,
    holderCheck_zero, ↓reduceIte, Bool.not_true, Bool.false_eq_true]
  exact if_neg (hcont ▸ Bool.false_ne_true)

/-- R81, R87: the Agent after a refusal withdrew what the holder had pending. -/
def refusedAt (a h : Nat) (s : State) : Agent := putHolder h (holderRefuse (holderOf (agentOf s a) h)) (agentOf s a)

theorem askAgent_of_oversize {a h cls supplied : Nat} {s : State} (hover : (resolveCost s.tk.cost cls supplied).2 = true) :
    askAgent a h cls supplied s = report 0x2003 0 (putAgent a (refusedAt a h s)
      { s with tk := { s.tk with oversize := (s.tk.oversize + 1) % 256 } }) := if_pos hover

theorem askAgent_of_ceiling {a h cls supplied : Nat} {s : State} (hover : (resolveCost s.tk.cost cls supplied).2 = false)
    (hceil : (agentMap s a).poolCeil < (resolveCost s.tk.cost cls supplied).1) :
    askAgent a h cls supplied s = report 0x2003 0 (putAgent a (refusedAt a h s)
      { s with tk := { s.tk with ceilRefused := (s.tk.ceilRefused + 1) % 256 } }) := by
  simp only [askAgent, hover, Bool.false_eq_true, if_false, if_pos hceil]
  rfl

theorem askAgent_of_fitting {a h cls supplied : Nat} {s : State} (hover : (resolveCost s.tk.cost cls supplied).2 = false)
    (hceil : (resolveCost s.tk.cost cls supplied).1 ≤ (agentMap s a).poolCeil) :
    askAgent a h cls supplied s =
      putAgent a (putHolder h (holderAsk cls (bits (tget 0 (2 * cls + 1) s.tk.cost) 7 4)
          (resolveCost s.tk.cost cls supplied).1 (nextQ s.time) (holderOf (agentOf s a) h)) (agentOf s a))
        { s with tk := { s.tk with reqReplace := wrapInc 8 (holderOf (agentOf s a) h).wait s.tk.reqReplace } } := by
  simp only [askAgent, hover, Bool.false_eq_true, if_false, if_neg (Nat.not_lt.2 hceil)]

theorem wrapInc_of_true {n c : Nat} {b : Bool} (h : b = true) : wrapInc n b c = (c + 1) % 2 ^ n := if_pos h

theorem wrapInc_of_false {n c : Nat} {b : Bool} (h : b = false) : wrapInc n b c = c := if_neg (h ▸ Bool.false_ne_true)

theorem holderAsk_of_waiting (cls prio cost at4 : Nat) {e : Holder} (h : e.wait = true) :
    holderAsk cls prio cost at4 e = { e with cls := cls, prio := prio, cost := cost } := if_pos h

theorem holderAsk_of_idle (cls prio cost at4 : Nat) {e : Holder} (h : e.wait = false) :
    holderAsk cls prio cost at4 e = { e with
      wait := true, reserving := false, descSent := false, cls := cls, prio := prio, cost := cost, reason := 0, w := 0,
      since := at4 } := if_neg (h ▸ Bool.false_ne_true)

/-- Settles O15: the request is judged as `askAgent` judges it, by the cost of `resolveCost_eq`. -/
theorem requestTaken : Obligations.RequestTaken := by
  intro a h cls supplied ret s hhere hup hrst hinj hgood e entry word cost over1 tk0 refusedAgent
  have hres : resolveCost (asking ret s).tk.cost cls supplied = (cost, decide over1) := resolveCost_eq ..
  have hno (h1 : ¬ over1) : (resolveCost (asking ret s).tk.cost cls supplied).2 = false := by
    rw [hres]
    exact decide_eq_false h1
  have hcost : (resolveCost (asking ret s).tk.cost cls supplied).1 = cost := by rw [hres]
  rw [exec_tkReq cls supplied ret hhere hup hrst hinj hgood]
  refine ⟨fun h1 hfit hwait => ?fresh, fun h1 hfit hwait => ?replaced, fun h1 => ?oversize, fun h1 hceil => ?ceiling⟩
  case fresh =>
    have hidle : (holderOf (agentOf (asking ret s) a) h).wait = false := hwait
    rw [askAgent_of_fitting (hno h1) (hcost ▸ hfit), hcost, bits_7_4, holderAsk_of_idle _ _ _ _ hidle,
      wrapInc_of_false hidle]
    rfl
  case replaced =>
    have hwaits : (holderOf (agentOf (asking ret s) a) h).wait = true := hwait
    rw [askAgent_of_fitting (hno h1) (hcost ▸ hfit), hcost, bits_7_4, holderAsk_of_waiting _ _ _ _ hwaits,
      wrapInc_of_true hwaits]
    rfl
  case oversize =>
    rw [askAgent_of_oversize (by rw [hres]; exact decide_eq_true h1)]
    rfl
  case ceiling =>
    rw [askAgent_of_ceiling (hno h1) (hcost ▸ hceil)]
    rfl

/-! ### Returns -/

theorem epochRoll_same {count : Nat} {g : Agent} (h : g.epoch = count / 4) : epochRoll count g = g := if_pos h.symm

theorem epochRoll_fresh {a : Nat} {s : State} (hep : (agentOf s a).epoch = s.time.count / 4) :
    epochRoll (fresh s).time.count (agentOf (fresh s) a) = agentOf s a := epochRoll_same hep

theorem not_agentGone {a : Nat} {s : State} (hhere : (tlook a s.pb.agents).isSome = true) (hup : s.start.blkUp = true) :
    ¬ (!agentHere (fresh s) a) = true := by simp [agentHere_of hhere hup]

section
variable {a n : Nat} (h : Nat) {s : State} (hhere : (tlook a s.pb.agents).isSome = true) (hup : s.start.blkUp = true)
  (hep : (agentOf s a).epoch = s.time.count / 4)
include hhere hup hep

/-- R68: a return of tickets outside bypass. -/
theorem exec_tkRet_of_count (hn : n ≠ 0) (hbyp : (agentOf s a).byp = false) :
    exec (.tkRet a h n) s = .next
      (let m := min n (returnable (agentOf s a))
       let s1 := putAgent a { agentOf s a with
         ret := wrapAdd 32 (agentOf s a).ret m, epRet := (agentOf s a).epRet + m,
         retSample := (agentOf s a).retSample + m } (fresh s)
       reportIf (decide (m < n)) 0x2002 0
         { s1 with tk := { s1.tk with retClip := wrapInc 8 (decide (m < n)) s1.tk.retClip } }) := by
  change execTkRet a h n s = _
  unfold execTkRet
  dsimp only
  rw [if_neg (not_agentGone hhere hup), if_neg hn, epochRoll_fresh hep, if_neg (hbyp ▸ Bool.false_ne_true)]
  rfl

/-- R51, R68: a return of 0 withdraws what the holder asked for. -/
theorem exec_tkRet_of_zero (hwait : (holderOf (agentOf s a) h).wait = true) :
    exec (.tkRet a h 0) s = .next (putAgent a (putHolder h { holderOf (agentOf s a) h with
      wait := false, reserving := false, descSent := false, reason := 0, w := 0 } (agentOf s a)) (fresh s)) := by
  change execTkRet a h 0 s = _
  unfold execTkRet
  dsimp only
  rw [if_neg (not_agentGone hhere hup), if_pos rfl, epochRoll_fresh hep, if_pos hwait]
  rfl

end

/-- Settles O16: within its epoch an Agent takes back what `returnable` allows. -/
theorem returnTaken : Obligations.ReturnTaken := by
  intro a h n s hhere hup hep g room took
  refine ⟨fun hpos hle hbyp => ?whole, fun hlt hbyp => ?clipped, exec_tkRet_of_zero h hhere hup hep⟩
  case whole =>
    have hmin : ¬ min n (returnable (agentOf s a)) < n := Nat.not_lt.2 (Nat.le_min.2 ⟨Nat.le_refl n, hle⟩)
    rw [exec_tkRet_of_count h hhere hup hep (by omega) hbyp]
    dsimp only
    rw [decide_eq_false hmin]
    rfl
  case clipped =>
    have hmin : min n (returnable (agentOf s a)) < n := Nat.lt_of_le_of_lt (Nat.min_le_right ..) hlt
    rw [exec_tkRet_of_count h hhere hup hep (by omega) hbyp]
    dsimp only
    rw [decide_eq_true hmin]
    rfl

end Sys2Proof.Machine
end

section
/-! R62, R65: the decision of a host cycle at a lump Agent. -/

namespace Sys2Proof.Machine

open Sys2Proof

/-! ### One host cycle -/

theorem decisionEcc_clean {s : State} (a : Nat) (h : s.fault.inj = none) : decisionEcc a [] s = s := by
  unfold decisionEcc
  split
  · rfl
  · simp [injCheck_none, h, holderCheck_zero]

theorem poolCheck_within {s : State} {a : Nat}
    (h : (agentOf s a).byp = true ∨ poolOf (agentOf s a) ≤ (agentMap s a).poolCeil ∧ poolOf (agentOf s a) < 2 ^ 24) :
    poolCheck a s = s := by
  refine if_neg ?_
  simp only [derivedMax, Bool.and_eq_true, Bool.not_eq_true', Bool.or_eq_true, decide_eq_true_eq]
  rintro ⟨hbyp, hover⟩
  rcases h with h | ⟨hceil, hmax⟩
  · simp [h] at hbyp
  · rcases hover with hover | hover
    · exact absurd hceil (Nat.not_le.2 hover)
    · exact absurd (of_decide_eq_true hover) (Nat.not_lt.2 (Nat.le_sub_one_of_lt hmax))

theorem epochRoll_frame (count : Nat) (g : Agent) :
    ∃ e go ro gr re, epochRoll count g =
      { g with epoch := e, epGrantOld := go, epRetOld := ro, epGrant := gr, epRet := re } := by
  unfold epochRoll
  dsimp only
  split
  · exact ⟨g.epoch, g.epGrantOld, g.epRetOld, g.epGrant, g.epRet, rfl⟩
  · split <;> exact ⟨_, _, _, _, _, rfl⟩

/-- The Agent as the decision of a host cycle meets it: its request rate, the bucket and the watchdog have moved on, and every
wait is one cycle longer. -/
def cycleBegun (c : AgentCfg) (req : Nat) (g : Agent) : Agent :=
  holdersAge { g with
    reqRate := req, bucket := min (bypCap c) (g.bucket + bypFill c), wdCyc := if g.wdRun then g.wdCyc + 1 else 0 }

/-- The Agent with its wait reason. -/
def cycleReason (g : Agent) : Agent := { g with tkReason := tkReasonOf g }

/-- The Agent with its engine counters. -/
def cycleEnded (c : AgentCfg) (busy : Bool) (g : Agent) : Agent :=
  { g with eng := engAdd (engStall c g) g.engRst busy g.eng }

/-- R134, R369: what a host cycle leaves at the Booth and in the operation counters. -/
def cycleCounted (a ctx : Nat) (busy : Bool) (taps : List (Nat × Nat)) (c : AgentCfg) (g : Agent) (tkts : Nat)
    (s : State) : State :=
  let r := engStall c g
  let b0 := tget booth0 (a / 64) s.tk.booths
  let b1 := boothCycle ctx taps (busy && !g.engRst) (decide (r ≠ 0)) b0
  let s1 := putAgent a (cycleEnded c busy g) s
  { s1 with
    tk := { s1.tk with booths := tset booth0 (a / 64) b1 s1.tk.booths,
                       ctxOverflow := wrapInc 8 (b1.overflow && !b0.overflow) s1.tk.ctxOverflow },
    obs := if c.isArray then opCycle (decide (r ≠ 0)) tkts s1.obs else s1.obs }

/-- A host cycle at an Agent whose entries and pool have been checked and whose pulse has been driven. -/
def hostCycle (a ps ctx req : Nat) (busy : Bool) (taps : List (Nat × Nat)) (s : State) (p : Agent × State) : State :=
  let c := agentMap s a
  let g1 := cycleBegun c req p.1
  let hold := activeHold s a g1
  let l := leaseCycle c (slopeLeft s a) ps hold (fabricHeld s) (grantDecide c hold (fabricHeld s) g1)
  cycleCounted a ctx busy taps c (cycleReason l.1) l.2 p.2

theorem execGrantDecision_eq (a ps ctx req : Nat) (busy : Bool) (taps ecc : List (Nat × Nat)) (s0 : State) :
    execGrantDecision a ps busy ctx taps req s0 ecc =
      if !agentHere (fresh s0) a then done (fresh s0)
      else
        let s := poolCheck a (decisionEcc a ecc (fresh s0))
        done (hostCycle a ps ctx req busy taps s (grantPulse a (epochRoll s.time.count (agentOf s a)) s)) := rfl

theorem cycleCounted_frame (a ctx : Nat) (busy : Bool) (taps : List (Nat × Nat)) (c : AgentCfg) (g : Agent) (tkts : Nat)
    (s : State) : ∃ ob bo co, cycleCounted a ctx busy taps c g tkts s =
      { s with obs := ob, tk := { s.tk with
        agents := tset agent0 a (cycleEnded c busy g) s.tk.agents, booths := bo, ctxOverflow := co } } := ⟨_, _, _, rfl⟩

theorem leaseCycle_of_lump {c : AgentCfg} (h : c.lease = false) (slope ps hold : Nat) (out : Bool) (g : Agent) :
    leaseCycle c slope ps hold out g = (g, 0) := by simp [leaseCycle, h]

/-- A host cycle at a lump Agent whose pool is within its bounds, with no pulse due and no injection. -/
theorem exec_grantDecision_lump {a : Nat} (ps ctx req : Nat) (busy : Bool) (taps : List (Nat × Nat)) {s : State}
    (hhere : (tlook a s.pb.agents).isSome = true) (hup : s.start.blkUp = true) (hinj : s.fault.inj = none)
    (hpool : poolOf (agentOf s a) ≤ (agentMap s a).poolCeil ∧ poolOf (agentOf s a) < 2 ^ 24)
    (hpulse : (agentOf s a).pulse = none) (hlump : (agentMap s a).lease = false) :
    let c := agentMap s a
    let g1 := cycleBegun c req (epochRoll s.time.count (agentOf s a))
    ∃ ob bo co, exec (.grantDecision a ps busy ctx taps req []) s = .next { s with
      out := [], obs := ob, tk := { s.tk with
        agents := tset agent0 a (cycleEnded c busy (cycleReason (grantDecide c (activeHold s a g1) (fabricHeld s) g1)))
          s.tk.agents,
        booths := bo, ctxOverflow := co } } := by
  intro c g1
  have hecc : decisionEcc a [] (fresh s) = fresh s := decisionEcc_clean a hinj
  have hchk : poolCheck a (fresh s) = fresh s := poolCheck_within (.inr hpool)
  have hnone : (epochRoll (fresh s).time.count (agentOf (fresh s) a)).pulse = none := by
    obtain ⟨_, _, _, _, _, h⟩ := epochRoll_frame (fresh s).time.count (agentOf (fresh s) a)
    rw [h]
    exact hpulse
  have hpul : grantPulse a (epochRoll (fresh s).time.count (agentOf (fresh s) a)) (fresh s) =
      (epochRoll (fresh s).time.count (agentOf (fresh s) a), fresh s) := by simp only [grantPulse, hnone]
  have hlease : (agentMap (fresh s) a).lease = false := hlump
  change ∃ ob bo co, execGrantDecision a ps busy ctx taps req s [] = _
  rw [execGrantDecision_eq, if_neg (not_agentGone hhere hup), hecc, hchk]
  dsimp only
  rw [hpul, hostCycle, leaseCycle_of_lump hlease]
  obtain ⟨ob, bo, co, h⟩ := cycleCounted_frame a ctx busy taps c
    (cycleReason (grantDecide c (activeHold s a g1) (fabricHeld s) g1)) 0 (fresh s)
  exact ⟨ob, bo, co, congrArg done h⟩

/-! ### The decision with one waiting holder -/

/-- R62, R65: with one waiting holder and no status due, it is granted where its cost fits the pool and the ceiling, and else
takes the tag of what it lacks. -/
theorem grantDecide_single (c : AgentCfg) {g : Agent} {h : Nat} {e : Holder} (hholders : g.holders = [(h, e)])
    (hwait : e.wait = true) (hrec : e.reclaimed = false) (hexp : e.expired = false) (href : e.refused = false)
    (hhand : g.handGrants = []) (hrst : g.engRst = false) (hbyp : g.byp = false) :
    grantDecide c 0 false g =
      if e.cost ≤ poolOf g ∧ e.cost ≤ g.rcLeft then grantLump h e g
      else putHolder h { e with reason := if poolOf g < e.cost then g.poolTag else g.rateTag } g := by
  have hstatus : statusDue g = none := by simp [statusDue, hholders, hrec, hexp, href]
  have hwaiting : waitingOf g = [(h, e)] := by simp [waitingOf, hholders, hwait]
  have horder : holderOrder [(h, e)] = [(h, e)] := rfl
  cases hres : e.reserving <;>
    simp [grantDecide, hstatus, hhand, hrst, hwaiting, hbyp, hres, horder, lumpScan]

theorem holderOf_putHolder_single {g : Agent} {h : Nat} {e x : Holder} (hholders : g.holders = [(h, e)])
    (hwait : e.wait = true) : holderOf (putHolder h x g) h = x := by
  have hne : e ≠ holder0 := by
    rintro rfl
    cases hwait
  rw [holderOf, putHolder, hholders]
  exact tget_tset_self _ _ _ _ (by simp [twf, hne])

/-- What a host cycle's beginning leaves of an Agent with one waiting holder. -/
theorem cycleBegun_single {c : AgentCfg} {count req : Nat} {g : Agent} {h : Nat} {e : Holder}
    (hholders : g.holders = [(h, e)]) (hwait : e.wait = true) :
    let g1 := cycleBegun c req (epochRoll count g)
    g1.holders = [(h, { e with w := e.w + 1 })] ∧ g1.handGrants = g.handGrants ∧ g1.engRst = g.engRst ∧ g1.byp = g.byp ∧
      g1.recv = g.recv ∧ g1.spent = g.spent ∧ g1.ret = g.ret ∧ g1.rcLeft = g.rcLeft ∧ g1.grantedNow = g.grantedNow ∧
      g1.poolTag = g.poolTag ∧ g1.rateTag = g.rateTag ∧ g1.pulse = g.pulse ∧ g1.handHold = g.handHold := by
  obtain ⟨_, _, _, _, _, hroll⟩ := epochRoll_frame count g
  rw [hroll]
  refine ⟨?_, rfl, rfl, rfl, rfl, rfl, rfl, rfl, rfl, rfl, rfl, rfl, rfl⟩
  simp only [cycleBegun, holdersAge, tadj, hholders, hwait, List.map_cons, List.map_nil, if_true]
  exact List.filter_cons_of_pos (decide_eq_true fun h0 => by cases congrArg Holder.wait h0)

theorem activeHold_congr {g g' : Agent} (s : State) (a : Nat) (h : g'.handHold = g.handHold) :
    activeHold s a g' = activeHold s a g := by
  unfold activeHold
  rw [show handHeld s g' = handHeld s g from congrArg (· || s.fault.curtArm) h]

/-- R309: while the block runs, the fabric does not drive its hold outputs. -/
theorem fabricHeld_of_running {s : State} (h : running s = true) : fabricHeld s = false ∧ s.start.blkUp = true := by
  simp only [running, Bool.and_eq_true, Bool.not_eq_true'] at h
  obtain ⟨⟨hout, hup⟩, hbclk⟩ := h
  exact ⟨by simp [fabricHeld, hout, hbclk], hup⟩

/-- Settles O17: the host cycle of `exec_grantDecision_lump` with the decision of `grantDecide_single`. -/
theorem grantLump_settled : Obligations.GrantLump := by
  intro a h ps ctx req busy taps e s hhere hrun hinj hhand hceil hmax hlump hrst hbyp hpulse hholders hwait hrec hexp href
    hhold
  obtain ⟨hout, hup⟩ := fabricHeld_of_running hrun
  obtain ⟨ob, bo, co, hexec⟩ :=
    exec_grantDecision_lump ps ctx req busy taps hhere hup hinj ⟨hceil, hmax⟩ hpulse hlump
  obtain ⟨gHold, gHand, gRst, gByp, gRecv, gSpent, gRet, gRc, gGranted, gPool, gRate, gPulse, gHandHold⟩ :=
    cycleBegun_single (c := agentMap s a) (count := s.time.count) (req := req) hholders hwait
  generalize hg1 : cycleBegun (agentMap s a) req (epochRoll s.time.count (agentOf s a)) = g1 at *
  have hpool : poolOf g1 = poolOf (agentOf s a) := by rw [poolOf, poolOf, gRecv, gSpent]
  rw [activeHold_congr s a gHandHold, hhold, hout, grantDecide_single _ gHold hwait hrec hexp href (gHand.trans hhand)
    (gRst.trans hrst) (gByp.trans hbyp), hpool, gRc] at hexec
  refine ⟨_, hexec, fun hfit hrc => ⟨_, rfl, ?granted⟩, fun hlack => ⟨_, rfl, ?waits⟩, rfl⟩
  case granted =>
    rw [if_pos ⟨hfit, hrc⟩]
    refine ⟨congrArg (wrapAdd 32 · e.cost) gSpent, congrArg (· - e.cost) gRc, congrArg (wrapAdd 32 · e.cost) gGranted, gRecv,
      gRet, ?_, rfl⟩
    exact congrArg Holder.wait (holderOf_putHolder_single (x := holderClear { e with w := e.w + 1 }) gHold hwait)
  case waits =>
    rw [if_neg fun ⟨hfit, hrc⟩ => hlack.elim (Nat.not_lt.2 hfit) (Nat.not_lt.2 hrc)]
    have hentry := holderOf_putHolder_single (x := { e with
      w := e.w + 1, reason := if poolOf (agentOf s a) < e.cost then g1.poolTag else g1.rateTag }) gHold hwait
    refine ⟨gSpent, gRc, gRecv, gPulse.trans hpulse, ?_, ?_, ?_⟩
    · exact (congrArg Holder.wait hentry).trans hwait
    · exact congrArg Holder.w hentry
    · rw [← gPool, ← gRate]
      exact congrArg Holder.reason hentry

end Sys2Proof.Machine
end

section
/-! R63, R70, R71, R91 to R95: the timers of an Agent, its engine's reset and the entry into bypass. -/

namespace Sys2Proof.Machine

open Sys2Proof

/-! ### Expiry -/

/-- R80: an entry that expires. -/
theorem statusGiven_expired (e : Holder) :
    ({ statusGiven 2 e with expired := true } : Holder) =
      { e with wait := false, reserving := false, descSent := false, reclaimed := false, reason := 0, w := 0,
               expired := true } := by
  simp [statusGiven, holderClear]

/-- R91: a hand hold stops the quota. -/
theorem expiryDue_of_handHeld {s : State} {a : Nat} (h : Nat) (hheld : handHeld s (agentOf s a) = true) :
    expiryDue s a h = false := by
  unfold expiryDue
  dsimp only
  split
  · rfl
  · simp [hheld]

theorem expiryDue_of {s : State} {a h t0 : Nat} (hhere : agentHere s a = true)
    (hstop : (tget boothDom0 (a / 64 * 4 + (agentMap s a).dom) s.tk.bds).stopUp = some t0)
    (hwait : (holderOf (agentOf s a) h).wait = true) (hfree : handHeld s (agentOf s a) = false)
    (hbyp : (agentOf s a).byp = false) (hdrain : areg s 0x2080 % 2 ^ 10 ≠ 0)
    (hup : t0 + 4 * (areg s 0x2080 % 2 ^ 10) ≤ s.time.edgeQ)
    (hsince : (holderOf (agentOf s a) h).since + 4 * (areg s 0x2080 % 2 ^ 10) ≤ s.time.edgeQ) :
    expiryDue s a h = true := by
  unfold expiryDue
  dsimp only
  rw [hstop, bits_9_0]
  simp only [hhere, hwait, hfree, hbyp, decide_eq_true hdrain, decide_eq_true (And.intro hup hsince), Bool.not_false,
    Bool.and_self]

theorem exec_forcedExpiry_of_due {s : State} {a h : Nat} (hdue : expiryDue s a h = true) (hgrant : grantsNow s a h = false) :
    let bd := a / 64 * 4 + (agentMap s a).dom
    let u := putAgent a (putHolder h { statusGiven 2 (holderOf (agentOf s a) h) with expired := true } (agentOf s a))
      { s with out := [] }
    exec (.forcedExpiry a h) s = .next (reportIf (!(tget boothDom0 bd s.tk.bds).stopTold) 0x2004 0 { u with
      tk := { u.tk with
        forcedExpiry := (s.tk.forcedExpiry + 1) % 256,
        bds := tmod boothDom0 bd (fun x => { x with stopTold := true }) s.tk.bds } }) := by
  have hguard : (expiryDue (fresh s) a h && !grantsNow (fresh s) a h) = true := by
    rw [show expiryDue (fresh s) a h = true from hdue, show grantsNow (fresh s) a h = false from hgrant]
    rfl
  exact if_pos hguard

theorem exec_forcedExpiry_of_not_due {s : State} {a h : Nat} (hdue : expiryDue s a h = false) :
    exec (.forcedExpiry a h) s = .next { s with out := [] } := by
  have hguard : ¬ (expiryDue (fresh s) a h && !grantsNow (fresh s) a h) = true := by
    rw [show expiryDue (fresh s) a h = false from hdue]
    exact Bool.false_ne_true
  exact if_neg hguard

/-! ### The engine's reset -/

/-- R92, R93: the Agent once its engine is in reset. -/
def resetAgent (g : Agent) : Agent :=
  { g with
    engRst := true, rateQ := 0, target := 0, igniting := false, took := 0, rcLeft := g.rcLeft - g.credit, credit := 0,
    holders := tadj holder0 (fun _ e => { holderClear e with reclaimed := e.wait }) g.holders }

theorem exec_engRstAssert {s : State} {a : Nat} (hhere : (tlook a s.pb.agents).isSome = true) (hup : s.start.blkUp = true)
    (hrst : (agentOf s a).engRst = false) :
    exec (.engRstAssert a) s = .next { putAgent a (resetAgent (agentOf s a)) { s with out := [] } with
      tk := { (putAgent a (resetAgent (agentOf s a)) { s with out := [] }).tk with
        reclaims := (s.tk.reclaims + ((agentOf s a).holders.filter (fun x => x.2.wait)).length) % 256 } } := by
  have hguard : ¬ (!agentHere (fresh s) a || (agentOf s a).engRst) = true := by simp [agentHere_of hhere hup, hrst]
  exact if_neg hguard

/-- R92: every holder that waited is reclaimed. -/
theorem resetAgent_reclaims {g : Agent} {x : Nat × Holder} (hx : x ∈ g.holders) (hwait : x.2.wait = true) :
    ∃ y ∈ (resetAgent g).holders, y.1 = x.1 ∧ y.2.reclaimed = true := by
  refine ⟨(x.1, { holderClear x.2 with reclaimed := x.2.wait }), ?_, rfl, hwait⟩
  refine List.mem_filter.2 ⟨List.mem_map.2 ⟨x, hx, rfl⟩, decide_eq_true fun h0 => ?_⟩
  have hrec := congrArg Holder.reclaimed h0
  simp only [hwait] at hrec
  cases hrec

/-- R92: no holder waits, and only those that waited are reclaimed. -/
theorem resetAgent_idle {g : Agent} {y : Nat × Holder} (hy : y ∈ (resetAgent g).holders) :
    y.2.wait = false ∧ (y.2.reclaimed = true → ∃ x ∈ g.holders, x.1 = y.1 ∧ x.2.wait = true) := by
  obtain ⟨x, hx, rfl⟩ := List.mem_map.1 (List.mem_filter.1 hy).1
  exact ⟨rfl, fun hrec => ⟨x, hx, rfl, hrec⟩⟩

/-! ### Bypass -/

theorem bypEnter_of_outside {s : State} {a cause : Nat} (inj : Bool) (h : (agentOf s a).byp = false) :
    bypEnter inj a cause s = raise 2 0 (reportInj inj 0x2005 (a : Int) (
      let u := putAgent a (bypAgent cause (agentOf s a)) s
      { u with tk := { u.tk with bypassEntries := (s.tk.bypassEntries + 1) % 256 } })) := by
  simp only [bypEnter, bypSet, h, Bool.false_eq_true, if_false, if_true]
  rfl

theorem bypEnter_of_inside {s : State} {a cause : Nat} (inj : Bool) (h : (agentOf s a).byp = true) :
    bypEnter inj a cause s =
      putAgent a { agentOf s a with causesSeen := (agentOf s a).causesSeen ||| 2 ^ cause } s := by
  unfold bypEnter bypSet
  dsimp only
  rw [if_pos h]
  rfl

/-- Settles O19: the guard of each timer, and what it does. -/
theorem agentTimers : Obligations.AgentTimers := by
  intro a h s hhere hup g e bd
  have hagent := agentHere_of hhere hup
  refine ⟨fun hwait hage => ?reserve, fun lim hlim hwait hsent hne hage hgrant => ?hint,
    fun t0 hstop hwait hfree hbyp hdrain hquota hsince hgrant => ?expires,
    fun hheld => exec_forcedExpiry_of_not_due (expiryDue_of_handHeld h hheld), fun hrst => ?reset, ?released,
    fun hrun hlim hout hbclk => ?watchdog, fun hbyp => ?enters, fun hbyp => bypEnter_of_inside false hbyp⟩
  case reserve =>
    have hguard : (agentHere (fresh s) a && e.wait && decide (bits (areg s 0x2008) 3 0 ≤ ageOf e.w)) = true := by
      rw [hagent, hwait, bits_3_0, decide_eq_true hage]
      rfl
    exact if_pos hguard
  case hint =>
    have hguard : (agentHere (fresh s) a && e.wait && !e.descSent &&
        decide (bits (tget 0 (2 * e.cls + 1) s.tk.cost) 3 0 ≠ 0 ∧ bits (tget 0 (2 * e.cls + 1) s.tk.cost) 3 0 ≤ ageOf e.w) &&
        !grantsNow (fresh s) a h) = true := by
      rw [hagent, hwait, hsent, bits_3_0, ← hlim, decide_eq_true (And.intro hne hage),
        show grantsNow (fresh s) a h = false from hgrant]
      rfl
    exact if_pos hguard
  case expires =>
    intro u v
    rw [exec_forcedExpiry_of_due (s := s) (expiryDue_of (s := s) (show agentHere s a = true from hagent) hstop hwait hfree hbyp hdrain hquota hsince) hgrant,
      statusGiven_expired]
    change Host.Outcome.next (reportIf (!(tget boothDom0 bd s.tk.bds).stopTold) 0x2004 0 v) = _
    cases (tget boothDom0 bd s.tk.bds).stopTold <;> rfl
  case reset =>
    exact ⟨_, exec_engRstAssert hhere hup hrst, rfl, rfl, rfl, rfl, rfl, fun x => resetAgent_reclaims,
      fun y => resetAgent_idle, rfl, rfl, rfl, rfl, rfl⟩
  case released => exact if_pos hagent
  case watchdog =>
    have hguard : (agentHere (fresh s) a && (agentOf s a).wdRun && decide ((agentMap s a).wd ≤ (agentOf s a).wdCyc) &&
        !fabricHeld (fresh s)) = true := by
      rw [hagent, show (agentOf s a).wdRun = true from hrun, decide_eq_true hlim,
        show fabricHeld (fresh s) = false by simp [fabricHeld, show holdOut (fresh s) = false from hout, hbclk]]
      rfl
    exact if_pos hguard
  case enters => exact bypEnter_of_outside false hbyp

end Sys2Proof.Machine
end

section
/-! R57 to R61, R66, R74: the refill boundary, what it sends, and a Booth's split of it. -/

namespace Sys2Proof.Machine

open Sys2Proof

/-! ### Sums and sparse tables -/

theorem sumN_eq_sum (l : List Nat) : sumN l = l.sum := List.sum_eq_foldl.symm

theorem tget_of_not_mem {α : Type} (d : α) {k : Nat} {t : Tab α} (h : k ∉ t.map Prod.fst) : tget d k t = d := by
  induction t with
  | nil => rfl
  | cons q r ih =>
    simp only [List.map_cons, List.mem_cons, not_or] at h
    exact (if_neg (Ne.symm h.1)).trans (ih h.2)

/-- A value that an unlisted key does not read as is read back from any table. -/
theorem tget_tset_of_ne {α : Type} [DecidableEq α] (d : α) (k : Nat) {v : α} (t : Tab α) (h : v ≠ d) :
    tget d k (tset d k v t) = v := by rw [tset, if_neg h, tget_tins]

/-- A table whose keys are among distinct keys, in their order, read at each of them. -/
theorem sum_tget_of_sublist {ks : List Nat} {t : Tab Nat} (hsub : List.Sublist (t.map Prod.fst) ks) (hnd : ks.Nodup) :
    (ks.map (fun k => tget 0 k t)).sum = (t.map Prod.snd).sum := by
  generalize hl : t.map Prod.fst = l at hsub
  induction hsub generalizing t with
  | slnil =>
    rw [List.map_eq_nil_iff.1 hl]
    rfl
  | @cons l₁ l₂ a hsub ih =>
    obtain ⟨ha, hnd⟩ := List.nodup_cons.1 hnd
    rw [List.map_cons, List.sum_cons, tget_of_not_mem 0 (hl ▸ fun h => ha (hsub.subset h)), ih hnd hl, Nat.zero_add]
  | @cons_cons l₁ l₂ a hsub ih =>
    obtain ⟨ha, hnd'⟩ := List.nodup_cons.1 hnd
    obtain ⟨⟨k, v⟩, r, rfl, rfl, hr⟩ := List.map_eq_cons_iff.1 hl
    have hrest : l₂.map (fun x => tget 0 x ((k, v) :: r)) = l₂.map (fun x => tget 0 x r) :=
      List.map_congr_left fun x hx => if_neg fun h => ha ((show k = x from h) ▸ hx)
    rw [List.map_cons, List.sum_cons, hrest, ih hnd' hr]
    exact congrArg (· + (r.map Prod.snd).sum) (if_pos rfl)

theorem tget_foldl_tset_of_twf {α : Type} [DecidableEq α] (d : α) (f : Nat → α) (k : Nat) (ks : List Nat) (t : Tab α)
    (h : twf d t = true) :
    tget d k (ks.foldl (fun u j => tset d j (f j) u) t) = if k ∈ ks then f k else tget d k t := by
  induction ks generalizing t with
  | nil => rfl
  | cons j r ih =>
    rw [List.foldl_cons, ih _ (twf_tset d j (f j) t h)]
    by_cases hkr : k ∈ r
    · rw [if_pos hkr, if_pos (List.mem_cons_of_mem j hkr)]
    · by_cases hkj : k = j
      · subst hkj
        rw [if_neg hkr, if_pos List.mem_cons_self, tget_tset_self d k _ t h]
      · rw [if_neg hkr, if_neg (by simp [hkj, hkr]), tget_tset_ne d k j _ t hkj]

theorem tget_tbuild {α : Type} [DecidableEq α] (d : α) (f : Nat → α) {k : Nat} {ks : List Nat} (h : k ∈ ks) :
    tget d k (tbuild d ks f) = f k :=
  (tget_foldl_tset_of_twf d f k ks [] rfl).trans (if_pos h)

/-- What a change keeps of every entry stands in the whole table, where the change leaves no unlisted value. -/
theorem tget_tmodAll_keeps {α β : Type} [DecidableEq α] (d : α) (p : α → β) (f : Nat → α → α) (k : Nat) (ks : List Nat)
    (t : Tab α) (hne : ∀ j x, f j x ≠ d) (hp : ∀ j x, p (f j x) = p x) :
    p (tget d k (tmodAll d ks f t)) = p (tget d k t) := by
  unfold tmodAll
  induction ks generalizing t with
  | nil => rfl
  | cons j r ih =>
    rw [List.foldl_cons, ih]
    by_cases hkj : k = j
    · subst hkj
      rw [tget_tset_of_ne d k t (hne _ _), hp]
    · rw [tget_tset_ne d k j _ t hkj]

/-! ### The refill sums -/

theorem refillSum_of_pos (q : Nat) {n : Nat} (i : Nat) (h : 0 < n) : refillSum q n i = q * min (32 * i) n / n :=
  if_neg (Nat.ne_of_gt h)

theorem refillSum_mono (q n : Nat) {i j : Nat} (h : i ≤ j) : refillSum q n i ≤ refillSum q n j := by
  unfold refillSum
  split
  · exact Nat.le_refl _
  · exact Nat.div_le_div_right (Nat.mul_le_mul_left q (by omega))

theorem refillSum_full (q : Nat) {n i : Nat} (hn : 0 < n) (h : n ≤ 32 * i) : refillSum q n i = q := by
  rw [refillSum_of_pos q i hn, Nat.min_eq_right h, Nat.mul_div_cancel q hn]

theorem refillSum_le (q : Nat) {n : Nat} (i : Nat) (hn : 0 < n) : refillSum q n i ≤ q :=
  Nat.le_trans (refillSum_mono q n (Nat.le_add_right i n)) (Nat.le_of_eq (refillSum_full q hn (by omega)))

theorem refillAmount_over (x : BoothDom) {n i : Nat} (h : n ≤ 32 * i) : refillAmount n i x = 0 := if_pos h

theorem sent_add_refillAmount {x : BoothDom} {n i : Nat} (hn : 0 < n) (hcr : x.credited = 0)
    (hsent : x.sent = refillSum x.send n i) : x.sent + refillAmount n i x = refillSum x.send n (i + 1) := by
  by_cases h : n ≤ 32 * i
  · rw [refillAmount_over x h, hsent, refillSum_full _ hn h, refillSum_full _ hn (by omega)]
    rfl
  · rw [refillAmount, if_neg h, hcr, Nat.add_zero]
    exact Nat.add_sub_cancel' (hsent ▸ refillSum_mono x.send n (Nat.le_succ i))

/-- Settles O21: the amounts telescope to C(i + 1), which never exceeds the budget. -/
theorem refillSums : Obligations.RefillSums := by
  intro x n i hn
  refine ⟨fun hcr hsent => ?_, refillAmount_over x⟩
  rw [← refillSum_of_pos x.send i hn] at hsent
  rw [sent_add_refillAmount hn hcr hsent]
  exact ⟨fun _ => refillSum_of_pos x.send (i + 1) hn, fun _ => refillSum_full x.send hn, refillSum_le x.send (i + 1) hn⟩

/-! ### The boundary -/

/-- R61: a Booth at a boundary: it latches what arrived and has forwarded it. -/
def latchReports (b : Booth) : Booth :=
  { b with reps := b.inbox.foldl (fun t r => tins r.agent r t) b.reps, inbox := [], missed := b.missed + 1, slots := [] }

theorem boothFailed_refillReports (s : State) (b : Nat) : boothFailed (refillReports s) b = boothFailed s b :=
  tget_tmodAll_keeps booth0 Booth.failed (fun _ => latchReports) b (boothKeys s) s.tk.booths
    (fun _ x h => Nat.succ_ne_zero x.missed (congrArg Booth.missed h)) (fun _ _ => rfl)

/-- The end of a boundary: the refill counts advance and a window begins. -/
def refillCounted (s : State) : State :=
  { s with tk := { s.tk with i := s.tk.i + 1, j := s.tk.j + 1, win := some (s.time.k, s.tk.i) } }

theorem find_injected_of_none {s : State} (h : s.fault.inj = none) (l : List Nat) :
    l.find? (fun a => decide (s.fault.inj.map Inject.checker = some (0x8000 + a))) = none := by
  rw [h]
  exact List.find?_eq_none.2 fun _ _ => by simp

theorem handBoundary_latchDone {s : State} (hcmd : s.tk.cmd = none) (hlat : s.tk.latchReq = false) :
    handBoundary (latchDone s) = s := by
  rw [latchDone, if_neg (hlat ▸ Bool.false_ne_true), handBoundary, hcmd]

theorem trcCapture_of_no_source {cycle : Nat} {modes : List Nat} {value : Nat → Option Nat} {s : State}
    (h : trcSources s modes = []) : trcCapture cycle modes value s = s := by
  rw [trcCapture, h]
  rfl

theorem exec_refill_of_plain {s : State} (hclk : clocked s = true) (hpb : s.pb.valid = true) (hcmd : s.tk.cmd = none)
    (hlat : s.tk.latchReq = false) (hinj : s.fault.inj = none) (htrc : trcSources s [1] = []) :
    exec .refill s = .next (refillCounted (if fabricHeld s then refillIdle { s with out := [] }
      else refillSend (refillReports { s with out := [] }))) := by
  have hguard : ¬ (!clocked (fresh s) || !(fresh s).pb.valid) = true := by
    rw [show clocked (fresh s) = true from hclk, show (fresh s).pb.valid = true from hpb]
    decide
  change execRefill s = _
  unfold execRefill
  extract_lets s0 s1 o i s2 s3 s4 tk
  rw [if_neg hguard]
  have hs1 : s1 = fresh s := handBoundary_latchDone (s := fresh s) hcmd hlat
  have ho : o = none := find_injected_of_none (s := s1) (hs1 ▸ hinj) _
  have hs2 : s2 = fresh s := by
    simp only [s2, i, ho]
    exact hs1
  have hs3 : s3 = if fabricHeld s then refillIdle { s with out := [] } else refillSend (refillReports { s with out := [] }) := by
    simp only [s3, hs2]
    rfl
  have hsrc : trcSources s3 [1] = [] := by
    rw [hs3]
    split <;> exact htrc
  have hs4 : s4 = s3 := (congrArg (trcCapture _ _ _) (if_pos hsrc)).trans (trcCapture_of_no_source hsrc)
  rw [hs3] at hs4
  clear_value s4
  subst hs4
  rfl

theorem refillMsg_amount (s : State) (rcs : List (Nat × Nat)) {k : Nat} (hk : k ∈ bdKeys s) :
    tget 0 (k % 4) (refillMsg s rcs (k / 4)).amount =
      refillAmount (nomCycles s.time.pSel) s.tk.i (tget boothDom0 k s.tk.bds) := by
  have hmem : k % 4 ∈ ((bdKeys s).filter (fun j => j / 4 = k / 4)).map (· % 4) :=
    List.mem_map.2 ⟨k, List.mem_filter.2 ⟨hk, decide_eq_true rfl⟩, rfl⟩
  refine (tget_tbuild 0 _ hmem).trans ?_
  rw [Nat.div_add_mod']

/-- Settles O20: the boundary's reports and messages, field by field. -/
theorem refillBoundary : Obligations.RefillBoundary := by
  intro s
  refine ⟨fun hnot => ?idle, fun hclk hpb hcmd hlat hinj htrc => ⟨fun hrun => ?runs, fun hheld => ?held⟩⟩
  case idle =>
    have hguard : (!clocked (fresh s) || !(fresh s).pb.valid) = true := by
      rcases hnot with h | h
      · rw [show clocked (fresh s) = false from h]
        rfl
      · rw [show (fresh s).pb.valid = false from h]
        exact Bool.or_true _
    exact if_pos hguard
  case held =>
    rw [exec_refill_of_plain hclk hpb hcmd hlat hinj htrc, if_pos hheld]
    rfl
  case runs =>
    intro n u inService
    have hserv : (boothKeys u).filter (fun b => !boothFailed u b) = inService :=
      List.filter_congr fun b _ => congrArg (!·) (boothFailed_refillReports { s with out := [] } b)
    let rcs := offer (refillSend u).tk.rc (((boothKeys u).filter (fun b => !boothFailed u b)).map (fun b => (b, sumN (((boothAgents u b).filter (served u)).map
      (weightOf (tget booth0 b u.tk.booths))), allOnes)))
    refine ⟨refillMsg u rcs, fun a => agentReport a (if s.tk.i = 0 then s.time.edgeN - 1 else s.time.edgeN) (agentOf s a),
      refillCounted (refillSend u), ?_, ?_, rfl, fun b => ⟨rfl, rfl, rfl⟩, fun k hk => refillMsg_amount u rcs hk,
      fun a => ⟨rfl, rfl, rfl, rfl, rfl, rfl, rfl, rfl⟩, rfl, rfl, rfl, rfl⟩
    · rw [exec_refill_of_plain hclk hpb hcmd hlat hinj htrc, if_neg (by rw [(fabricHeld_of_running hrun).1]; decide)]
    · rw [← hserv]
      rfl

/-! ### Offers (R59) -/

theorem map_fst_offer (amount : Nat) (l : List (Nat × Nat × Nat)) : (offer amount l).map Prod.fst = l.map Prod.fst := by
  simp only [offer, List.map_map]
  exact List.map_congr_left fun _ _ => rfl

theorem div_add_div_le (a b c : Nat) : a / c + b / c ≤ (a + b) / c := by
  rcases Nat.eq_zero_or_pos c with h | h
  · rw [h, Nat.div_zero, Nat.div_zero]
    exact Nat.zero_le _
  · rw [Nat.le_div_iff_mul_le h, Nat.add_mul]
    exact Nat.add_le_add (Nat.div_mul_le_self a c) (Nat.div_mul_le_self b c)

theorem sum_map_add {α : Type} (f g : α → Nat) (l : List α) :
    (l.map fun x => f x + g x).sum = (l.map f).sum + (l.map g).sum := by
  induction l with
  | nil => rfl
  | cons x r ih =>
    simp only [List.map_cons, List.sum_cons]
    omega

/-- The shares by weight, rounded down, come to no more than the amount. -/
theorem sum_shares_le (amount tot : Nat) (l : List (Nat × Nat × Nat)) (h : (l.map (fun x => x.2.1)).sum ≤ tot) :
    (l.map (fun x => if tot = 0 then 0 else amount * x.2.1 / tot)).sum ≤ amount := by
  by_cases h0 : tot = 0
  · clear h
    induction l with
    | nil => exact Nat.zero_le _
    | cons x r ih =>
      rw [List.map_cons, List.sum_cons, if_pos h0, Nat.zero_add]
      exact ih
  · simp only [if_neg h0]
    suffices hle : (l.map (fun x => amount * x.2.1 / tot)).sum ≤ amount * (l.map (fun x => x.2.1)).sum / tot from
      Nat.le_trans hle (Nat.div_le_of_le_mul (by rw [Nat.mul_comm]; exact Nat.mul_le_mul_right _ h))
    clear h
    induction l with
    | nil => simp
    | cons x r ih =>
      rw [List.map_cons, List.map_cons, List.sum_cons, List.sum_cons, Nat.mul_add]
      exact Nat.le_trans (Nat.add_le_add_left ih _) (div_add_div_le _ _ _)

/-- What one key at most takes beside its share adds to the sum once. -/
theorem sum_map_add_at_le (base : Nat × Nat × Nat → Nat) (top : Option Nat) (rest : Nat) (l : List (Nat × Nat × Nat))
    (hnd : (l.map Prod.fst).Nodup) :
    (l.map (fun x => min x.2.2 (base x + (if top = some x.1 then rest else 0)))).sum ≤ (l.map base).sum + rest ∧
      ((∀ x ∈ l, top ≠ some x.1) →
        (l.map (fun x => min x.2.2 (base x + (if top = some x.1 then rest else 0)))).sum ≤ (l.map base).sum) := by
  induction l with
  | nil => simp
  | cons x r ih =>
    obtain ⟨hx, hnd⟩ := List.nodup_cons.1 hnd
    obtain ⟨hone, hnone⟩ := ih hnd
    simp only [List.map_cons, List.sum_cons]
    by_cases ht : top = some x.1
    · have hrest := hnone fun y hy hty => hx (Option.some.inj (ht.symm.trans hty) ▸ List.mem_map_of_mem hy)
      rw [if_pos ht]
      exact ⟨by omega, fun h => absurd ht (h x List.mem_cons_self)⟩
    · rw [if_neg ht]
      refine ⟨by omega, fun h => ?_⟩
      have hrest := hnone fun y hy => h y (List.mem_cons_of_mem x hy)
      omega

/-- An offer never exceeds the amount. -/
theorem sum_offer_le (amount : Nat) (l : List (Nat × Nat × Nat)) (hnd : (l.map Prod.fst).Nodup) :
    ((offer amount l).map Prod.snd).sum ≤ amount := by
  simp only [offer, List.map_map, sumN_eq_sum]
  have hshare := sum_shares_le amount _ l (Nat.le_refl _)
  refine Nat.le_trans (sum_map_add_at_le _ _ _ l hnd).1 ?_
  omega

/-- A key names one entry of a table without repeated keys. -/
theorem eq_of_key_eq {α : Type} {l : List (Nat × α)} (hnd : (l.map Prod.fst).Nodup) {x y : Nat × α} (hx : x ∈ l)
    (hy : y ∈ l) (h : x.1 = y.1) : x = y := by
  induction l with
  | nil => cases hx
  | cons z r ih =>
    obtain ⟨hz, hr⟩ := List.nodup_cons.1 hnd
    rcases List.mem_cons.1 hx with rfl | hx
    · rcases List.mem_cons.1 hy with rfl | hy
      · rfl
      · exact absurd (h ▸ List.mem_map_of_mem hy) hz
    · rcases List.mem_cons.1 hy with rfl | hy
      · exact absurd (h ▸ List.mem_map_of_mem ‹x ∈ r›) hz
      · exact ih hr ‹x ∈ r› ‹y ∈ r›

theorem tget_map_key {α β : Type} (d : β) (f : Nat × α → β) {x : Nat × α} {l : List (Nat × α)}
    (hnd : (l.map Prod.fst).Nodup) (hx : x ∈ l) : tget d x.1 (l.map (fun y => (y.1, f y))) = f x := by
  induction l with
  | nil => cases hx
  | cons y r ih =>
    obtain ⟨hy, hnd⟩ := List.nodup_cons.1 hnd
    rcases List.mem_cons.1 hx with rfl | hx
    · exact if_pos rfl
    · exact (if_neg fun h : y.1 = x.1 => hy (h ▸ List.mem_map_of_mem hx)).trans (ih hnd hx)

/-- An offer to a key stays within its room. -/
theorem tget_offer_le (amount : Nat) {x : Nat × Nat × Nat} {l : List (Nat × Nat × Nat)} (hnd : (l.map Prod.fst).Nodup)
    (hx : x ∈ l) : tget 0 x.1 (offer amount l) ≤ x.2.2 := by
  unfold offer
  dsimp only
  rw [tget_map_key 0 _ hnd hx]
  exact Nat.min_le_left _ _

/-- R59: the keys that the second offer reaches: those with room left. -/
def roomLeft (amount : Nat) (l : List (Nat × Nat × Nat)) : List (Nat × Nat × Nat) :=
  (l.map (fun x => (x.1, x.2.1, x.2.2 - tget 0 x.1 (offer amount l)))).filter (fun x => decide (0 < x.2.2))

theorem roomLeft_keys (amount : Nat) (l : List (Nat × Nat × Nat)) :
    List.Sublist ((roomLeft amount l).map Prod.fst) (l.map Prod.fst) := by
  have h := (List.filter_sublist (p := fun x => decide (0 < x.2.2))
    (l := l.map (fun x => (x.1, x.2.1, x.2.2 - tget 0 x.1 (offer amount l))))).map Prod.fst
  rwa [List.map_map] at h

/-- The second offer of what the first left. -/
def secondOffer (amount : Nat) (l : List (Nat × Nat × Nat)) : List (Nat × Nat) :=
  offer (amount - ((offer amount l).map Prod.snd).sum) (roomLeft amount l)

theorem offerTwice_eq (amount : Nat) (l : List (Nat × Nat × Nat)) :
    offerTwice amount l = (l.map (fun x => (x.1, tget 0 x.1 (offer amount l) + tget 0 x.1 (secondOffer amount l))),
      amount - ((offer amount l).map Prod.snd).sum - ((secondOffer amount l).map Prod.snd).sum) := by
  simp only [offerTwice, secondOffer, roomLeft, sumN_eq_sum]

theorem map_fst_offerTwice (amount : Nat) (l : List (Nat × Nat × Nat)) :
    (offerTwice amount l).1.map Prod.fst = l.map Prod.fst := by
  rw [offerTwice_eq, List.map_map]
  rfl

/-- Both offers and what they leave add up to the amount. -/
theorem sum_offerTwice (amount : Nat) (l : List (Nat × Nat × Nat)) (hnd : (l.map Prod.fst).Nodup) :
    ((offerTwice amount l).1.map Prod.snd).sum + (offerTwice amount l).2 = amount := by
  have hkeys := roomLeft_keys amount l
  have h1 := sum_offer_le amount l hnd
  have h2 : ((secondOffer amount l).map Prod.snd).sum ≤ _ := sum_offer_le _ _ (hnd.sublist hkeys)
  have hs1 := sum_tget_of_sublist (t := offer amount l) (by simp only [map_fst_offer, List.Sublist.refl]) hnd
  have hs2 := sum_tget_of_sublist (t := secondOffer amount l) (by rw [secondOffer, map_fst_offer]; exact hkeys) hnd
  rw [List.map_map] at hs1 hs2
  rw [offerTwice_eq]
  dsimp only
  rw [List.map_map, show (Prod.snd ∘ fun x : Nat × Nat × Nat => (x.1, tget 0 x.1 (offer amount l) +
    tget 0 x.1 (secondOffer amount l))) = fun x => tget 0 x.1 (offer amount l) + tget 0 x.1 (secondOffer amount l) from rfl,
    sum_map_add]
  simp only [Function.comp_def] at hs1 hs2
  omega

/-- What both offers give a key stays within its room. -/
theorem tget_offerTwice_le (amount : Nat) {x : Nat × Nat × Nat} {l : List (Nat × Nat × Nat)}
    (hnd : (l.map Prod.fst).Nodup) (hx : x ∈ l) : tget 0 x.1 (offerTwice amount l).1 ≤ x.2.2 := by
  rw [offerTwice_eq]
  dsimp only
  rw [tget_map_key 0 (fun x => tget 0 x.1 (offer amount l) + tget 0 x.1 (secondOffer amount l)) hnd hx]
  have h1 := tget_offer_le amount hnd hx
  have hkeys := roomLeft_keys amount l
  by_cases hroom : 0 < x.2.2 - tget 0 x.1 (offer amount l)
  · have hmem : (x.1, x.2.1, x.2.2 - tget 0 x.1 (offer amount l)) ∈ roomLeft amount l :=
      List.mem_filter.2 ⟨List.mem_map_of_mem hx, decide_eq_true hroom⟩
    have h2 := tget_offer_le (amount - ((offer amount l).map Prod.snd).sum) (hnd.sublist hkeys) hmem
    have h2' : tget 0 x.1 (secondOffer amount l) ≤ x.2.2 - tget 0 x.1 (offer amount l) := h2
    omega
  · have hnone : tget 0 x.1 (secondOffer amount l) = 0 := by
      refine tget_of_not_mem 0 ?_
      rw [secondOffer, map_fst_offer]
      intro hmem
      obtain ⟨y, hy, hyx⟩ := List.mem_map.1 hmem
      obtain ⟨hy, hpos⟩ := List.mem_filter.1 hy
      obtain ⟨z, hz, rfl⟩ := List.mem_map.1 hy
      have hzx : z = x := eq_of_key_eq hnd hz hx hyx
      exact hroom (hzx ▸ of_decide_eq_true hpos)
    omega

/-! ### The split (R59) -/

/-- The Agents of a Booth and domain that the Office counts. -/
def splitAgents (s : State) (b d : Nat) : List Nat :=
  ((boothAgents s b).filter (served s)).filter (fun a => (agentMap s a).dom = d)

/-- The two offers of a domain's tickets, by what the Agents demanded and the room below their pool ceilings. -/
def splitOffer (s : State) (b : Nat) (m : RefillMsg) (d : Nat) : List (Nat × Nat) × Nat :=
  offerTwice (tget 0 d m.amount + (tget boothDom0 (b * 4 + d) s.tk.bds).held)
    ((splitAgents s b d).map (fun a => (a, weightOf (tget booth0 b s.tk.booths) a, roomOf s a)))

theorem splitRefill_eq (s : State) (b : Nat) (m : RefillMsg) :
    ∃ give : Nat → Nat → GiveMsg,
      splitRefill s b m = ((List.range 4).map (fun d =>
        ((splitAgents s b d).map (fun a => (a, give d a)), (b * 4 + d, (splitOffer s b m d).2))) |>.flatMap Prod.fst,
        [0, 1, 2, 3].map (fun d => (b * 4 + d, (splitOffer s b m d).2))) ∧
      ∀ d a, (give d a).refill = m.refill ∧ (give d a).sample = m.sample ∧ (give d a).lease = tget 0 a m.lease ∧
        (give d a).poolTag = tget 1 d m.poolTag ∧ (give d a).tickets = tget 0 a (splitOffer s b m d).1 :=
  ⟨_, rfl, fun _ _ => ⟨rfl, rfl, rfl, rfl, rfl⟩⟩

theorem mem_splitAgents {s : State} {b d a : Nat} :
    a ∈ splitAgents s b d ↔ a ∈ boothAgents s b ∧ served s a = true ∧ (agentMap s a).dom = d := by
  simp only [splitAgents, List.mem_filter, decide_eq_true_eq, and_assoc]

theorem splitAgents_nodup {s : State} (h : (s.pb.agents.map Prod.fst).Nodup) (b d : Nat) : (splitAgents s b d).Nodup := by
  have hb : (boothAgents s b).Nodup := h.sublist (List.filter_sublist.map Prod.fst)
  exact (hb.filter _).filter _

/-- The GIVEs that one REFILL message becomes. -/
def splitGives (s : State) (b : Nat) (give : Nat → Nat → GiveMsg) : List (Nat × GiveMsg) :=
  (List.range 4).flatMap (fun d => (splitAgents s b d).map (fun a => (a, give d a)))

theorem mem_splitGives {s : State} {b a : Nat} {give : Nat → Nat → GiveMsg} {g : GiveMsg} :
    (a, g) ∈ splitGives s b give ↔
      a ∈ boothAgents s b ∧ served s a = true ∧ (agentMap s a).dom < 4 ∧ g = give (agentMap s a).dom a := by
  simp only [splitGives, List.mem_flatMap, List.mem_range, List.mem_map, Prod.mk.injEq, mem_splitAgents]
  constructor
  · rintro ⟨d, hd, _, ⟨hb, hs, rfl⟩, rfl, rfl⟩
    exact ⟨hb, hs, hd, rfl⟩
  · rintro ⟨hb, hs, hd, rfl⟩
    exact ⟨_, hd, a, ⟨hb, hs, rfl⟩, rfl, rfl⟩

theorem splitGives_keys_nodup {s : State} (h : (s.pb.agents.map Prod.fst).Nodup) (b : Nat) (give : Nat → Nat → GiveMsg) :
    ((splitGives s b give).map Prod.fst).Nodup := by
  rw [splitGives, List.map_flatMap]
  simp only [List.map_map, Function.comp_def, List.map_id']
  refine List.pairwise_flatMap.2 ⟨fun d _ => splitAgents_nodup h b d, List.nodup_range.imp ?_⟩
  intro d e hde a had a' hae haa
  exact hde ((mem_splitAgents.1 had).2.2.symm.trans (haa ▸ (mem_splitAgents.1 hae).2.2))

/-- The GIVEs of one domain. -/
theorem splitGives_filter (s : State) (b : Nat) (give : Nat → Nat → GiveMsg) {d : Nat} (hd : d < 4) :
    (splitGives s b give).filter (fun x => (agentMap s x.1).dom == d) = (splitAgents s b d).map (fun a => (a, give d a)) := by
  have hblock : ∀ e, ((splitAgents s b e).map (fun a => (a, give e a))).filter (fun x => (agentMap s x.1).dom == d) =
      if e = d then (splitAgents s b d).map (fun a => (a, give d a)) else [] := by
    intro e
    split
    · rename_i he
      subst he
      refine List.filter_eq_self.2 fun x hx => ?_
      obtain ⟨a, ha, rfl⟩ := List.mem_map.1 hx
      exact beq_iff_eq.2 (mem_splitAgents.1 ha).2.2
    · rename_i he
      refine List.filter_eq_nil_iff.2 fun x hx => ?_
      obtain ⟨a, ha, rfl⟩ := List.mem_map.1 hx
      exact fun h => he ((mem_splitAgents.1 ha).2.2.symm.trans (beq_iff_eq.1 h))
  rw [splitGives, List.filter_flatMap]
  simp only [hblock]
  have hcases : d = 0 ∨ d = 1 ∨ d = 2 ∨ d = 3 := by omega
  rcases hcases with rfl | rfl | rfl | rfl <;> simp [List.range_succ]

/-- A Booth's message has left its channel. -/
def splitTaken (b : Nat) (m : RefillMsg) (r : List RefillMsg) (s : State) : State :=
  { s with
    out := [],
    tk := { s.tk with
      toBooth := tset [] b r s.tk.toBooth, chans := chanRecv 0 b (sumN (m.amount.map Prod.snd)) s.tk.chans } }

/-- The GIVEs of a split are on their way, and each domain's rest is held within its sample. -/
def splitSent (m : RefillMsg) (p : List (Nat × GiveMsg) × List (Nat × Nat)) (s : State) : State :=
  { s with tk := { s.tk with
    toAgent := p.1.foldl (fun t q => chanPush q.1 q.2 t) s.tk.toAgent,
    chans := p.1.foldl (fun t q => chanSend 2 q.1 q.2.tickets t) s.tk.chans,
    office := p.1.foldl (fun t q => tmod officeAgent0 q.1 (fun o => { o with sent := wrapAdd 32 o.sent q.2.tickets }) t)
      s.tk.office,
    bds := p.2.foldl (fun t q => tmod boothDom0 q.1
      (fun x => { x with held := if m.sample = s.time.edgeN then q.2 else 0 }) t) s.tk.bds } }

theorem splitSent_frame (m : RefillMsg) (p : List (Nat × GiveMsg) × List (Nat × Nat)) (b : Nat) (r : List RefillMsg)
    (s : State) :
    let t := splitSent m p (splitTaken b m r s)
    t = { s with
      out := [],
      tk := { s.tk with
        toBooth := tset [] b r s.tk.toBooth, toAgent := t.tk.toAgent, office := t.tk.office, bds := t.tk.bds,
        chans := t.tk.chans } } := rfl

theorem exec_refillMessage {b late : Nat} {m : RefillMsg} {r : List RefillMsg} {s : State}
    (hmsg : tget [] b s.tk.toBooth = m :: r) (hlate : late ≤ 32) :
    exec (.refillMessage b late) s =
      .next (splitSent m (splitRefill (splitTaken b m r s) b m) (splitTaken b m r s)) := by
  change execRefillMessage b late s = _
  unfold execRefillMessage
  extract_lets s0
  rw [show tget [] b s0.tk.toBooth = m :: r from hmsg]
  exact congrArg Host.Outcome.next (if_neg (by omega : ¬ 32 < late))

/-- Settles O22: the two offers of each domain keep every ticket within each Agent's room. -/
theorem splitKeeps : Obligations.SplitKeeps := by
  intro b late m r s hmsg hlate hnd
  obtain ⟨give, hsplit, hgive⟩ := splitRefill_eq (splitTaken b m r s) b m
  have hkeys : ∀ d, (((splitAgents s b d).map (fun a => (a, weightOf (tget booth0 b s.tk.booths) a, roomOf s a))).map
      Prod.fst).Nodup := fun d => by
    rw [List.map_map]
    exact (List.map_id _).symm ▸ splitAgents_nodup hnd b d
  have hoffer : ∀ d, splitOffer (splitTaken b m r s) b m d = splitOffer s b m d := fun _ => rfl
  refine ⟨splitGives s b give, fun d => (splitOffer s b m d).2,
    splitSent m (splitGives s b give, [0, 1, 2, 3].map (fun d => (b * 4 + d, (splitOffer s b m d).2))) (splitTaken b m r s),
    (exec_refillMessage hmsg hlate).trans (congrArg (fun p => Host.Outcome.next (splitSent m p (splitTaken b m r s))) hsplit), fun a => ?who,
    splitGives_keys_nodup hnd b give, fun a g hg => ?what, fun d hd => ?sum, rfl, rfl, List.foldl_map, splitSent_frame m _ b r s⟩
  case who =>
    constructor
    · rintro ⟨g, hg⟩
      obtain ⟨hb, hs, hd, -⟩ := mem_splitGives.1 hg
      exact ⟨hb, hs, hd⟩
    · rintro ⟨hb, hs, hd⟩
      exact ⟨_, mem_splitGives.2 ⟨hb, hs, hd, rfl⟩⟩
  case what =>
    obtain ⟨hb, hs, hd, rfl⟩ := mem_splitGives.1 hg
    obtain ⟨hrefill, hsample, hlease, htag, htickets⟩ := hgive (agentMap s a).dom a
    refine ⟨hrefill, hsample, hlease, htag, Nat.le_trans (Nat.le_of_eq htickets) ?_⟩
    have ha : a ∈ splitAgents s b (agentMap s a).dom := mem_splitAgents.2 ⟨hb, hs, rfl⟩
    exact tget_offerTwice_le _ (hkeys _) (List.mem_map_of_mem ha)
  case sum =>
    rw [splitGives_filter s b give hd, List.map_map, sumN_eq_sum]
    have hsum := sum_offerTwice (tget 0 d m.amount + (tget boothDom0 (b * 4 + d) s.tk.bds).held) _ (hkeys d)
    have hfst : (splitOffer s b m d).1.map Prod.fst = splitAgents s b d := by
      rw [splitOffer, map_fst_offerTwice, List.map_map]
      exact List.map_id _
    have htick : (splitAgents s b d).map ((fun x : Nat × GiveMsg => x.2.tickets) ∘ fun a => (a, give d a)) =
        (splitAgents s b d).map (fun a => tget 0 a (splitOffer s b m d).1) :=
      List.map_congr_left fun a _ => (hgive d a).2.2.2.2
    rw [htick, sum_tget_of_sublist (t := (splitOffer s b m d).1) (by simp only [hfst, List.Sublist.refl])
      (splitAgents_nodup hnd b d)]
    exact hsum

end Sys2Proof.Machine
end

section
/-! R54, R64, R67, R75, R76, R95: a GIVE at its Agent. -/

namespace Sys2Proof.Machine

open Sys2Proof

theorem lateMessage_of_le {late : Nat} (h : late ≤ 32) (s : State) : lateMessage late s = s := if_neg (Nat.not_lt.2 h)

/-! ### An Agent after a write -/

theorem agentOf_putAgent_of_ne {a : Nat} {g : Agent} (s : State) (h : g ≠ agent0) : agentOf (putAgent a g s) a = g :=
  tget_tset_of_ne agent0 a s.tk.agents h

theorem agentOf_putAgent_of_running (a : Nat) {g : Agent} (s : State) (h : g.wdRun = true) :
    agentOf (putAgent a g s) a = g :=
  agentOf_putAgent_of_ne s fun h0 => Bool.false_ne_true ((congrArg Agent.wdRun h0).symm.trans h)

theorem agentOf_putAgent_of_bypassed (a : Nat) {g : Agent} (s : State) (h : g.byp = true) :
    agentOf (putAgent a g s) a = g :=
  agentOf_putAgent_of_ne s fun h0 => Bool.false_ne_true ((congrArg Agent.byp h0).symm.trans h)

theorem agentOf_putAgent_other {a c : Nat} (g : Agent) (s : State) (h : c ≠ a) :
    agentOf (putAgent a g s) c = agentOf s c := tget_tset_ne agent0 c a g s.tk.agents h

/-- R95: entering bypass reports a fault, which leaves the Agents as they are. -/
theorem agentOf_bypEnter {s : State} {a : Nat} (inj : Bool) (cause : Nat) (h : (agentOf s a).byp = false) :
    agentOf (bypEnter inj a cause s) a = bypAgent cause (agentOf s a) := by
  rw [bypEnter_of_outside inj h]
  obtain ⟨_, _, _, _, _, _, _, hrep⟩ := reportInj_frame inj 0x2005 (a : Int) (
    let u := putAgent a (bypAgent cause (agentOf s a)) s
    { u with tk := { u.tk with bypassEntries := (s.tk.bypassEntries + 1) % 256 } }) (by decide)
  rw [hrep]
  exact agentOf_putAgent_of_bypassed a s rfl

/-! ### The GIVE -/

/-- An Agent's GIVE has left its channel. -/
def giveTaken (a : Nat) (m : GiveMsg) (r : List GiveMsg) (s : State) : State :=
  { s with
    out := [],
    tk := { s.tk with toAgent := tset [] a r s.tk.toAgent, chans := chanRecv 2 a m.tickets s.tk.chans } }

/-- R76: the Agent stands, and its ignition is counted. -/
def giveStands (a : Nat) (g : Agent) (s : State) : State :=
  if ignites (putAgent a g s) a g then
    putAgent a { g with igniting := true }
      { putAgent a g s with tk := { (putAgent a g s).tk with ignitions := wrapAdd 32 s.tk.ignitions 1 } }
  else putAgent a g s

theorem exec_give_of_bypassed {a late : Nat} {m : GiveMsg} {r : List GiveMsg} {s : State}
    (hmsg : tget [] a s.tk.toAgent = m :: r) (hlate : late ≤ 32) (hbyp : (agentOf s a).byp = true) :
    exec (.give a late) s = .next (giveTaken a m r s) := by
  change execGive a late s = _
  unfold execGive
  extract_lets s0
  rw [show tget [] a s0.tk.toAgent = m :: r from hmsg]
  exact (if_pos hbyp).trans (congrArg Host.Outcome.next (lateMessage_of_le hlate _))

theorem exec_give_of_served {a late : Nat} {m : GiveMsg} {r : List GiveMsg} {s : State}
    (hmsg : tget [] a s.tk.toAgent = m :: r) (hlate : late ≤ 32) (hbyp : (agentOf s a).byp = false) :
    exec (.give a late) s = .next (poolCheck a (giveStands a
      (giveAgent (agentMap s a) (handHeld s (agentOf s a)) m (agentOf s a)) (giveTaken a m r s))) := by
  change execGive a late s = _
  unfold execGive
  extract_lets s0
  rw [show tget [] a s0.tk.toAgent = m :: r from hmsg]
  refine (if_neg (show ¬ (agentOf s a).byp = true from hbyp ▸ Bool.false_ne_true)).trans ?_
  exact congrArg (fun x => Host.Outcome.next (poolCheck a x)) (lateMessage_of_le hlate _)

/-- R64, R75, R84: what a GIVE leaves of the Agent, and what it sets. -/
theorem giveAgent_sets (c : AgentCfg) (held : Bool) (m : GiveMsg) (g : Agent) :
    let g' := giveAgent c held m g
    g'.recv = (g.recv + m.tickets) % 2 ^ 32 ∧ g'.spent = g.spent ∧ g'.ret = g.ret ∧ g'.holders = g.holders ∧
      g'.rcLeft = m.rc + g'.credit ∧ g'.poolTag = m.poolTag ∧ g'.rateTag = m.rateTag ∧ g'.winRefill = m.refill ∧
      g'.winSample = m.sample ∧ g'.winLump = 0 ∧ g'.winAll = 0 ∧
      g'.closed = g.closed ++ [⟨g.winRefill, g.winSample, g.winLump, g.winAll⟩] ∧ g'.wdRun = true ∧ g'.wdCyc = 0 ∧
      g'.byp = g.byp := by
  intro g'
  simp only [g', giveAgent]
  split <;> exact ⟨rfl, rfl, rfl, rfl, rfl, rfl, rfl, rfl, rfl, rfl, rfl, rfl, rfl, rfl, rfl⟩

theorem giveAgent_credit (c : AgentCfg) (held : Bool) (m : GiveMsg) (g : Agent) :
    (giveAgent c held m g).credit = if (match holderOrder (waitingOf g) with | [] => false | (_, e) :: _ => e.reason == 2)
      then min g.rcLeft (2 ^ 24 - 1) else 0 := by
  simp only [giveAgent]
  split <;> rfl

theorem giveAgent_credit_of_short (c : AgentCfg) (held : Bool) (m : GiveMsg) {g : Agent}
    (h : ∃ x e l, holderOrder (waitingOf g) = (x, e) :: l ∧ e.reason = 2) :
    (giveAgent c held m g).credit = min g.rcLeft (2 ^ 24 - 1) := by
  obtain ⟨x, e, l, horder, hreason⟩ := h
  rw [giveAgent_credit, horder]
  exact if_pos (beq_iff_eq.2 hreason)

theorem giveAgent_credit_of_other (c : AgentCfg) (held : Bool) (m : GiveMsg) {g : Agent}
    (h : ∀ x e l, holderOrder (waitingOf g) = (x, e) :: l → e.reason ≠ 2) : (giveAgent c held m g).credit = 0 := by
  rw [giveAgent_credit]
  refine if_neg ?_
  cases horder : holderOrder (waitingOf g) with
  | nil => exact Bool.false_ne_true
  | cons p l => exact fun hr => h p.1 p.2 l horder (beq_iff_eq.1 hr)

/-- R54: the rates of a lease that may run. -/
theorem giveAgent_leased {c : AgentCfg} {held : Bool} (m : GiveMsg) {g : Agent} (hlease : c.lease = true)
    (hfree : held = false) (hrun : g.engRst = false) :
    let g' := giveAgent c held m g
    g'.rateQ = min g.rateQ g'.target ∧
      g'.target = min (65536 * min (tget 0 m.refill g.reqAt) c.maxLease) (min (65536 * m.lease)
        ((diff32 ((g.recv + m.tickets) % 2 ^ 32) g.spent -
          sumN ((g.holders.filter (fun h => h.2.wait && h.2.reserving)).map (fun h => h.2.cost))) * 2 ^ 19)) := by
  intro g'
  simp only [g', giveAgent]
  rw [if_neg (by simp [hlease, hfree, hrun])]
  exact ⟨rfl, rfl⟩

theorem giveAgent_unleased {c : AgentCfg} {held : Bool} (m : GiveMsg) {g : Agent}
    (h : c.lease = false ∨ held = true ∨ g.engRst = true) :
    (giveAgent c held m g).rateQ = g.rateQ ∧ (giveAgent c held m g).target = g.target := by
  simp only [giveAgent]
  rw [if_pos (by rcases h with h | h | h <;> simp [h])]
  exact ⟨rfl, rfl⟩

/-- R76: beside the mark of an ignition the Agent stands as given. -/
theorem giveStands_sets (a : Nat) {g : Agent} (s : State) (hrun : g.wdRun = true) :
    ∃ ig n ags, giveStands a g s = { s with tk := { s.tk with agents := ags, ignitions := n } } ∧
      agentOf (giveStands a g s) a = { g with igniting := ig } ∧
      ∀ c, c ≠ a → agentOf (giveStands a g s) c = agentOf s c := by
  unfold giveStands
  split
  · refine ⟨true, _, _, rfl, agentOf_putAgent_of_running a _ hrun, fun c hc => ?_⟩
    exact (agentOf_putAgent_other _ _ hc).trans (agentOf_putAgent_other g s hc)
  · exact ⟨g.igniting, _, _, rfl, agentOf_putAgent_of_running a _ hrun, fun c hc => agentOf_putAgent_other g s hc⟩

/-- Settles O23: the GIVE in bypass, within the bounds of the pool, and above them. -/
theorem giveArrives : Obligations.GiveArrives := by
  intro a late m r s hmsg hlate o
  refine ⟨exec_give_of_bypassed hmsg hlate, fun hbyp => ?_⟩
  intro pool
  have hexec := exec_give_of_served hmsg hlate hbyp
  obtain ⟨hrecv, hspent, hret, hholders, hrc, hptag, hrtag, hwr, hws, hwl, hwa, hclosed, hwd, hcyc, hgbyp⟩ :=
    giveAgent_sets (agentMap s a) (handHeld s o) m o
  obtain ⟨ig, n, ags, hst, hag, hother⟩ := giveStands_sets a (giveTaken a m r s) hwd
  obtain ⟨t, ht⟩ : ∃ t, giveStands a (giveAgent (agentMap s a) (handHeld s o) m o) (giveTaken a m r s) = t := ⟨_, rfl⟩
  rw [ht] at hst hag hother hexec
  have hpool : poolOf (agentOf t a) = pool := by
    rw [hag]
    exact (congrArg (diff32 · _) hrecv).trans (congrArg (diff32 _) hspent)
  have hmap : agentMap t a = agentMap s a := by rw [hst]; rfl
  refine ⟨fun hceil hmax => ⟨t, ?within, ?agent, hother, ?rest⟩, fun hover => ?above⟩
  case within =>
    rw [hexec, poolCheck_within (.inr (by rw [hpool, hmap]; exact ⟨hceil, hmax⟩))]
  case agent =>
    rw [hag]
    exact ⟨hrecv, hspent, hret, hholders, hrc, giveAgent_credit_of_short _ _ m, giveAgent_credit_of_other _ _ m, hptag, hrtag,
      hwr, hws, hwl, hwa, hclosed, hwd, hcyc, hgbyp.trans hbyp, fun hl hf hr => giveAgent_leased m hl hf hr,
      fun h => giveAgent_unleased m h⟩
  case rest =>
    rw [hst]
    rfl
  case above =>
    have hout : (agentOf t a).byp = false := by
      rw [hag]
      exact hgbyp.trans hbyp
    have hcheck : poolCheck a t = bypEnter false a 1 t :=
      if_pos (by simp [hout, hpool, hmap, decide_eq_true hover])
    have hrecv' : (bypAgent 1 (agentOf t a)).recv = (o.recv + m.tickets) % 2 ^ 32 := by
      rw [hag]
      exact hrecv
    have hbypassed : agentOf (bypEnter false a 1 t) a = bypAgent 1 (agentOf t a) := by
      rw [agentOf_bypEnter false 1 hout]
    exact ⟨_, hexec.trans (congrArg Host.Outcome.next hcheck), congrArg Agent.byp hbypassed,
      congrArg Agent.bypCause hbypassed, (congrArg Agent.recv hbypassed).trans hrecv'⟩

end Sys2Proof.Machine
end

section
/-! R96, R98, R102, R103: each hand operation on its Agent. -/

namespace Sys2Proof.Machine

open Sys2Proof

/-- R102: an operation that no refusal meets: its Agent is here, its privilege suffices, and a hold stands where it asks for one. -/
def handPasses (c : AgentCmd) (s : State) : Prop :=
  ¬ (!agentHere s c.agent || decide (10 ≤ c.op)) = true ∧ ¬ (c.priv ≠ 2 && opPriv c.op = 2) = true ∧
    ¬ (opHeld c.op && !handHeld s (agentOf s c.agent)) = true

/-- The registers of a hand operation, written before it runs. -/
def handTaken (op a h n : Nat) (s : State) : State :=
  let u := putReg 0x2094 op (putReg 0x2098 n (putReg 0x200C (a * 256 + h) { s with out := [] }))
  { u with tk := { u.tk with cmd := none, cmdDone := false } }

section
variable (op a h n : Nat) (s : State)

theorem handTaken_agents : (handTaken op a h n s).tk.agents = s.tk.agents := rfl
theorem handTaken_booths : (handTaken op a h n s).tk.booths = s.tk.booths := rfl
theorem handTaken_pb : (handTaken op a h n s).pb = s.pb := by simp only [handTaken, putReg]
theorem handTaken_office : (handTaken op a h n s).tk.office = s.tk.office := rfl
theorem handTaken_handAdded : (handTaken op a h n s).tk.handAdded = s.tk.handAdded := rfl
theorem handTaken_handDiscard : (handTaken op a h n s).tk.handDiscard = s.tk.handDiscard := rfl
theorem handTaken_fault : (handTaken op a h n s).fault = s.fault := by simp only [handTaken, putReg]

theorem agentOf_handTaken (b : Nat) : agentOf (handTaken op a h n s) b = agentOf s b := by
  rw [agentOf, agentOf, handTaken_agents]

theorem agentMap_handTaken (b : Nat) : agentMap (handTaken op a h n s) b = agentMap s b := by
  rw [agentMap, agentMap, handTaken_pb]

theorem boothFailed_handTaken (b : Nat) : boothFailed (handTaken op a h n s) b = boothFailed s b := by
  rw [boothFailed, boothFailed, handTaken_booths]

end

theorem handPasses_of {op p a h n : Nat} {s : State} (hup : s.start.blkUp = true)
    (hagent : (tlook a s.pb.agents).isSome = true) (hop : op < 10) (hpriv : p = 2 ∨ opPriv op ≠ 2)
    (hheld : opHeld op = false ∨ handHeld s (agentOf s a) = true) :
    handPasses ⟨op, p, a, h, n⟩ (handTaken op a h n s) := by
  refine ⟨?_, ?_, ?_⟩
  · have hhere : agentHere (handTaken op a h n s) a = true := by rw [agentHere, handTaken_pb, hagent]; exact hup
    simp [hhere, hop]
  · rcases hpriv with hpriv | hpriv <;> simp [hpriv]
  · rcases hheld with hheld | hheld
    · simp [hheld]
    · have hheld' : handHeld (handTaken op a h n s) (agentOf s a) = true := by
        rw [← hheld, handHeld, handHeld, handTaken_fault]
      simp [agentOf_handTaken, hheld']

theorem handOp_runs {op p a h n : Nat} {s : State} (hopen : s.portOpen) (hdone : s.tk.cmdDone = true) (hp : 1 ≤ p) {y : State}
    (hy : handRun ⟨op, p, a, h, n⟩ (handTaken op a h n s) = y) : handOp op p a h n s = .next (rpAnswer 0 0 y) :=
  (handOp_open hopen hp hdone).trans (congrArg (fun x => Host.Outcome.next (rpAnswer 0 0 x)) hy)

section
variable {p a h n : Nat} {x : State}

theorem handRun_none (hpass : handPasses ⟨0, p, a, h, n⟩ x) :
    handRun ⟨0, p, a, h, n⟩ x = handDone 0 (handEvent 0 0 x) := by
  obtain ⟨h1, h2, h3⟩ := hpass
  exact (if_neg h1).trans ((if_neg h2).trans (if_neg h3))

theorem handRun_hold (hpass : handPasses ⟨1, p, a, h, n⟩ x) :
    handRun ⟨1, p, a, h, n⟩ x = handDone 0 (handEvent 1 0 (putAgent a { agentOf x a with handHold := true } x)) := by
  obtain ⟨h1, h2, h3⟩ := hpass
  exact (if_neg h1).trans ((if_neg h2).trans (if_neg h3))

theorem handRun_unhold (hpass : handPasses ⟨2, p, a, h, n⟩ x) :
    handRun ⟨2, p, a, h, n⟩ x = handDone 0 (handEvent 2 0 (putAgent a { agentOf x a with handHold := false } x)) := by
  obtain ⟨h1, h2, h3⟩ := hpass
  exact (if_neg h1).trans ((if_neg h2).trans (if_neg h3))

theorem handRun_addPool (hpass : handPasses ⟨3, p, a, h, n⟩ x) (hbyp : (agentOf x a).byp = false)
    (hfits : diff32 (tget officeAgent0 a x.tk.office).sent (agentOf x a).spent + n ≤ (agentMap x a).poolCeil) :
    handRun ⟨3, p, a, h, n⟩ x = handDone 0 (handEvent 3 n (handSent a n
      (putAgent a { agentOf x a with recv := ((agentOf x a).recv + n) % 2 ^ 32 } x))) := by
  obtain ⟨h1, h2, h3⟩ := hpass
  exact (if_neg h1).trans ((if_neg h2).trans ((if_neg h3).trans
    ((if_neg (hbyp ▸ Bool.false_ne_true)).trans (if_neg (Nat.not_lt.2 hfits)))))

theorem handRun_addPool_bypassed (hpass : handPasses ⟨3, p, a, h, n⟩ x) (hbyp : (agentOf x a).byp = true) :
    handRun ⟨3, p, a, h, n⟩ x = handDone 0 (handEvent 3 0 x) := by
  obtain ⟨h1, h2, h3⟩ := hpass
  exact (if_neg h1).trans ((if_neg h2).trans ((if_neg h3).trans (if_pos hbyp)))

theorem handRun_discardPool (hpass : handPasses ⟨4, p, a, h, n⟩ x) :
    let m := if (agentOf x a).byp then 0 else min n (poolOf (agentOf x a))
    handRun ⟨4, p, a, h, n⟩ x = handDone 0 (handEvent 4 0 (
      let y := putAgent a { agentOf x a with spent := ((agentOf x a).spent + m) % 2 ^ 32 } x
      { y with tk := { y.tk with handDiscard := (x.tk.handDiscard + m) % 2 ^ 32 } })) := by
  obtain ⟨h1, h2, h3⟩ := hpass
  exact (if_neg h1).trans ((if_neg h2).trans (if_neg h3))

theorem handRun_grantHolder (hpass : handPasses ⟨5, p, a, h, n⟩ x) (hwait : (holderOf (agentOf x a) h).wait = true) :
    handRun ⟨5, p, a, h, n⟩ x =
      handDone 0 (handEvent 5 (holderOf (agentOf x a) h).cost (handGrant a h x)) := by
  obtain ⟨h1, h2, h3⟩ := hpass
  exact (if_neg h1).trans ((if_neg h2).trans ((if_neg h3).trans (if_neg (by rw [hwait]; decide))))

theorem handRun_expireHolder (hpass : handPasses ⟨6, p, a, h, n⟩ x) (hwait : (holderOf (agentOf x a) h).wait = true) :
    handRun ⟨6, p, a, h, n⟩ x = handDone 0 (handEvent 6 0 (putAgent a (putHolder h
      { holderClear (holderOf (agentOf x a) h) with
        reclaimed := (holderOf (agentOf x a) h).reclaimed, expired := true } (agentOf x a)) x)) := by
  obtain ⟨h1, h2, h3⟩ := hpass
  exact (if_neg h1).trans ((if_neg h2).trans ((if_neg h3).trans (if_neg (by rw [hwait]; decide))))

theorem handRun_clearHolder (hpass : handPasses ⟨7, p, a, h, n⟩ x) :
    handRun ⟨7, p, a, h, n⟩ x =
      handDone 0 (handEvent 7 0 (putAgent a (putHolder h (holderClear (holderOf (agentOf x a) h)) (agentOf x a)) x)) := by
  obtain ⟨h1, h2, h3⟩ := hpass
  exact (if_neg h1).trans ((if_neg h2).trans (if_neg h3))

theorem handRun_restore (hpass : handPasses ⟨8, p, a, h, n⟩ x) : handRun ⟨8, p, a, h, n⟩ x = handRestore a x := by
  obtain ⟨h1, h2, h3⟩ := hpass
  exact (if_neg h1).trans ((if_neg h2).trans (if_neg h3))

theorem handRun_forceBypass (hpass : handPasses ⟨9, p, a, h, n⟩ x) :
    handRun ⟨9, p, a, h, n⟩ x = handDone 0 (handEvent 9 0 (bypEnter false a 5 x)) := by
  obtain ⟨h1, h2, h3⟩ := hpass
  exact (if_neg h1).trans ((if_neg h2).trans (if_neg h3))

/-- R66: a grant by hand moves SENT, RECV and SPENT together. -/
theorem handGrant_of_served (hbyp : (agentOf x a).byp = false) :
    handGrant a h x = handSent a (holderOf (agentOf x a) h).cost (
      let g := agentOf x a
      let e := holderOf g h
      putAgent a { g with
        recv := (g.recv + e.cost) % 2 ^ 32, spent := (g.spent + e.cost) % 2 ^ 32, epGrant := g.epGrant + e.cost,
        handGrants := g.handGrants ++ [(h, e.cost)], holders := tset holder0 h (holderClear e) g.holders } x) :=
  if_neg (hbyp ▸ Bool.false_ne_true)

/-- R103: a grant by hand in bypass is charged to the bypass bucket. -/
theorem handGrant_of_bypassed (hbyp : (agentOf x a).byp = true) :
    handGrant a h x = (
      let g := agentOf x a
      let e := holderOf g h
      putAgent a { g with
        bucket := g.bucket - ((65536 * e.cost : Nat) : Int), bypGranted := (g.bypGranted + e.cost) % 2 ^ 32,
        handGrants := g.handGrants ++ [(h, e.cost)], holders := tset holder0 h (holderClear e) g.holders } x) :=
  if_pos hbyp

end

/-- R98: with no injection, the entries that a RESTORE reads are good. -/
theorem restoreCheck_clean {s : State} (a : Nat) (h : s.fault.inj = none) : restoreCheck a s = s := by
  rw [restoreCheck, injCheck_none _ s h]
  exact holderCheck_zero true a _ s

theorem restoreRefused_eq_false {s : State} {a : Nat} (hbyp : (agentOf s a).byp = true)
    (hbooth : boothFailed s (a / 64) = false) (hbad : (agentOf s a).badHolders = []) (hentries : (agentOf s a).bypEntries < 4) :
    restoreRefused s a = false := by
  simp [restoreRefused, hbyp, hbooth, hbad, Nat.not_le.2 hentries]

theorem handRestore_accepted {s : State} {a : Nat} (hbyp : (agentOf s a).byp = true) (hinj : s.fault.inj = none)
    (hbooth : boothFailed s (a / 64) = false) (hbad : (agentOf s a).badHolders = []) (hentries : (agentOf s a).bypEntries < 4) :
    handRestore a s = handEvent 8 0 (putAgent a { agentOf s a with resyncWait := true } s) := by
  unfold handRestore
  rw [if_neg (by rw [hbyp]; decide), restoreCheck_clean a hinj]
  exact if_neg (restoreRefused_eq_false hbyp hbooth hbad hentries ▸ Bool.false_ne_true)

/-- Settles O25: each operation past the refusals. -/
theorem handOperations : Obligations.HandOperations := by
  intro p a h n s hopen hdone hagent hp g e o v fin sends idle
  have hpass : ∀ (q op k m : Nat), op < 10 → (q = 2 ∨ opPriv op ≠ 2) → (opHeld op = false ∨ handHeld s g = true) →
      handPasses ⟨op, q, a, k, m⟩ (handTaken op a k m s) :=
    fun q op k m hop hpriv hheld => handPasses_of hopen.1 hagent hop hpriv hheld
  have hfree : ∀ (op k m : Nat), op < 10 → opHeld op = false → handPasses ⟨op, 2, a, k, m⟩ (handTaken op a k m s) :=
    fun op k m hop hheld => hpass 2 op k m hop (.inl rfl) (.inl hheld)
  refine ⟨fun st x => rfl, fun op m x => rfl, ?none, ?hold, ?unhold, fun hheld => ?held,
    fun hbyp hbooth hbad hentries hinj => ?restore, ?force⟩
  case none =>
    exact handOp_runs hopen hdone hp (handRun_none (hpass p 0 0 0 (by decide) (.inr (by decide)) (.inl rfl)))
  case hold =>
    have hrun := handRun_hold (hfree 1 0 0 (by decide) rfl)
    rw [agentOf_handTaken] at hrun
    exact handOp_runs hopen hdone (by decide) hrun
  case unhold =>
    have hrun := handRun_unhold (hfree 2 0 0 (by decide) rfl)
    rw [agentOf_handTaken] at hrun
    exact handOp_runs hopen hdone (by decide) hrun
  case restore =>
    have hrun : handRestore a (handTaken 8 a 0 0 s) = _ := handRestore_accepted (by rwa [agentOf_handTaken])
      (by rwa [handTaken_fault]) (by rwa [boothFailed_handTaken]) (by rwa [agentOf_handTaken]) (by rwa [agentOf_handTaken])
    rw [agentOf_handTaken] at hrun
    exact handOp_runs hopen hdone hp ((handRun_restore (hpass p 8 0 0 (by decide) (.inr (by decide)) (.inl rfl))).trans hrun)
  case force =>
    exact handOp_runs hopen hdone hp (handRun_forceBypass (hpass p 9 0 0 (by decide) (.inr (by decide)) (.inl rfl)))
  case held =>
    have hunder : ∀ (op k m : Nat), op < 10 → handPasses ⟨op, 2, a, k, m⟩ (handTaken op a k m s) :=
      fun op k m hop => hpass 2 op k m hop (.inl rfl) (.inr hheld)
    refine ⟨fun hbyp hfits => ?add, fun hbyp => ?addByp, ?discard,
      fun hwait => ⟨fun hbyp => ?grant, fun hbyp => ?grantByp, ?expire⟩, ?clear⟩
    case add =>
      have hrun := handRun_addPool (hunder 3 0 n (by decide)) (by rwa [agentOf_handTaken])
        (by rwa [agentOf_handTaken, agentMap_handTaken, handTaken_office])
      rw [agentOf_handTaken] at hrun
      exact handOp_runs hopen hdone (by decide) hrun
    case addByp =>
      exact handOp_runs hopen hdone (by decide)
        (handRun_addPool_bypassed (hunder 3 0 n (by decide)) (by rwa [agentOf_handTaken]))
    case discard =>
      have hrun := handRun_discardPool (hunder 4 0 n (by decide))
      rw [agentOf_handTaken] at hrun
      exact handOp_runs hopen hdone (by decide) hrun
    case grant =>
      have hrun := (handRun_grantHolder (hunder 5 h 0 (by decide)) (by rwa [agentOf_handTaken])).trans
        (congrArg (fun x => handDone 0 (handEvent 5 _ x)) (handGrant_of_served (by rwa [agentOf_handTaken])))
      rw [agentOf_handTaken] at hrun
      exact handOp_runs hopen hdone (by decide) hrun
    case grantByp =>
      have hrun := (handRun_grantHolder (hunder 5 h 0 (by decide)) (by rwa [agentOf_handTaken])).trans
        (congrArg (fun x => handDone 0 (handEvent 5 _ x)) (handGrant_of_bypassed (by rwa [agentOf_handTaken])))
      rw [agentOf_handTaken] at hrun
      exact handOp_runs hopen hdone (by decide) hrun
    case expire =>
      have hrun := handRun_expireHolder (hunder 6 h 0 (by decide)) (by rwa [agentOf_handTaken])
      rw [agentOf_handTaken] at hrun
      exact handOp_runs hopen hdone (by decide) hrun
    case clear =>
      have hrun := handRun_clearHolder (hunder 7 h 0 (by decide))
      rw [agentOf_handTaken] at hrun
      exact handOp_runs hopen hdone (by decide) hrun

end Sys2Proof.Machine
end

section
/-! R61, R67, R68, R98, R100: reports at the Booths and the Office, a Booth that is silent, and RESYNC. -/

namespace Sys2Proof.Machine

open Sys2Proof

/-! ### Reports -/

theorem exec_agentReport {a : Nat} {m : AgentRep} {r : List AgentRep} {s : State} (late : Nat)
    (hmsg : tget [] a s.tk.toBoothUp = m :: r) :
    exec (.agentReport a late) s = .next (lateMessage late { s with
      out := [],
      tk := { s.tk with
        toBoothUp := tset [] a r s.tk.toBoothUp, chans := chanRecv 3 a m.retNow s.tk.chans,
        booths := tset booth0 (a / 64) { tget booth0 (a / 64) s.tk.booths with
          inbox := (tget booth0 (a / 64) s.tk.booths).inbox ++ [m] } s.tk.booths } }) := by
  change execAgentReport a late s = _
  unfold execAgentReport
  extract_lets s0
  rw [show tget [] a s0.tk.toBoothUp = m :: r from hmsg]
  rfl

/-- A summary of one report has left the Booth's channel. -/
def summaryTaken (b : Nat) (m : AgentRep) (r : List (List AgentRep)) (s : State) : State :=
  { s with
    out := [],
    tk := { s.tk with
      toOffice := tset [] b r s.tk.toOffice, chans := chanRecv 1 b m.retNow s.tk.chans,
      booths := tset booth0 b { tget booth0 b s.tk.booths with missed := 0 } s.tk.booths } }

/-- The Office's state once it has taken a summary of one report. -/
def summaryJudged (b : Nat) (m : AgentRep) (s : State) : State :=
  if boothFailed s b then officeCounts m s else
    let t := officeRep m s
    let u := (([m].map AgentRep.agent).filter (fun a => served t a && officeBad t a)).foldl
      (fun x a => bypEnter false a 1 x) t
    if boothBad u b then boothFail false b u else u

theorem exec_boothReportSummary_single {b late : Nat} {m : AgentRep} {r : List (List AgentRep)} {s : State}
    (hmsg : tget [] b s.tk.toOffice = [m] :: r) (hlate : late ≤ 32) :
    exec (.boothReportSummary b late) s = .next (summaryJudged b m (summaryTaken b m r s)) := by
  change execBoothReportSummary b late s = _
  unfold execBoothReportSummary
  extract_lets s0
  have hsum : sumN ([m].map AgentRep.retNow) = m.retNow := by simp [sumN]
  rw [show tget [] b s0.tk.toOffice = [m] :: r from hmsg]
  dsimp only
  rw [hsum, lateMessage_of_le hlate, lateMessage_of_le hlate, summaryJudged]
  split
  · rename_i h
    rw [if_pos (show boothFailed (summaryTaken b m r s) b = true from h)]
    rfl
  · rename_i h
    rw [if_neg (show ¬ boothFailed (summaryTaken b m r s) b = true from h)]
    rfl

theorem officeCounts_eq (m : AgentRep) (s : State) :
    let key := m.agent / 64 * 4 + (agentMap s m.agent).dom
    let x := tget boothDom0 key s.tk.bds
    officeCounts m s = { s with tk := { s.tk with
      g := m.wins.foldl (fun c w => tset 0 w.refill (tget 0 w.refill c + w.lump) c) s.tk.g,
      bds := tset boothDom0 key { x with
        granted := m.wins.foldl (fun l w => histAdd (s.time.edgeN - w.sample) w.all l) x.granted,
        credited := if m.retK = s.time.edgeN then x.credited + m.retNow else x.credited,
        uncredited := if m.retK = s.time.edgeN then x.uncredited
          else histAdd (s.time.edgeN - m.retK) m.retNow x.uncredited } s.tk.bds } } := by
  intro key x
  simp only [officeCounts, tmod, decide_eq_true_eq, key, x]

theorem boothFailed_officeCounts (m : AgentRep) (s : State) (b : Nat) :
    boothFailed (officeCounts m s) b = boothFailed s b := rfl

section
variable {b : Nat} {m : AgentRep} {s : State}

theorem summaryJudged_of_failed (h : boothFailed s b = true) : summaryJudged b m s = officeCounts m s := if_pos h

theorem summaryJudged_of_unserved (h : boothFailed s b = false) (hserved : served s m.agent = false)
    (hgood : boothBad (officeCounts m s) b = false) : summaryJudged b m s = officeCounts m s := by
  have hrep : officeRep m s = officeCounts m s := if_neg (hserved ▸ Bool.false_ne_true)
  have hunserved : served (officeCounts m s) m.agent = false := hserved
  simp [summaryJudged, h, hrep, hunserved, hgood]

theorem summaryJudged_of_served (h : boothFailed s b = false) (hserved : served s m.agent = true)
    (hgood : boothBad (officeCounts m s) b = false)
    (hcounters : officeBad (officeRep m s) m.agent = false) : summaryJudged b m s = officeRep m s := by
  have hgood' : boothBad (officeRep m s) b = false := by
    rw [officeRep, if_pos hserved]
    exact hgood
  simp [summaryJudged, h, hcounters, hgood']

end

/-! ### A Booth that is silent (R100) -/

/-- Each Agent of a list has entered bypass, and nothing but the Agents and the count of entries changed. -/
structure EntersBypass (l : List Nat) (s t : State) : Prop where
  inside : ∀ a ∈ l, (agentOf t a).byp = true
  outside : ∀ a, a ∉ l → agentOf t a = agentOf s a
  frame : t = { s with tk := { s.tk with agents := t.tk.agents, bypassEntries := t.tk.bypassEntries } }

theorem entersBypass_bypSet (a cause : Nat) (s : State) : EntersBypass [a] s (bypSet a cause s).1 := by
  have hother : ∀ c, c ∉ [a] → c ≠ a := fun c hc h => hc (List.mem_singleton.2 h)
  by_cases hbyp : (agentOf s a).byp = true
  · have hset : bypSet a cause s =
        (putAgent a { agentOf s a with causesSeen := (agentOf s a).causesSeen ||| 2 ^ cause } s, false) := if_pos hbyp
    rw [hset]
    refine ⟨fun c hc => ?_, fun c hc => agentOf_putAgent_other _ s (hother c hc), rfl⟩
    rw [List.mem_singleton.1 hc]
    exact (congrArg Agent.byp (agentOf_putAgent_of_bypassed a (g := { agentOf s a with
      causesSeen := (agentOf s a).causesSeen ||| 2 ^ cause }) s hbyp)).trans hbyp
  · have hset : (bypSet a cause s).1 = { putAgent a (bypAgent cause (agentOf s a)) s with
        tk := { (putAgent a (bypAgent cause (agentOf s a)) s).tk with
          bypassEntries := wrapAdd 8 s.tk.bypassEntries 1 } } := by
      rw [show bypSet a cause s = _ from if_neg hbyp]
      rfl
    rw [hset]
    refine ⟨fun c hc => ?_, fun c hc => agentOf_putAgent_other _ s (hother c hc), rfl⟩
    rw [List.mem_singleton.1 hc]
    exact congrArg Agent.byp (agentOf_putAgent_of_bypassed a s rfl)

theorem EntersBypass.append {l l' : List Nat} {s t u : State} (h : EntersBypass l s t) (h' : EntersBypass l' t u) :
    EntersBypass (l ++ l') s u := by
  refine ⟨fun a ha => ?_, fun a ha => ?_, ?_⟩
  · by_cases hl' : a ∈ l'
    · exact h'.inside a hl'
    · rw [h'.outside a hl']
      exact h.inside a ((List.mem_append.1 ha).resolve_right hl')
  · rw [List.mem_append, not_or] at ha
    rw [h'.outside a ha.2, h.outside a ha.1]
  · rw [h'.frame, h.frame]

/-- R100: the Agents of a failed Booth enter bypass one by one; those that were outside are told. -/
def boothBypass (l : List Nat) (s : State) : State × List Nat :=
  l.foldl (fun (x : State × List Nat) a =>
    let y := bypSet a 4 x.1
    (y.1, if y.2 then x.2 ++ [a] else x.2)) (s, [])

theorem entersBypass_foldl (l : List Nat) (x : State × List Nat) :
    EntersBypass l x.1 (l.foldl (fun (x : State × List Nat) a =>
      let y := bypSet a 4 x.1
      (y.1, if y.2 then x.2 ++ [a] else x.2)) x).1 := by
  induction l generalizing x with
  | nil => exact ⟨fun _ h => (List.not_mem_nil h).elim, fun _ _ => rfl, rfl⟩
  | cons a r ih => exact (entersBypass_bypSet a 4 x.1).append (ih ((bypSet a 4 x.1).1, if (bypSet a 4 x.1).2 then x.2 ++ [a] else x.2))

theorem boothFail_of_working {b : Nat} {s : State} (h : boothFailed s b = false) :
    let x := boothBypass (boothAgents s b) { s with tk := { s.tk with
      booths := tset booth0 b { tget booth0 b s.tk.booths with failed := true } s.tk.booths } }
    boothFail false b s = raise 2 1 (report 0x2006 (b : Int) (match x.2 with
      | [] => x.1
      | a :: _ => raise 2 0 (report 0x2005 (a : Int) x.1))) := by
  intro x
  exact if_neg (show ¬ boothFailed s b = true from h ▸ Bool.false_ne_true)

/-- The Agents and Booths of a state: what reports and causes leave. -/
theorem boothFail_told {b : Nat} {s : State} (h : boothFailed s b = false) :
    let x := boothBypass (boothAgents s b) { s with tk := { s.tk with
      booths := tset booth0 b { tget booth0 b s.tk.booths with failed := true } s.tk.booths } }
    x.1.onlyTold (boothFail false b s) := by
  intro x
  rw [boothFail_of_working h]
  change x.1.onlyTold (raise 2 1 (report 0x2006 (b : Int) (match x.2 with
      | [] => x.1
      | a :: _ => raise 2 0 (report 0x2005 (a : Int) x.1))))
  cases x.2 with
  | nil =>
    obtain ⟨_, _, _, _, _, _, _, h1⟩ := report_frame 0x2006 (b : Int) x.1 (by decide)
    rw [h1]
    rfl
  | cons a r =>
    obtain ⟨_, _, _, _, _, _, _, h1⟩ := report_frame 0x2005 (a : Int) x.1 (by decide)
    obtain ⟨_, _, _, _, _, _, _, h2⟩ := report_frame 0x2006 (b : Int) (raise 2 0 (report 0x2005 (a : Int) x.1)) (by decide)
    dsimp only
    rw [h2, h1]
    rfl

theorem onlyTold_tk {u t : State} (h : u.onlyTold t) : t.tk = u.tk := by
  unfold State.onlyTold at h
  have htk := congrArg State.tk h
  exact htk

/-! ### RESYNC (R98) -/

theorem diff32_self (n : Nat) : diff32 n n = 0 := by
  unfold diff32
  omega

/-- R98: an Agent that leaves bypass with an empty pool. -/
def resynced (sent : Nat) (g : Agent) : Agent :=
  { g with
    byp := false, resyncWait := false, recv := sent, spent := sent, causesSeen := 0, bucket := 0, rcLeft := 0, credit := 0,
    winLump := 0, winAll := 0, rateQ := 0, target := 0, igniting := false, took := 0 }

section
variable {a : Nat} {s : State}

theorem exec_resync_of_failed (hwait : (agentOf s a).resyncWait = true) (hbooth : boothFailed s (a / 64) = true) :
    exec (.resync a) s = .next (handDone 6 (putAgent a { agentOf s a with resyncWait := false } { s with out := [] })) := by
  have hrefused : restoreRefused (fresh s) a = true := by
    simp [restoreRefused, show boothFailed (fresh s) (a / 64) = true from hbooth]
  exact (if_neg (show ¬ (!(agentOf s a).resyncWait) = true by rw [hwait]; decide)).trans (if_pos hrefused)

theorem exec_resync_of_accepted (hwait : (agentOf s a).resyncWait = true)
    (haccept : restoreRefused s a = false) :
    let o := tget officeAgent0 a s.tk.office
    exec (.resync a) s = .next (handDone 0 { s with
      out := [],
      tk := { s.tk with
        agents := tset agent0 a (resynced o.sent (agentOf s a)) s.tk.agents, toAgent := tset [] a [] s.tk.toAgent,
        chans := resyncChans { s with out := [] } a,
        office := tset officeAgent0 a { o with
          repSpent := o.sent, repRecv := o.sent, repRet := (agentOf s a).ret, rejoin := true } s.tk.office } }) :=
  (if_neg (show ¬ (!(agentOf s a).resyncWait) = true by rw [hwait]; decide)).trans
    (if_neg (show ¬ restoreRefused (fresh s) a = true from haccept ▸ Bool.false_ne_true))

end

/-- Settles O24: a report, a summary, a silent Booth and a RESYNC in turn. -/
theorem reportsTaken : Obligations.ReportsTaken := by
  refine ⟨fun a late m r s hmsg => ?report, fun b late m r s hmsg hlate => ?summary,
    fun b s hmissed hkey hrun hworks => ?timeout, fun a s hwait hbyp => ⟨fun hbooth => ?failed, fun hbooth hbad hent => ?resync⟩⟩
  case report =>
    intro b tk
    refine ⟨fun hle => ?_, fun hlt => ?_⟩
    · rw [exec_agentReport late hmsg, lateMessage_of_le hle]
    · rw [exec_agentReport late hmsg]
      exact congrArg Host.Outcome.next (if_pos hlt)
  case summary =>
    intro key x now u
    have hcounts : officeCounts m (summaryTaken b m r s) = u := officeCounts_eq m (summaryTaken b m r s)
    rw [exec_boothReportSummary_single hmsg hlate]
    rw [← hcounts, boothFailed_officeCounts]
    refine ⟨fun hfail => ?_, fun hfail hserved hgood => ?_, fun hfail hserved hgood => ?_⟩
    · rw [summaryJudged_of_failed hfail]
    · rw [summaryJudged_of_unserved hfail hserved hgood]
    · intro o v hcounters
      have hrep : officeRep m (summaryTaken b m r s) = v := if_pos (show served (summaryTaken b m r s) m.agent = true from hserved)
      rw [summaryJudged_of_served hfail hserved hgood (hrep ▸ hcounters), hrep]
  case timeout =>
    let s1 : State := { s with
      out := [],
      tk := { s.tk with booths := tset booth0 b { tget booth0 b s.tk.booths with failed := true } s.tk.booths } }
    have hguard : (decide (4 ≤ (tget booth0 b s.tk.booths).missed) && (boothKeys s).contains b && !fabricHeld s) = true := by
      rw [decide_eq_true hmissed, List.contains_iff_mem.2 hkey, (fabricHeld_of_running hrun).1]
      rfl
    let x : State := (boothBypass (boothAgents s b) s1).1
    obtain ⟨hin, hout, hframe⟩ : EntersBypass (boothAgents s b) s1 x := entersBypass_foldl (boothAgents s b) (s1, [])
    have htold : x.onlyTold (boothFail false b (fresh s)) := boothFail_told (s := fresh s) hworks
    let t : State := boothFail false b (fresh s)
    have htk : t.tk = x.tk := onlyTold_tk htold
    have hbooths : t.tk.booths = s1.tk.booths := by
      rw [htk, hframe]
    have hagents : ∀ a, agentOf t a = agentOf x a := fun a => by rw [agentOf, agentOf, htk]
    refine ⟨t, if_pos hguard, ?_, fun a ha => ?_, fun a ha => ?_, ?_⟩
    · rw [boothFailed, hbooths]
      exact congrArg Booth.failed (tget_tset_of_ne booth0 b s.tk.booths
        (v := { tget booth0 b s.tk.booths with failed := true }) fun h => Bool.noConfusion (congrArg Booth.failed h))
    · rw [hagents]
      exact hin a ha
    · rw [hagents, hout a ha]
      rfl
    · have hsame : ({ s with
          out := [],
          tk := { s.tk with agents := t.tk.agents, booths := t.tk.booths, bypassEntries := t.tk.bypassEntries } } : State) =
          x := by
        rw [hbooths, htk]
        exact hframe.symm
      rw [hsame]
      exact htold
  case failed =>
    exact exec_resync_of_failed hwait hbooth
  case resync =>
    intro o
    have hexec := exec_resync_of_accepted hwait (restoreRefused_eq_false hbyp hbooth hbad hent)
    refine ⟨resynced o.sent (agentOf s a), ?_, rfl, rfl, rfl, diff32_self o.sent, rfl, rfl, rfl, rfl, rfl, rfl, rfl, rfl, rfl⟩
    rw [hexec, handDone]

end Sys2Proof.Machine
end

section
/-! R105 to R109, R114, R118 to R120, R130: a slot's routine, its pieces, its overrun, and the end of a freeze request. -/

namespace Sys2Proof.Machine

open Sys2Proof

/-! ### A routine keeps its thread and slot -/

/-- R105, R107: a routine works for one slot, on one thread. -/
def Run.SameSlot (r r' : Run) : Prop := r'.thread = r.thread ∧ r'.slot = r.slot

theorem Run.SameSlot.trans {r r' r'' : Run} (h : r.SameSlot r') (h' : r'.SameSlot r'') : r.SameSlot r'' :=
  ⟨h'.1.trans h.1, h'.2.trans h.2⟩

theorem sameSlot_readsOf (g : Nat) (l : List Nat) (r : Run) : r.SameSlot (readsOf g l r) := by
  unfold readsOf
  split
  · split <;> exact ⟨rfl, rfl⟩
  · exact ⟨rfl, rfl⟩

theorem sameSlot_readsAny (r : Run) : r.SameSlot (readsAny r) := by
  unfold readsAny
  split
  · split <;> exact ⟨rfl, rfl⟩
  · exact ⟨rfl, rfl⟩

theorem sameSlot_putBlocks (vd : Nat) (l : List Block) (r : Run) : r.SameSlot (putBlocks vd l r) := by
  unfold putBlocks
  generalize l.zipIdx = bs
  induction bs generalizing r with
  | nil => exact ⟨rfl, rfl⟩
  | cons b bs ih => exact Run.SameSlot.trans ⟨rfl, rfl⟩ (ih _)

theorem sameSlot_setFlags (stages f : Nat) (r : Run) : r.SameSlot (setFlags stages f r) := ⟨rfl, rfl⟩

theorem sameSlot_putStage (vd : Nat) (x : Block × Nat × Nat) (r : Run) : r.SameSlot (putStage vd x r) :=
  Run.SameSlot.trans ⟨rfl, rfl⟩ (sameSlot_putBlocks vd [x.1] { r with mem := { r.mem with lfsr := x.2.1 } })

theorem sameSlot_actEst (p : Playbill) (a : CoreAct) (r : Run) : r.SameSlot (actEst p a r) := by
  cases a with
  | adapt =>
    simp only [Run.SameSlot, actEst, tell, setFlags, openFlags]
    split <;> exact ⟨rfl, rfl⟩
  | thermalPart k =>
    simp only [actEst]
    split <;> exact ⟨rfl, rfl⟩
  | _ => exact ⟨rfl, rfl⟩

theorem sameSlot_actCtl (p : Playbill) (a : CoreAct) (r : Run) : r.SameSlot (actCtl p a r) := by
  cases a <;> exact ⟨rfl, rfl⟩

/-- One of the chapters' routines, its reads and its own writes. -/
theorem sameSlot_chapter {r r' : Run} (h : r.SameSlot r') :
    r.SameSlot { readsAny r' with own := ownWrites r.out (readsAny r').out (readsAny r').own } :=
  h.trans (sameSlot_readsAny r')

theorem sameSlot_actOne (p : Playbill) (a : CoreAct) (r : Run) : r.SameSlot (actOne p a r) := by
  have hstage : ∀ vd x, r.SameSlot (drawn (putStage vd x r)) := fun vd x => sameSlot_putStage vd x r
  cases a with
  | loadW rd ra off => exact sameSlot_readsOf 2 _ (drawn (putReg' rd (sdataAt r (reg r ra + off)) r))
  | tableW rd ra off => exact sameSlot_readsOf 4 _ (drawn (putReg' rd (tmemAt r (reg r ra + off)) r))
  | vector op vd va vb sr => exact (hstage vd _).trans (sameSlot_readsOf 3 _ _)
  | reduceV op vd va sr => exact (hstage vd _).trans (sameSlot_readsOf 3 _ _)
  | interpV vd tab va sr => exact ((hstage vd _).trans (sameSlot_readsOf 3 _ _)).trans (sameSlot_readsOf 4 _ _)
  | moveV vd va =>
    exact Run.SameSlot.trans (r' := drawn (putBlocks vd [blockRead (vmemAt r) va] r)) (sameSlot_putBlocks vd _ r)
      (sameSlot_readsOf 3 _ _)
  | gatherV vd tab va => exact ((hstage vd _).trans (sameSlot_readsOf 3 _ _)).trans (sameSlot_readsOf 4 _ _)
  | arrayM vd va wa m n b act =>
    simp only [actOne]
    refine (Run.SameSlot.trans ?_ (sameSlot_readsOf 3 _ _)).trans (sameSlot_readsOf 5 _ _)
    exact sameSlot_putBlocks vd _ r
  | features => exact sameSlot_chapter (sameSlot_actEst p .features r)
  | correction => exact sameSlot_chapter (sameSlot_actEst p .correction r)
  | estimate => exact sameSlot_chapter (sameSlot_actEst p .estimate r)
  | filter => exact sameSlot_chapter (sameSlot_actEst p .filter r)
  | judge => exact sameSlot_chapter (sameSlot_actEst p .judge r)
  | adapt => exact sameSlot_chapter (sameSlot_actEst p .adapt r)
  | pctl => exact sameSlot_chapter (sameSlot_actEst p .pctl r)
  | thermalPart k => exact sameSlot_chapter (sameSlot_actEst p (.thermalPart k) r)
  | thermalTile k => exact sameSlot_chapter (sameSlot_actEst p (.thermalTile k) r)
  | thermalEnd => exact sameSlot_chapter (sameSlot_actEst p .thermalEnd r)
  | stage => exact sameSlot_chapter (sameSlot_actEst p .stage r)
  | commit => exact sameSlot_chapter (sameSlot_actEst p .commit r)
  | windows => exact sameSlot_chapter (sameSlot_actCtl p .windows r)
  | region => exact sameSlot_chapter (sameSlot_actCtl p .region r)
  | loops => exact sameSlot_chapter (sameSlot_actCtl p .loops r)
  | cues => exact sameSlot_chapter (sameSlot_actCtl p .cues r)
  | learn => exact sameSlot_chapter (sameSlot_actCtl p .learn r)
  | prePosition => exact sameSlot_chapter (sameSlot_actCtl p .prePosition r)
  | allowance => exact sameSlot_chapter (sameSlot_actCtl p .allowance r)
  | allocation => exact sameSlot_chapter (sameSlot_actCtl p .allocation r)
  | thermal => exact sameSlot_chapter (sameSlot_actCtl p .thermal r)
  | package => exact sameSlot_chapter (sameSlot_actCtl p .package r)
  | nothing => exact ⟨rfl, rfl⟩
  | scalar op rd ra rb => exact ⟨rfl, rfl⟩
  | mulWide sg rd ra rb => exact ⟨rfl, rfl⟩
  | selectS rd rc ra rb => exact ⟨rfl, rfl⟩
  | storeW rs ra off => exact ⟨rfl, rfl⟩
  | skipIf ra n => exact ⟨rfl, rfl⟩
  | loopN c len => exact ⟨rfl, rfl⟩

theorem sameSlot_runOne (p : Playbill) (r : Run) : r.SameSlot (runOne p r) := by
  unfold runOne
  split
  · exact ⟨rfl, rfl⟩
  · rename_i x rest hrest
    have hfetch : r.SameSlot (readsOf 1 x.pc.toList { r with rest := rest }) :=
      sameSlot_readsOf 1 x.pc.toList { r with rest := rest }
    dsimp only
    split
    · exact hfetch
    · exact hfetch
    · split
      · exact hfetch
      · exact hfetch
    · exact hfetch.trans (sameSlot_actOne p _ _)
    · exact hfetch.trans (sameSlot_actOne p _ _)

theorem sameSlot_runSome (p : Playbill) (n : Nat) (r : Run) : r.SameSlot (runSome p n r) := by
  induction n generalizing r with
  | zero => exact ⟨rfl, rfl⟩
  | succ n ih =>
    unfold runSome
    split
    · exact ⟨rfl, rfl⟩
    · exact (sameSlot_runOne p r).trans (ih _)

theorem slotRoutine_sameSlot (s : State) (i : Nat) (n : Option Nat) :
    (slotRoutine s i n).thread = slotThread s i ∧ (slotRoutine s i n).slot = i :=
  sameSlot_runSome s.pb (n.getD runMax) (slotStart s i)

/-! ### Corrected errors (R108) -/

/-- Counting a corrected error leaves the slots, the routines in progress and O_k. -/
theorem eccFixed_slots (inj : Bool) (s : State) :
    (eccFixed inj s).pb = s.pb ∧ (eccFixed inj s).core.tasks = s.core.tasks ∧ (eccFixed inj s).core.out = s.core.out := by
  obtain ⟨_, _, _, _, _, _, _, h⟩ := reportInj_frame inj 0x3001 0
    { s with core := { s.core with eccCorr := wrapAdd 16 s.core.eccCorr 1 } } (by decide)
  rw [eccFixed, h]
  exact ⟨rfl, rfl, rfl⟩

theorem eccFixedN_slots (inj : Bool) (n : Nat) (s : State) :
    (eccFixedN inj n s).pb = s.pb ∧ (eccFixedN inj n s).core.tasks = s.core.tasks ∧
      (eccFixedN inj n s).core.out = s.core.out := by
  induction n generalizing s with
  | zero => exact ⟨rfl, rfl, rfl⟩
  | succ n ih =>
    obtain ⟨hpb, htasks, hout⟩ := eccFixed_slots inj s
    obtain ⟨hpb', htasks', hout'⟩ := ih (eccFixed inj s)
    exact ⟨hpb'.trans hpb, htasks'.trans htasks, hout'.trans hout⟩

theorem slotBase_eccFixedN (inj : Bool) (n i : Nat) (s : State) : slotBase (eccFixedN inj n s) i = slotBase s i := by
  obtain ⟨hpb, htasks, hout⟩ := eccFixedN_slots inj n s
  simp only [slotBase, slotThread, slotDesc, hpb, htasks, hout]

/-! ### A piece of a routine -/

theorem slotTrace_of_no_source {old : CoreOut} {r : Run} {s : State} (h : trcSources s [1] = []) : slotTrace old r s = s :=
  if_pos h

section
variable {i corr : Nat} {steps : Option Nat} {s : State}

theorem exec_slotRun_of_ready (unc : Bool) (h : slotReady s i = true) :
    let r := slotRoutine s i steps
    exec (.slotRun i steps corr unc) s =
      .next (slotChecked corr unc r (if r.rest.isEmpty then slotEnds r else slotGoesOn r) { s with out := [] }) :=
  if_neg (show ¬ (!slotReady (fresh s) i) = true by rw [show slotReady (fresh s) i = true from h]; decide)

theorem exec_slotRun_of_not_ready (unc : Bool) (h : slotReady s i = false) :
    exec (.slotRun i steps corr unc) s = .next { s with out := [] } :=
  if_pos (show (!slotReady (fresh s) i) = true by rw [show slotReady (fresh s) i = false from h]; rfl)

theorem exec_overrun_of_ready (n : Nat) (unc : Bool) (h : slotReady s i = true) :
    exec (.overrun i n corr unc) s =
      .next (slotChecked corr unc (slotRoutine s i (some n)) (slotStops (slotRoutine s i (some n))) { s with out := [] }) :=
  if_neg (show ¬ (!slotReady (fresh s) i) = true by rw [show slotReady (fresh s) i = true from h]; decide)

end

/-- R108: without an injection the errors are those that the command gives. -/
theorem slotChecked_plain (corr : Nat) (unc : Bool) (r : Run) (go : State → State) {s : State} (hinj : s.fault.inj = none) :
    slotChecked corr unc r go s = if unc then report 0x3002 0 (slotLost r (eccFixedN false corr s))
      else go (eccFixedN false corr s) := by
  have hecc : slotEcc r s = (0, false, s) := by rw [slotEcc, hinj]
  have hno : ∀ x : State, eccFixedN true 0 x = x := fun _ => rfl
  rw [slotChecked, hecc]
  dsimp only
  rw [hno, Bool.or_false]
  cases unc
  · rw [if_neg Bool.false_ne_true, if_neg Bool.false_ne_true]
  · rw [if_pos rfl, if_pos rfl, Bool.not_true, report]

/-! ### Where a piece ends -/

section
variable {i : Nat} {n : Option Nat} {s : State} {x : State}

/-- R105: the thread of a slot idles. -/
def idleThread (th : Nat) (m : CoreMem) : CoreMem :=
  { m with threads := tset thread0 th { tget thread0 th m.threads with slot := none, pc := 0 } m.threads }

theorem slotEnds_eq (htrc : trcSources x [1] = []) :
    let r := slotRoutine s i n
    slotEnds r x = { x with core := { x.core with
      mem := idleThread (slotThread s i) { r.mem with est := { r.mem.est with corr := r.told.corr.getD r.mem.est.corr } },
      out := outTold i r.told r.out, tasks := terase (slotThread s i) x.core.tasks, ran := x.core.ran ++ [i] } } := by
  obtain ⟨hth, hslot⟩ := slotRoutine_sameSlot s i n
  intro r
  rw [slotEnds, hth, hslot]
  exact slotTrace_of_no_source htrc

theorem slotGoesOn_eq (htrc : trcSources x [1] = []) :
    let r := slotRoutine s i n
    slotGoesOn r x = { x with core := { x.core with
      mem := threadAt (slotThread s i) (some i) (nextPc r) r.mem, out := r.out,
      tasks := tins (slotThread s i) ⟨i, r.rest, slotBase x i, r.own, r.told⟩ x.core.tasks } } := by
  obtain ⟨hth, hslot⟩ := slotRoutine_sameSlot s i n
  intro r
  rw [slotGoesOn, hth, hslot]
  exact slotTrace_of_no_source htrc

theorem slotLost_eq : slotLost (slotRoutine s i n) x = { x with core := { x.core with
    mem := idleThread (slotThread s i) x.core.mem, tasks := terase (slotThread s i) x.core.tasks,
    ran := x.core.ran ++ [i] } } := by
  obtain ⟨hth, hslot⟩ := slotRoutine_sameSlot s i n
  rw [slotLost, hth, hslot]
  rfl

/-- R119: what an overrun leaves before it is told. -/
def slotUndone (i : Nat) (r : Run) (x : State) : State :=
  { x with core := { x.core with
    mem := idleThread (slotThread x i) r.mem, out := outPick (slotBase x i) r.own x.core.app r.out,
    tasks := terase (slotThread x i) x.core.tasks, ran := x.core.ran ++ [i], overran := x.core.overran ++ [i],
    overruns := (x.core.overruns + 1) % 2 ^ 16,
    overrunRun := if x.core.overran.isEmpty then x.core.overrunRun + 1 else x.core.overrunRun,
    slotOverruns := tset 0 i ((tget 0 i x.core.slotOverruns + 1) % 256) x.core.slotOverruns } }

theorem decide_eq_nil (l : List Nat) : decide (l = []) = l.isEmpty := by
  cases l <;> rfl

theorem slotStops_eq {r : Run} (hth : r.thread = slotThread x i) (hslot : r.slot = i) (htrc : trcSources x [1] = []) :
    slotStops r x = reportIf (x.core.overran.isEmpty && (if x.core.overran.isEmpty then x.core.overrunRun + 1
      else x.core.overrunRun) == 8) 0x3004 0 (raise 3 0 (report 0x3003 (i : Int) (slotUndone i r x))) := by
  unfold slotStops
  dsimp only
  rw [hth, hslot, decide_eq_nil]
  exact congrArg (fun y => reportIf _ 0x3004 0 (raise 3 0 (report 0x3003 (i : Int) y))) (slotTrace_of_no_source htrc)

end

/-! ### One instruction -/

theorem runSome_nil (p : Playbill) (n : Nat) {r : Run} (h : r.rest = []) : runSome p n r = r := by
  cases n with
  | zero => rfl
  | succ n => rw [runSome, h]; rfl

section
variable {p : Playbill} {r : Run} {t : Todo}

theorem readsOf_of_unwatched (g : Nat) (l : List Nat) (h : r.watch = none) : readsOf g l r = r := by rw [readsOf, h]

theorem runOne_storeW {rs ra off : Nat} (hrest : r.rest = [t]) (hwatch : r.watch = none)
    (hact : t.insn.act = .storeW rs ra off) :
    runOne p r = actOne p (.storeW rs ra off) { r with rest := [] } := by
  rw [runOne.eq_def, hrest]
  dsimp only
  rw [hact, readsOf_of_unwatched (r := { r with rest := [] }) 1 _ hwatch]

theorem runOne_scalar {op rd ra rb : Nat} (hrest : r.rest = [t]) (hwatch : r.watch = none)
    (hact : t.insn.act = .scalar op rd ra rb) :
    runOne p r = actOne p (.scalar op rd ra rb) { r with rest := [] } := by
  rw [runOne.eq_def, hrest]
  dsimp only
  rw [hact, readsOf_of_unwatched (r := { r with rest := [] }) 1 _ hwatch]

end

section
variable {s : State} {i : Nat} {c : CoreInsn} (hidle : tlook (slotThread s i) s.core.tasks = none)
  (hcode : tget [] i s.pb.code = [c])
include hidle hcode

theorem slotStart_single :
    (slotStart s i).rest = [⟨some (((slotDesc s i).getD slotDesc0).entry + 0), c⟩] ∧ (slotStart s i).told = told0 := by
  simp only [slotStart, hidle, hcode]
  exact ⟨rfl, rfl⟩

/-- A routine of one instruction that leaves none behind ends with it. -/
theorem slotRoutine_single (hend : (runOne s.pb (slotStart s i)).rest = []) :
    slotRoutine s i none = runOne s.pb (slotStart s i) := by
  obtain ⟨k, hk⟩ : ∃ k, runMax = k + 1 := ⟨65535, by rw [runMax]⟩
  rw [slotRoutine, Option.getD_none, hk, runSome, (slotStart_single hidle hcode).1, List.isEmpty_cons,
    if_neg Bool.false_ne_true]
  exact runSome_nil s.pb k hend

theorem slotRoutine_storeW {rs ra off : Nat} (hinj : s.fault.inj = none) (hact : c.act = .storeW rs ra off) :
    slotRoutine s i none = actOne s.pb (.storeW rs ra off) { slotStart s i with rest := [] } := by
  have hone := runOne_storeW (p := s.pb) (slotStart_single hidle hcode).1 (by simp [slotStart, slotWatch, hinj]) hact
  rw [slotRoutine_single hidle hcode (by rw [hone]; rfl), hone]

theorem slotRoutine_scalar {op rd ra rb : Nat} (hinj : s.fault.inj = none) (hact : c.act = .scalar op rd ra rb) :
    slotRoutine s i none = actOne s.pb (.scalar op rd ra rb) { slotStart s i with rest := [] } := by
  have hone := runOne_scalar (p := s.pb) (slotStart_single hidle hcode).1 (by simp [slotStart, slotWatch, hinj]) hact
  rw [slotRoutine_single hidle hcode (by rw [hone]; rfl), hone]

end

/-- Settles O27: a slot that is not ready, the three ends of a piece, and the routines of one instruction. -/
theorem slotRuns : Obligations.SlotRuns := by
  refine ⟨fun n x => ⟨rfl, rfl⟩, fun i corr steps s hinj => ⟨fun h unc => exec_slotRun_of_not_ready unc h, fun hready => ?_⟩⟩
  intro r th u idle
  have hexec : ∀ unc, exec (.slotRun i steps corr unc) s = .next (if unc then report 0x3002 0 (slotLost r u)
      else (if r.rest.isEmpty then slotEnds r else slotGoesOn r) u) := fun unc =>
    (exec_slotRun_of_ready unc hready).trans (congrArg Host.Outcome.next (slotChecked_plain corr unc r _ hinj))
  refine ⟨fun htrc hend => ?ends, fun htrc hrest => ?goesOn, ?lost, fun hidle c hcode => ?one⟩
  case ends =>
    rw [hexec, if_neg Bool.false_ne_true, hend, List.isEmpty_nil, if_pos rfl]
    exact congrArg Host.Outcome.next (slotEnds_eq htrc)
  case goesOn =>
    have hne : ¬ r.rest.isEmpty = true := fun h => hrest (List.isEmpty_iff.1 h)
    rw [hexec, if_neg Bool.false_ne_true, if_neg hne]
    refine congrArg Host.Outcome.next ((slotGoesOn_eq htrc).trans ?_)
    rw [slotBase_eccFixedN]
    rfl
  case lost =>
    rw [hexec, if_pos rfl, slotLost_eq]
    rfl
  case one =>
    intro one rg
    have htold := (slotStart_single hidle hcode).2
    refine ⟨fun rs ra off hact => ?_, fun op rd ra rb hact => ?_⟩
    · have hone : one = _ := slotRoutine_storeW hidle hcode hinj hact
      rw [hone]
      exact ⟨rfl, rfl, htold, rfl⟩
    · have hone : one = _ := slotRoutine_scalar hidle hcode hinj hact
      rw [hone]
      exact ⟨rfl, rfl, rfl⟩

/-- Settles O28: the overrun, the lost routine and the end of a freeze request. -/
theorem overrunStops : Obligations.OverrunStops := by
  refine ⟨fun i n s hready hinj => ?_, fun s hfrozen hmax => ?freeze⟩
  · intro r th idle first run u
    have hexec : ∀ unc, exec (.overrun i n 0 unc) s = .next (if unc then report 0x3002 0 (slotLost r { s with out := [] })
        else slotStops r { s with out := [] }) := fun unc =>
      (exec_overrun_of_ready n unc hready).trans (congrArg Host.Outcome.next (slotChecked_plain 0 unc r _ hinj))
    obtain ⟨hth, hslot⟩ := slotRoutine_sameSlot s i (some n)
    refine ⟨fun htrc => ?_, ?_⟩
    · rw [hexec, if_neg Bool.false_ne_true, slotStops_eq (x := { s with out := [] }) hth hslot htrc, reportIf]
      change Host.Outcome.next (if (first && run == 8) = true then report 0x3004 0 u else u) = _
      simp only [Bool.and_eq_true, beq_iff_eq]
    · rw [hexec, if_pos rfl, slotLost_eq]
      rfl
  case freeze =>
    have hguard : (s.core.frozen && decide (max 1 (bits (areg s 0x301C) 15 0) ≤ s.core.frozenN)) = true := by
      rw [hfrozen, decide_eq_true]
      · rfl
      · simpa [bits] using hmax
    exact if_pos hguard

end Sys2Proof.Machine
end

section
/-! R148 to R160, R183 to R196, R208 to R227: the estimator's transitions, Cues and Scenes, caps and the facility ramp. -/

namespace Sys2Proof.Machine

open Sys2Proof

/-! ### Fields of a word -/

theorem bits_eq (x hi lo : Nat) : bits x hi lo = x / 2 ^ lo % 2 ^ (hi + 1 - lo) := by
  rw [bits, Nat.shiftRight_eq_div_pow]

theorem bits_zero (x hi : Nat) : bits x hi 0 = x % 2 ^ (hi + 1) := by
  rw [bits_eq, Nat.pow_zero, Nat.div_one, Nat.sub_zero]

/-- A write of a register leaves the others. -/
theorem wreg_putReg_other {off off' : Nat} (w : Nat) (s : State) (h : off' ≠ off) :
    wreg (putReg off w s) off' = wreg s off' := by
  change tget (regReset off') off' (tset (regReset off) off (regWord off (wreg s off) w) s.regs.wr) = _
  unfold tset
  split
  · exact tget_terase_ne _ off' off s.regs.wr h
  · exact tget_tins_ne _ off' off _ s.regs.wr h

/-! ### The estimator's transitions -/

section
variable {s : State} (hrun : programRuns s = true)
include hrun

theorem exec_trustLost (htrust : s.core.out.est.untrusted = false)
    (hcount : regIn s.core.im.cfg 0x4004 % 2 ^ 11 ≤ s.core.out.est.disCount) :
    exec .trustLost s = .next (putEst { s.core.out.est with untrusted := true, agreeCount := 0 } [(0x4001, 0)] [(4, 0)]
      { s with out := [] }) := by
  have hguard : (decides (fresh s) && !s.core.out.est.untrusted &&
      decide (bits (regIn s.core.im.cfg 0x4004) 10 0 ≤ s.core.out.est.disCount)) = true := by
    rw [show decides (fresh s) = true from hrun, htrust, bits_zero, decide_eq_true hcount]
    rfl
  exact if_pos hguard

theorem exec_trustRegained (htrust : s.core.out.est.untrusted = true)
    (hcount : regIn s.core.im.cfg 0x4008 / 2 ^ 16 % 2 ^ 16 ≤ s.core.out.est.agreeCount) :
    exec .trustRegained s = .next (putEst { s.core.out.est with untrusted := false, disCount := 0 } [(0x4003, 0)] [(4, 0)]
      { s with out := [] }) := by
  have hguard : (decides (fresh s) && s.core.out.est.untrusted &&
      decide (bits (regIn s.core.im.cfg 0x4008) 31 16 ≤ s.core.out.est.agreeCount)) = true := by
    rw [show decides (fresh s) = true from hrun, htrust, bits_eq, decide_eq_true hcount]
    rfl
  exact if_pos hguard

theorem exec_unverified (hver : s.core.out.est.unverified = false) (hcount : 8 ≤ s.core.mem.est.incRun) :
    exec .unverified s = .next (putEst { s.core.out.est with unverified := true } [(0x4002, 0)] [(4, 0)]
      { s with out := [] }) := by
  have hguard : (decides (fresh s) && !s.core.out.est.unverified && decide (8 ≤ s.core.mem.est.incRun)) = true := by
    rw [show decides (fresh s) = true from hrun, hver, decide_eq_true hcount]
    rfl
  exact if_pos hguard

theorem exec_coldMajority (hcold : s.core.out.est.coldMaj = false) (hcount : 4 ≤ s.core.mem.est.coldRun) :
    exec .coldMajority s = .next (putEst { s.core.out.est with coldMaj := true } [(0x4007, 0)] [(4, 2)]
      { s with out := [] }) := by
  have hguard : (decides (fresh s) && !s.core.out.est.coldMaj && decide (4 ≤ s.core.mem.est.coldRun)) = true := by
    rw [show decides (fresh s) = true from hrun, hcold, decide_eq_true hcount]
    rfl
  exact if_pos hguard

theorem exec_coldMajorityClear (hcold : s.core.out.est.coldMaj = true) (hcount : 16 ≤ s.core.mem.est.noColdRun) :
    exec .coldMajorityClear s = .next (putEst { s.core.out.est with coldMaj := false } [] [] { s with out := [] }) := by
  have hguard : (decides (fresh s) && s.core.out.est.coldMaj && decide (16 ≤ s.core.mem.est.noColdRun)) = true := by
    rw [show decides (fresh s) = true from hrun, hcold, decide_eq_true hcount]
    rfl
  exact if_pos hguard

/-- R159: the counts of hot updates start again. -/
def coolSites (t : Tab SitePlaus) : Tab SitePlaus := tadj sitePlaus0 (fun _ p => { p with hot := 0 }) t

omit hrun in
theorem coolSites_hot {t : Tab SitePlaus} {x : Nat × SitePlaus} (hx : x ∈ coolSites t) : x.2.hot = 0 := by
  obtain ⟨y, -, rfl⟩ := List.mem_map.1 (List.mem_filter.1 hx).1
  rfl

/-- R159: every node is raised by the mean residual. -/
def hotRaised (m : ModelCfg) (e : EstMem) : EstMem :=
  { e with
    hotRun := 0, plaus := coolSites e.plaus,
    nodes := tmodAll 0 (modelNodes m) (fun _ x => x + 65536 * e.hotMean) e.nodes }

/-- R159: what O_k tells of a raise by `r`. -/
def hotTold (r : Int) (o : EstOut) : EstOut :=
  { o with raises := (o.raises + 1) % 256, sites := coolSites o.sites, tModMax := o.tModMax + r }

theorem exec_hotMajorityRaise (hinit : s.core.mem.est.inited = true) (hcount : 4 ≤ s.core.mem.est.hotRun) :
    let e := s.core.mem.est
    let o := s.core.out.est
    exec .hotMajorityRaise s = .next (
      let u := putEst (hotTold e.hotMean o) [(0x4008, e.hotMean)] [] { s with out := [] }
      { u with core := { u.core with mem := { s.core.mem with est := hotRaised s.pb.model e } } }) := by
  have hguard : (decides (fresh s) && s.core.mem.est.inited && decide (4 ≤ s.core.mem.est.hotRun)) = true := by
    rw [show decides (fresh s) = true from hrun, hinit, decide_eq_true hcount]
    rfl
  exact if_pos hguard

theorem exec_siteImplausible {i : Nat} (hsite : (tlook i s.pb.therm.sites).isSome = true)
    (hwarm : s.core.out.est.warmup = false) (hcold : s.core.out.est.coldMaj = false)
    (hbroken : (tget sitePlaus0 i s.core.mem.est.plaus).broken = false)
    (hlim : regIn s.core.im.cfg 0x4084 % 2 ^ 6 ≤ (tget sitePlaus0 i s.core.mem.est.plaus).cold ∨
      regIn s.core.im.cfg 0x4084 / 2 ^ 8 % 2 ^ 8 ≤ (tget sitePlaus0 i s.core.mem.est.plaus).hot) :
    let p := tget sitePlaus0 i s.core.mem.est.plaus
    let q := { p with broken := true, causeCold := decide (bits (regIn s.core.im.cfg 0x4084) 5 0 ≤ p.cold) }
    exec (.siteImplausible i) s = .next (
      let u := putEst { s.core.out.est with sites := tset sitePlaus0 i q s.core.out.est.sites } [(0x4006, (i : Int))]
        [(4, 1), (7, 2)] { s with out := [] }
      { u with core := { u.core with mem := { s.core.mem with
        est := { s.core.mem.est with plaus := tset sitePlaus0 i q s.core.mem.est.plaus } } } }) := by
  intro p q
  have himp : implausible s.core.im.cfg p = true := by
    simp only [implausible, Bool.or_eq_true, decide_eq_true_eq, bits_zero]
    rw [bits_eq]
    exact hlim
  have hguard : (decides (fresh s) && !s.core.out.est.warmup && !s.core.out.est.coldMaj && !p.broken &&
      (tlook i s.pb.therm.sites).isSome && implausible s.core.im.cfg p) = true := by
    rw [show decides (fresh s) = true from hrun, hwarm, hcold, show p.broken = false from hbroken, hsite, himp]
    rfl
  exact if_pos hguard

end

/-! ### EST_CMD -/

/-- R150, R160: GO latches the operation with the site that THM_SITE_SEL selects. -/
theorem writeEstCmd_go {op : Nat} (hop : op < 16) (s : State) :
    writeEstCmd (2 ^ 31 + op) s = { putReg 0x4014 (2 ^ 31 + op) s with core := { s.core with
      estGo := some (op, wreg s 0x4088 % 2 ^ 9), estDone := false } } := by
  have hgo : (2 ^ 31 + op).testBit 31 = true := by
    rw [Nat.testBit_two_pow_add_eq, Nat.testBit_lt_two_pow (by omega)]
    rfl
  have hbits : bits (2 ^ 31 + op) 3 0 = op := by
    rw [bits_zero]
    omega
  unfold writeEstCmd
  rw [if_pos hgo, hbits, bits_zero, wreg_putReg_other _ s (by decide)]
  rfl

/-- Settles O30: each transition at its limit, and the two operations of EST_CMD. -/
theorem estimatorTransitions : Obligations.EstimatorTransitions := by
  refine ⟨fun s hrun => ?_, fun p i s hopen hp => ?_⟩
  · intro o est put
    refine ⟨exec_trustLost hrun, exec_trustRegained hrun, exec_unverified hrun, fun hcold hcount => ?cold,
      fun hcold hcount => ?clear, fun hinit hcount => ?raise, fun i hsite hwarm hcold => ?site⟩
    case cold => exact exec_coldMajority hrun hcold hcount
    case clear => exact exec_coldMajorityClear hrun hcold hcount
    case raise =>
      intro r
      exact ⟨hotRaised s.pb.model s.core.mem.est, hotTold r est, exec_hotMajorityRaise hrun hinit hcount, rfl,
        fun x hx => coolSites_hot hx, rfl, rfl, rfl, rfl, rfl⟩
    case site =>
      intro p lim hbroken hlim q
      have hexec := exec_siteImplausible hrun hsite hwarm hcold hbroken hlim
      rw [bits_zero] at hexec
      exact hexec
  · refine ⟨?_, ?_⟩
    · refine (congrArg Host.Outcome.next (rpWrite_open hopen 2 (by decide) (mayWrite_two hp))).trans ?_
      rw [writeEstCmd_go (by decide)]
      rfl
    · refine (congrArg Host.Outcome.next (rpWrite_open hopen 2 (by decide) (mayWrite_two hp))).trans ?_
      rw [writeEstCmd_go (by decide), ← wreg_putReg_other (off := 0x4014) (2 ^ 31 + 2) (putReg 0x4088 i (fresh s)) (by decide)]
      rfl

/-! ### Cues and Scenes -/

theorem eraseDups_of_nodup {l : List Nat} (h : l.Nodup) : l.eraseDups = l := by
  induction l with
  | nil => rfl
  | cons a r ih =>
    obtain ⟨ha, hr⟩ := List.nodup_cons.1 h
    have hkeep : r.filter (fun b => !b == a) = r :=
      List.filter_eq_self.2 fun b hb => by
        rw [Bool.not_eq_true', beq_eq_false_iff_ne]
        exact fun h => ha (h ▸ hb)
    rw [List.eraseDups_cons, hkeep, ih hr]

section
variable {c b : Nat} {s : State} (hready : s.port.cueReady = true) (hclk : clocked s = true)
include hready hclk

theorem cue_accepted : ¬ (!clocked (fresh s) || !s.port.cueReady) = true := by
  rw [show clocked (fresh s) = true from hclk, hready]
  decide

theorem exec_cue_of_room (hlive : holdOut s = false) (hroom : s.law.cueBuf.length < 8) :
    exec (.cue c b) s = .next { s with out := [], law := { s.law with cueBuf := s.law.cueBuf ++ [(c, b)] } } :=
  (if_neg (cue_accepted hready hclk)).trans ((if_neg (show ¬ holdOut (fresh s) = true from hlive ▸ Bool.false_ne_true)).trans
    (if_neg (Nat.not_le.2 hroom)))

theorem exec_cue_of_full (hlive : holdOut s = false) (hfull : 8 ≤ s.law.cueBuf.length) :
    exec (.cue c b) s = .next { s with out := [] } :=
  (if_neg (cue_accepted hready hclk)).trans ((if_neg (show ¬ holdOut (fresh s) = true from hlive ▸ Bool.false_ne_true)).trans
    (if_pos hfull))

theorem exec_cue_of_held (hheld : holdOut s = true) :
    exec (.cue c b) s = .next (bumpLaw (fun o => { o with cueBad := (o.cueBad + 1) % 256 }) { s with out := [] }) :=
  (if_neg (cue_accepted hready hclk)).trans (if_pos (show holdOut (fresh s) = true from hheld))

end

theorem exec_cueExpire_of_due {i : Nat} {q : CueEntry} {s : State} (hcue : s.core.mem.law.cues[i]? = some q)
    (hclk : clocked s = true) (hdue : q.since + areg s 0x5100 % 2 ^ 10 ≤ s.time.up) (hview : q.view ≠ some s.core.im.k) :
    exec (.cueExpire i) s = .next { s with
      out := [], law := { s.law with cueOld := (s.law.cueOld ++ [q.anchor]).eraseDups } } := by
  have hguard : (clocked (fresh s) && decide (q.since + bits (areg s 0x5100) 9 0 ≤ s.time.up) &&
      q.view != some s.core.im.k) = true := by
    rw [show clocked (fresh s) = true from hclk, bits_zero, decide_eq_true hdue, bne_iff_ne.2 hview]
    rfl
  change execCueExpire i s = _
  unfold execCueExpire
  extract_lets s0
  rw [show s0.core.mem.law.cues[i]? = some q from hcue]
  exact if_pos hguard

theorem sceneRefused_eq_false_iff (n w0 w1 : Nat) : sceneRefused n w0 w1 = false ↔
    w1 / 2 ^ 24 % 256 + w1 / 2 ^ 16 % 256 + w1 / 2 ^ 8 % 256 + w1 % 256 ≤ 256 ∧
      (w0.testBit 31 = true → w0 / 2 ^ 28 % 4 ≠ 3 → w0 / 2 ^ 22 % 64 < n) := by
  have h3 : bits w1 31 24 = w1 / 2 ^ 24 % 256 := bits_eq ..
  have h2 : bits w1 23 16 = w1 / 2 ^ 16 % 256 := bits_eq ..
  have h1 : bits w1 15 8 = w1 / 2 ^ 8 % 256 := bits_eq ..
  have h0 : bits w1 7 0 = w1 % 256 := bits_zero ..
  have hmode : bits w0 29 28 = w0 / 2 ^ 28 % 4 := bits_eq ..
  have hpoint : bits w0 27 22 = w0 / 2 ^ 22 % 64 := bits_eq ..
  rw [sceneRefused, sceneValid, h3, h2, h1, h0, hmode, hpoint, Bool.or_eq_false_iff, decide_eq_false_iff_not, Nat.not_lt]
  refine and_congr Iff.rfl ?_
  cases w0.testBit 31 with
  | false => simp
  | true => simp [Decidable.or_iff_not_imp_left]

theorem exec_sceneDataWrite {p : Nat} (w : Word) {s : State} (hopen : s.portOpen) (hp : 1 ≤ p) :
    let e := 2 * (wreg s 0x50C0 % 256)
    let k := e + wreg s 0x50C0 / 256 % 2
    let t := tset 0 k w.toNat (scenePending s.law)
    ∀ bad, sceneRefused s.pb.law.ops.length (tget 0 e t) (tget 0 (e + 1) t) = bad →
    exec (.sceneDataWrite p w) s = .next (rpAnswer 0 0 { s with out := [], law := { s.law with
      sceneCmdSt := bad, sceneWr := if bad then s.law.sceneWr else s.law.sceneWr ++ [(k, w.toNat)] } }) := by
  intro e k t bad hbad
  subst hbad
  refine (congrArg Host.Outcome.next (rpWrite_open hopen 2 (by decide) (mayWrite_two hp))).trans ?_
  have hlow : bits (wreg (fresh s) 0x50C0) 7 0 = wreg s 0x50C0 % 256 := bits_zero _ _
  have hhigh : bits (wreg (fresh s) 0x50C0) 8 8 = wreg s 0x50C0 / 256 % 2 := bits_eq _ _ _
  simp only [writeScene, hlow, hhigh]
  rfl

/-- Settles O31: a Cue at the input, its expiry, the settle hold and a Scene write. -/
theorem scenesAndCues : Obligations.ScenesAndCues := by
  refine ⟨fun c b s hready hclk => ⟨fun hrun hroom => ?room, fun hrun hfull => ?full, exec_cue_of_held hready hclk⟩,
    fun i q s hcue hclk hdue hview hnew hnd => ?expire, fun d s => rfl, fun p w s hopen hp => ?scene⟩
  case room => exact exec_cue_of_room hready hclk (Bool.or_eq_false_iff.1 (fabricHeld_of_running hrun).1).1 hroom
  case full => exact exec_cue_of_full hready hclk (Bool.or_eq_false_iff.1 (fabricHeld_of_running hrun).1).1 hfull
  case expire =>
    have hnd' : (s.law.cueOld ++ [q.anchor]).Nodup := List.nodup_append.2 ⟨hnd, List.pairwise_singleton _ _, fun a ha b hb h =>
      hnew (List.mem_singleton.1 hb ▸ h ▸ ha)⟩
    rw [exec_cueExpire_of_due hcue hclk hdue hview, eraseDups_of_nodup hnd']
  case scene =>
    intro e k t w0 w1 fits
    refine ⟨fun hfits => ?_, fun hmisfit => ?_⟩
    · have hgood : sceneRefused s.pb.law.ops.length w0 w1 = false := (sceneRefused_eq_false_iff _ _ _).2 hfits
      exact exec_sceneDataWrite w hopen hp false hgood
    · have hbad : sceneRefused s.pb.law.ops.length w0 w1 = true := by
        rw [← Bool.not_eq_false, sceneRefused_eq_false_iff]
        exact hmisfit
      exact exec_sceneDataWrite w hopen hp true hbad

end Sys2Proof.Machine
end

section
/-! R208, R218, R222 to R227: host caps and preferences, the performance mode, the escalation and the facility ramp. -/

namespace Sys2Proof.Machine

open Sys2Proof

/-! ### Host writes (R208) -/

section
variable {p : Nat} {s : State} (hopen : s.portOpen) (hp : 1 ≤ p)
include hopen hp

theorem exec_hostCapWrite (w : Word) :
    exec (.hostCapWrite p w) s = .next (rpAnswer 0 0 (writeHostCap w.toNat { s with out := [] })) :=
  congrArg Host.Outcome.next (rpWrite_open hopen 2 (by decide) (mayWrite_two hp))

theorem exec_hostPrefWrite (w : Word) :
    exec (.hostPrefWrite p w) s = .next (rpAnswer 0 0 (writeHostPref w.toNat { s with out := [] })) :=
  congrArg Host.Outcome.next (rpWrite_open hopen 2 (by decide) (mayWrite_two hp))

end

theorem hostCapWord_of_none {dieCeil w : Nat} (hw : w = 2 ^ 32 - 1) : hostCapWord dieCeil w = 2 ^ 32 - 1 :=
  (if_pos (show w = allOnes from hw)).trans hw

theorem hostCapWord_of_limit {dieCeil w : Nat} (hw : w ≠ 2 ^ 32 - 1) (hceil : 1000 ≤ dieCeil) :
    hostCapWord dieCeil w = max 1000 (min dieCeil w) := by
  rw [hostCapWord, if_neg (show ¬ w = allOnes from hw), Nat.max_eq_right hceil, clampN]
  split
  · omega
  · split <;> omega

section
variable {w : Nat} {s : State}

theorem writeHostCap_of_host (hauth : s.cap.auth = 1) :
    writeHostCap w s = putReg 0x6010 (hostCapWord s.pb.cap.dieCeil w) s := if_pos hauth

theorem writeHostCap_of_other (hauth : s.cap.auth ≠ 1) : writeHostCap w s = hostRefuse s := if_neg hauth

theorem writeHostPref_of_host (hauth : s.cap.auth = 1) :
    writeHostPref w s = { putReg 0x6014 (hostPrefWord s.pb.law.ops.length w) s with
      cap := { s.cap with hostRefused := s.cap.hostRefused && !w.testBit 0 } } := if_pos hauth

theorem writeHostPref_of_change (hauth : s.cap.auth ≠ 1) (hdiff : prefFields w ≠ prefFields (wreg s 0x6014)) :
    writeHostPref w s = hostRefuse s := (if_neg hauth).trans (if_pos hdiff)

theorem writeHostPref_of_same (hauth : s.cap.auth ≠ 1) (hsame : prefFields w = prefFields (wreg s 0x6014)) :
    writeHostPref w s = { s with cap := { s.cap with hostRefused := s.cap.hostRefused && !w.testBit 0 } } :=
  (if_neg hauth).trans (if_neg (not_not_intro hsame))

end

/-! ### Transitions of a sample -/

section
variable {s : State} (hrun : programRuns s = true)
include hrun

theorem exec_ffFallback (hfb : s.core.mem.cap.fallback = false) (hbase : modeBase s.pb s.core.im = 1)
    (hcount : max 1 (regIn s.core.im.cfg 0x601C / 2 ^ 16 % 2 ^ 16) ≤ s.core.mem.cap.fbRun) :
    exec .ffFallback s = .next (putCap { s.core.mem.cap with fallback := true, retRun := 0, fbRun := 0 }
      { s.core.out.cap with mode := 2, fbCount := (s.core.out.cap.fbCount + 1) % 256 } [(5, 2)] { s with out := [] }) := by
  have hguard : (decides (fresh s) && !s.core.mem.cap.fallback && modeBase s.pb s.core.im == 1 &&
      decide (max 1 (bits (regIn s.core.im.cfg 0x601C) 31 16) ≤ s.core.mem.cap.fbRun)) = true := by
    rw [show decides (fresh s) = true from hrun, hfb, hbase, bits_eq, decide_eq_true hcount]
    rfl
  exact if_pos hguard

theorem exec_ffReturn (hfb : s.core.mem.cap.fallback = true)
    (hcount : max 1 (regIn s.core.im.cfg 0x601C % 2 ^ 16) ≤ s.core.mem.cap.retRun) :
    exec .ffReturn s = .next (putCap { s.core.mem.cap with fallback := false, fbRun := 0, retRun := 0 }
      { s.core.out.cap with mode := modeBase s.pb s.core.im } [] { s with out := [] }) := by
  have hguard : (decides (fresh s) && s.core.mem.cap.fallback &&
      decide (max 1 (bits (regIn s.core.im.cfg 0x601C) 15 0) ≤ s.core.mem.cap.retRun)) = true := by
    rw [show decides (fresh s) = true from hrun, hfb, bits_zero, decide_eq_true hcount]
    rfl
  exact if_pos hguard

theorem exec_capUnattClear (hun : s.core.out.cap.unatt = true) (hcount : 64 ≤ s.core.mem.cap.unattRun) :
    exec .capUnattClear s = .next (putCap { s.core.mem.cap with unattRun := 0 }
      { s.core.out.cap with unatt := false, esc := false } [] { s with out := [] }) := by
  have hguard : (decides (fresh s) && s.core.out.cap.unatt && decide (64 ≤ s.core.mem.cap.unattRun)) = true := by
    rw [show decides (fresh s) = true from hrun, hun, decide_eq_true hcount]
    rfl
  exact if_pos hguard

omit hrun in
/-- R110: what a sample's caps tell of is reports without faults. -/
theorem putCap_eq (m : CapMem) (o : CapOut) (cs : List (Nat × Nat)) (s : State) :
    putCap m o cs s = { s with core := { s.core with
      mem := { s.core.mem with cap := m }, out := { s.core.out with cap := o, causes := s.core.out.causes ++ cs } } } := by
  simp only [putCap, tellOut, List.append_nil]

end

theorem exec_supplyEscRepeat {s : State} (hrun : running s = true) (hesc : s.core.app.cap.esc = true)
    (hdue : s.core.app.cap.escUp + 1000 ≤ s.time.up) :
    exec .supplyEscRepeat s = .next (dieEscAlert { s with out := [] }) := by
  have hguard : (running (fresh s) && s.core.app.cap.esc && decide (s.core.app.cap.escUp + 1000 ≤ s.time.up)) = true := by
    rw [show running (fresh s) = true from hrun, hesc, decide_eq_true hdue]
    rfl
  exact if_pos hguard

/-! ### The facility ramp -/

theorem rampEval_of_alone {c : CapCfg} {x : CapSt} {r : Ramp} {old : Nat} (count : Nat) (hnext : x.next = [])
    (hramp : x.ramp = some r) (hval : x.val = some old) :
    rampEval c count x = { x with
      val := some (if r.c1 ≤ r.c0 then min old (rampValue r count) else max old (rampValue r count)), prev := x.val } := by
  have htake : rampTake c count x.next.length x = x := by rw [hnext]; rfl
  simp only [rampEval, htake, hramp, hval, Option.getD_some]

theorem exec_rampStep {s : State} (hclk : clocked s = true) (hlive : isLive s = true) (hhold : s.time.holdover = false) :
    let x0 := rampEval s.pb.cap s.time.count s.cap
    ∀ x, (if s.cap.rampStep then { x0 with prev := s.cap.prev } else x0) = x →
    let moved := decide (x.val ≠ s.cap.val)
    exec .rampStep s = .next (raiseIf (rampState x s.time.count != rampState s.cap (s.time.count - 1)) 5 4 { s with
      out := [], cap := { x with rampStep := s.cap.rampStep || moved, changed := s.cap.changed || moved } }) := by
  intro x0 x hx moved
  subst hx
  have hguard : ¬ (!clocked (fresh s) || !isLive (fresh s)) = true := by
    rw [show clocked (fresh s) = true from hclk, show isLive (fresh s) = true from hlive]
    decide
  refine (if_neg hguard).trans (congrArg Host.Outcome.next (if_neg ?_))
  rw [Bool.and_eq_true, not_and]
  exact fun _ hh => Bool.false_ne_true (hhold.symm.trans hh)

theorem raiseIf_regs (c : Bool) (g b : Nat) (s : State) :
    raiseIf c g b s = { s with regs := { s.regs with cause := (raiseIf c g b s).regs.cause } } := by
  cases c <;> rfl

/-- Settles O32: host writes under their authority, the transitions, the alert and the ramp. -/
theorem capsAndRamps : Obligations.CapsAndRamps := by
  refine ⟨fun p w s hopen hp => ?host, fun s hrun => ?sample, fun s hrun hesc hdue => ?alert,
    fun r s hclk hlive hnext hramp hhold => ?ramp⟩
  case host =>
    intro u refused
    refine ⟨fun hauth => ⟨fun hw => ?_, fun hw hceil => ?_, ?_⟩, fun hauth => ⟨?_, fun hdiff => ?_, fun hsame => ?_⟩⟩
    · rw [exec_hostCapWrite hopen hp, writeHostCap_of_host (s := { s with out := [] }) hauth,
        hostCapWord_of_none hw]
    · rw [exec_hostCapWrite hopen hp, writeHostCap_of_host (s := { s with out := [] }) hauth, hostCapWord_of_limit hw hceil]
    · rw [exec_hostPrefWrite hopen hp, writeHostPref_of_host (s := { s with out := [] }) hauth]
    · rw [exec_hostCapWrite hopen hp, writeHostCap_of_other (s := { s with out := [] }) hauth]
      rfl
    · rw [exec_hostPrefWrite hopen hp, writeHostPref_of_change (s := { s with out := [] }) hauth hdiff]
      rfl
    · rw [exec_hostPrefWrite hopen hp, writeHostPref_of_same (s := { s with out := [] }) hauth hsame]
  case sample =>
    intro m o put
    refine ⟨fun hfb hbase hcount => ?_, fun hfb hcount => ?_, fun hun hcount => ?_⟩
    · rw [exec_ffFallback hrun hfb hbase hcount, putCap_eq]
    · rw [exec_ffReturn hrun hfb hcount, putCap_eq]
    · rw [exec_capUnattClear hrun hun hcount, putCap_eq]
  case alert =>
    exact ⟨_, _, exec_supplyEscRepeat hrun hesc hdue, rfl, rfl, rfl, rfl, rfl, rfl⟩
  case ramp =>
    intro ms v old hval new
    let x0 := rampEval s.pb.cap s.time.count s.cap
    have hstep : (if s.cap.rampStep then { x0 with prev := s.cap.prev } else x0) =
        { s.cap with val := some new, prev := if s.cap.rampStep then s.cap.prev else s.cap.val } := by
      rw [show x0 = _ from rampEval_of_alone s.time.count hnext hramp hval]
      split <;> rfl
    have hmoved : decide (some new ≠ s.cap.val) = decide (new ≠ old) := by
      rw [hval]
      simp only [ne_eq, Option.some.injEq]
    have hexec := exec_rampStep hclk hlive hhold _ hstep
    dsimp only at hexec
    rw [hmoved, raiseIf_regs] at hexec
    exact ⟨_, hexec, rfl, rfl, rfl, rfl, rfl⟩

end Sys2Proof.Machine
end

section
/-! R233, R234, R237, R240: a crossing, the holds of a region, and the droop-rate window. -/

namespace Sys2Proof.Machine

open Sys2Proof

/-! ### Regions -/

theorem tget_putRegion_self {r : Nat} {x : Region} (s : State) (h : x.u ≠ 0) :
    tget region0 r (putRegion r x s).margin.regions = x :=
  tget_tset_of_ne region0 r s.margin.regions fun h0 => h (congrArg Region.u h0)

theorem tget_putRegion_other {r r' : Nat} (x : Region) (s : State) (h : r' ≠ r) :
    tget region0 r' (putRegion r x s).margin.regions = tget region0 r' s.margin.regions :=
  tget_tset_ne region0 r' r x s.margin.regions h

/-- R238: counting trips leaves a stretched region's levels, and the other regions. -/
theorem countTrips_frame {r : Nat} {s : State} (h : (tget region0 r s.margin.regions).u ≠ 0) :
    ∃ dets regs hit, countTrips r s = { s with margin := { s.margin with dets := dets, regions := regs } } ∧
      tget region0 r regs = { tget region0 r s.margin.regions with hit := hit } ∧
      ∀ r', r' ≠ r → tget region0 r' regs = tget region0 r' s.margin.regions :=
  ⟨_, _, _, rfl, tget_tset_of_ne region0 r s.margin.regions
    (v := { tget region0 r s.margin.regions with hit := _ }) fun h0 => h (congrArg Region.u h0),
    fun r' hr => tget_tset_ne region0 r' r _ s.margin.regions hr⟩

/-- R237: what a rise sets of a region that is or becomes stretched. -/
structure RegionRisen (r : Nat) (s t : State) : Prop where
  level : (tget region0 r t.margin.regions).u = max (highLevel s r) (tget region0 r s.margin.regions).u
  drive : (tget region0 r t.margin.regions).drive = if (tget region0 r s.margin.regions).u < highLevel s r
    then max (highLevel s r) (tget region0 r s.margin.regions).drive else (tget region0 r s.margin.regions).drive
  forced : (tget region0 r t.margin.regions).forced = (tget region0 r s.margin.regions).forced
  events : (tget region0 r t.margin.regions).events = if (tget region0 r s.margin.regions).u = 0
    then ((tget region0 r s.margin.regions).events + 1) % 2 ^ 16 else (tget region0 r s.margin.regions).events
  counted : t.margin.events = if (tget region0 r s.margin.regions).u = 0 then s.margin.events + 1 else s.margin.events
  window : t.margin.window = if (tget region0 r s.margin.regions).u = 0 then s.margin.window + 1 else s.margin.window
  others : ∀ r', r' ≠ r → tget region0 r' t.margin.regions = tget region0 r' s.margin.regions
  frame : t = { s with margin := { s.margin with
    dets := t.margin.dets, regions := t.margin.regions, events := t.margin.events, window := t.margin.window } }

theorem regionRise_of_calm {r : Nat} {s : State} (hh : highLevel s r = 0) (hu : (tget region0 r s.margin.regions).u = 0) :
    regionRise r s = s := by
  simp only [regionRise, hh, hu, Nat.le_refl, if_true]

theorem regionRise_of_held {r : Nat} {s : State} (hle : highLevel s r ≤ (tget region0 r s.margin.regions).u)
    (hu : (tget region0 r s.margin.regions).u ≠ 0) : RegionRisen r s (regionRise r s) := by
  have hrise : regionRise r s = countTrips r s := (if_pos hle).trans (if_neg hu)
  obtain ⟨dets, regs, hit, ht, hself, hother⟩ := countTrips_frame hu
  rw [hrise, ht]
  refine ⟨?_, ?_, ?_, ?_, (if_neg hu).symm, (if_neg hu).symm, hother, rfl⟩
  · exact (congrArg Region.u hself).trans (Nat.max_eq_right hle).symm
  · exact (congrArg Region.drive hself).trans (if_neg (Nat.not_lt.2 hle)).symm
  · exact (congrArg Region.forced hself).trans rfl
  · exact (congrArg Region.events hself).trans (if_neg hu).symm

theorem regionRise_of_event {r : Nat} {s : State} (hlt : 0 < highLevel s r)
    (hu : (tget region0 r s.margin.regions).u = 0) : RegionRisen r s (regionRise r s) := by
  let x : Region := tget region0 r s.margin.regions
  let x1 : Region := { x with
    u := highLevel s r, drive := max (highLevel s r) x.drive, lifted := false, events := wrapAdd 16 x.events 1, hit := [] }
  let s1 : State := { putRegion r x1 s with
    margin := { (putRegion r x1 s).margin with events := s.margin.events + 1, window := s.margin.window + 1 } }
  have hrise : regionRise r s = countTrips r s1 :=
    (if_neg (Nat.not_le.2 (by rw [hu]; exact hlt))).trans (if_pos hu)
  have hself1 : tget region0 r s1.margin.regions = x1 := tget_putRegion_self s (Nat.ne_of_gt hlt)
  obtain ⟨dets, regs, hit, ht, hself, hother⟩ := countTrips_frame (r := r) (s := s1) (by rw [hself1]; exact Nat.ne_of_gt hlt)
  rw [hself1] at hself
  rw [hrise, ht]
  refine ⟨?_, ?_, ?_, ?_, (if_pos hu).symm, (if_pos hu).symm, fun r' hr => ?_, rfl⟩
  · exact (congrArg Region.u hself).trans (Nat.max_eq_left (by rw [hu]; exact Nat.zero_le _)).symm
  · exact (congrArg Region.drive hself).trans (if_pos (by rw [hu]; exact hlt)).symm
  · exact (congrArg Region.forced hself).trans rfl
  · exact (congrArg Region.events hself).trans (if_pos hu).symm
  · exact (hother r' hr).trans (tget_putRegion_other x1 s hr)

theorem regionRise_of_higher {r : Nat} {s : State} (hlt : (tget region0 r s.margin.regions).u < highLevel s r)
    (hu : (tget region0 r s.margin.regions).u ≠ 0) : RegionRisen r s (regionRise r s) := by
  let x : Region := tget region0 r s.margin.regions
  let x1 : Region := { x with u := highLevel s r, drive := max (highLevel s r) x.drive }
  have hrise : regionRise r s = countTrips r (putRegion r x1 s) :=
    (if_neg (Nat.not_le.2 hlt)).trans (if_neg hu)
  have hne : highLevel s r ≠ 0 := Nat.ne_of_gt (Nat.zero_lt_of_lt hlt)
  have hself1 : tget region0 r (putRegion r x1 s).margin.regions = x1 := tget_putRegion_self s hne
  obtain ⟨dets, regs, hit, ht, hself, hother⟩ := countTrips_frame (r := r) (s := putRegion r x1 s) (by rw [hself1]; exact hne)
  rw [hself1] at hself
  rw [hrise, ht]
  refine ⟨?_, ?_, ?_, ?_, (if_neg hu).symm, (if_neg hu).symm, fun r' hr => ?_, rfl⟩
  · exact (congrArg Region.u hself).trans (Nat.max_eq_left (Nat.le_of_lt hlt)).symm
  · exact (congrArg Region.drive hself).trans (if_pos hlt).symm
  · exact (congrArg Region.forced hself).trans rfl
  · exact (congrArg Region.events hself).trans (if_neg hu).symm
  · exact (hother r' hr).trans (tget_putRegion_other x1 s hr)

theorem regionRise_risen {r : Nat} {s : State} (h : 0 < max (highLevel s r) (tget region0 r s.margin.regions).u) :
    RegionRisen r s (regionRise r s) := by
  by_cases hle : highLevel s r ≤ (tget region0 r s.margin.regions).u
  · exact regionRise_of_held hle (by omega)
  · by_cases hu : (tget region0 r s.margin.regions).u = 0
    · exact regionRise_of_event (by omega) hu
    · exact regionRise_of_higher (by omega) hu

/-! ### A crossing -/

theorem detLevel_eq {c : DetCfg} {ref v l : Nat}
    (h : (l = 3 ∧ 1000 * v + 8000 * c.d3 < ref) ∨
      (l = 2 ∧ ref ≤ 1000 * v + 8000 * c.d3 ∧ 1000 * v + 8000 * c.d2 < ref) ∨
      (l = 1 ∧ ref ≤ 1000 * v + 8000 * c.d3 ∧ ref ≤ 1000 * v + 8000 * c.d2 ∧ 1000 * v + 8000 * c.d1 < ref) ∨
      (l = 0 ∧ ref ≤ 1000 * v + 8000 * c.d3 ∧ ref ≤ 1000 * v + 8000 * c.d2 ∧ ref ≤ 1000 * v + 8000 * c.d1)) :
    detLevel c ref v = l := by
  simp only [detLevel, decide_eq_true_eq]
  rcases h with ⟨rfl, h3⟩ | ⟨rfl, h3, h2⟩ | ⟨rfl, h3, h2, h1⟩ | ⟨rfl, h3, h2, h1⟩
  · rw [if_pos h3]
  · rw [if_neg (Nat.not_lt.2 h3), if_pos h2]
  · rw [if_neg (Nat.not_lt.2 h3), if_neg (Nat.not_lt.2 h2), if_pos h1]
  · rw [if_neg (Nat.not_lt.2 h3), if_neg (Nat.not_lt.2 h2), if_neg (Nat.not_lt.2 h1)]

theorem exec_droopCrossing {d v ns l : Nat} {c : DetCfg} {s : State} (hdet : tlook d s.pb.dets = some c)
    (hup : s.start.blkUp = true) (hl : detLevel c (vrefAt s c.rail ns) v = l) :
    exec (.droopCrossing d v ns) s = .next (regionRise c.region { s with
      out := [],
      margin := { s.margin with
        dets := tset detSt0 d { tget detSt0 d s.margin.dets with level := l, supply := v } s.margin.dets } }) := by
  subst hl
  change execDroopCrossing d v ns s = _
  unfold execDroopCrossing
  extract_lets s0
  rw [show tlook d s0.pb.dets = some c from hdet]
  exact if_neg (show ¬ (!s.start.blkUp) = true by rw [hup]; decide)

/-! ### The droop rate -/

section
variable {rate guard n : Nat} {m : MarginSt}

theorem rateStep_of_top (hlim : rate / 2 ^ 16 % 2 ^ 16 < n) (hhigh : rate / 2 ^ 8 % 2 ^ 8 ≤ m.highRun + 1)
    (htop : m.vdr < guard / 2 ^ 24 % 2 ^ 8) :
    rateStep rate guard n m = ({ m with vdr := min (guard / 2 ^ 24 % 2 ^ 8) (m.vdr + 10), highRun := 0, lowRun := 0 }, true) := by
  simp only [rateStep, bits_eq, Nat.reduceAdd, Nat.reduceSub, if_pos hlim, if_pos hhigh, if_pos htop]
  rw [decide_eq_true (by omega)]

theorem rateStep_at_top (hlim : rate / 2 ^ 16 % 2 ^ 16 < n) (hhigh : rate / 2 ^ 8 % 2 ^ 8 ≤ m.highRun + 1)
    (htop : guard / 2 ^ 24 % 2 ^ 8 ≤ m.vdr) :
    rateStep rate guard n m = ({ m with highRun := 0, lowRun := 0 }, false) := by
  simp only [rateStep, bits_eq, Nat.reduceAdd, Nat.reduceSub, if_pos hlim, if_pos hhigh, if_neg (Nat.not_lt.2 htop)]
  rw [decide_eq_false (Nat.lt_irrefl _)]

theorem rateStep_of_run (hlim : rate / 2 ^ 16 % 2 ^ 16 < n) (hhigh : m.highRun + 1 < rate / 2 ^ 8 % 2 ^ 8) :
    rateStep rate guard n m = ({ m with highRun := m.highRun + 1, lowRun := 0 }, false) := by
  simp only [rateStep, bits_eq, Nat.reduceAdd, Nat.reduceSub, if_pos hlim, if_neg (Nat.not_le.2 hhigh)]

theorem rateStep_of_fall (hlim : n ≤ rate / 2 ^ 16 % 2 ^ 16) (hquart : n ≤ rate / 2 ^ 16 % 2 ^ 16 / 4)
    (hlow : rate % 2 ^ 8 ≤ m.lowRun + 1) :
    rateStep rate guard n m = ({ m with vdr := m.vdr - 5, lowRun := 0, highRun := 0 }, false) := by
  simp only [rateStep, bits_eq, Nat.reduceAdd, Nat.reduceSub, if_neg (Nat.not_lt.2 hlim), if_pos hquart]
  simp only [Nat.pow_zero, Nat.div_one, if_pos hlow]

theorem rateStep_of_low (hlim : n ≤ rate / 2 ^ 16 % 2 ^ 16) (hquart : n ≤ rate / 2 ^ 16 % 2 ^ 16 / 4)
    (hlow : m.lowRun + 1 < rate % 2 ^ 8) :
    rateStep rate guard n m = ({ m with lowRun := m.lowRun + 1, highRun := 0 }, false) := by
  simp only [rateStep, bits_eq, Nat.reduceAdd, Nat.reduceSub, if_neg (Nat.not_lt.2 hlim), if_pos hquart]
  simp only [Nat.pow_zero, Nat.div_one, if_neg (Nat.not_le.2 hlow)]

theorem rateStep_of_middle (hlim : n ≤ rate / 2 ^ 16 % 2 ^ 16) (hquart : rate / 2 ^ 16 % 2 ^ 16 / 4 < n) :
    rateStep rate guard n m = ({ m with highRun := 0, lowRun := 0 }, false) := by
  simp only [rateStep, bits_eq, Nat.reduceAdd, Nat.reduceSub, if_neg (Nat.not_lt.2 hlim), if_neg (Nat.not_le.2 hquart)]

end

/-- R240: the margin state once a window is judged, and after it those skipped. -/
def windowJudged (s : State) (n : Nat) : MarginSt :=
  let r := rateStep (areg s 0x7004) (areg s 0x7008) n s.margin
  let m := rateQuiet (areg s 0x7004) (areg s 0x7008) s.margin.dueMore r.1
  { m with
    due := none, dueMore := 0, winEvents := if 0 < s.margin.dueMore then 0 else min 65535 n,
    drRaises := wrapInc 8 r.2 m.drRaises, raisePend := m.raisePend || r.2 }

theorem exec_rateWindowEnd {s : State} {n : Nat} (hdue : s.margin.due = some n) :
    exec .rateWindowEnd s = .next (if s.time.holdover
      then event 0xE009 4 { s with out := [], margin := windowJudged s n } else { s with out := [], margin := windowJudged s n }) := by
  change execRateWindowEnd s = _
  unfold execRateWindowEnd
  extract_lets s0
  rw [show s0.margin.due = some n from hdue]
  rfl

theorem windowJudged_of_rise {s : State} {n : Nat} (hmore : s.margin.dueMore = 0) {m : MarginSt}
    (h : rateStep (areg s 0x7004) (areg s 0x7008) n s.margin = (m, true)) :
    windowJudged s n = { m with
      due := none, dueMore := s.margin.dueMore, winEvents := min 65535 n, drRaises := (m.drRaises + 1) % 2 ^ 8,
      raisePend := true } := by
  simp only [windowJudged, h, hmore, rateQuiet, Nat.lt_irrefl, if_false, Bool.or_true, wrapInc_of_true]

theorem windowJudged_of_steady {s : State} {n : Nat} (hmore : s.margin.dueMore = 0) {m : MarginSt}
    (h : rateStep (areg s 0x7004) (areg s 0x7008) n s.margin = (m, false)) :
    windowJudged s n = { m with due := none, dueMore := s.margin.dueMore, winEvents := min 65535 n } := by
  simp only [windowJudged, h, hmore, rateQuiet, Nat.lt_irrefl, if_false, Bool.or_false, wrapInc_of_false]

/-! ### HOLD_MAX -/

theorem tget_tmodAll_other {α : Type} [DecidableEq α] (d : α) (f : Nat → α → α) (k : Nat) (ks : List Nat) (t : Tab α)
    (hk : k ∉ ks) : tget d k (tmodAll d ks f t) = tget d k t := by
  induction ks generalizing t with
  | nil => rfl
  | cons j r ih =>
    rw [List.mem_cons, not_or] at hk
    exact (ih _ hk.2).trans (tget_tset_ne d k j _ t hk.1)

theorem exec_holdMaxExpiry {r : Nat} {s : State} (hu : (tget region0 r s.margin.regions).u ≠ 0)
    (hlift : (tget region0 r s.margin.regions).lifted = false) :
    exec (.holdMaxExpiry r) s = .next (raise 6 0 (report 0x6001 0 { s with
      out := [],
      margin := { s.margin with
        regions := tset region0 r { tget region0 r s.margin.regions with
          u := 0, forced := true, lifted := true, hit := [] } s.margin.regions,
        dets := tmodAll detSt0 ((regionDets s r).filter (fun d => decide (0 < (tget detSt0 d s.margin.dets).level)))
          (fun _ t => { t with stuck := true }) s.margin.dets,
        holdLifts := (s.margin.holdLifts + 1) % 256 } })) := by
  have hguard : ¬ ((tget region0 r s.margin.regions).u = 0 ∨ (tget region0 r s.margin.regions).lifted = true) :=
    fun h => h.elim hu fun hl => Bool.false_ne_true (hlift.symm.trans hl)
  exact if_neg hguard

/-- A table changed at each key of a list, where the change leaves no unlisted value: each key has been changed. -/
theorem tmodAll_changes {α β : Type} [DecidableEq α] (d : α) (p : α → β) (b : β) (f : Nat → α → α) (k : Nat) (ks : List Nat)
    (t : Tab α) (hk : k ∈ ks) (hne : ∀ j x, f j x ≠ d) (hp : ∀ j x, p (f j x) = b) : p (tget d k (tmodAll d ks f t)) = b := by
  induction ks generalizing t with
  | nil => cases hk
  | cons j r ih =>
    by_cases hr : k ∈ r
    · exact ih _ hr
    · have hkj : k = j := (List.mem_cons.1 hk).resolve_right hr
      subst hkj
      have hrest : tget d k (tmodAll d r f (tset d k (f k (tget d k t)) t)) = tget d k (tset d k (f k (tget d k t)) t) :=
        tget_tmodAll_other d f k r _ hr
      exact (congrArg p (hrest.trans (tget_tset_of_ne d k t (hne _ _)))).trans (hp _ _)

/-- Settles O33: a crossing, the two holds of a region, and the window that an edge has closed. -/
theorem droopReflex : Obligations.DroopReflex := by
  refine ⟨fun d v ns c s hdet hup => ?crossing, fun r s => ?holds, fun n s hdue => ?window⟩
  case crossing =>
    intro ref l hl u h x
    have hexec := exec_droopCrossing hdet hup (detLevel_eq hl)
    refine ⟨fun hh hx => ?_, fun hpos => ?_⟩
    · rw [hexec]
      exact congrArg Host.Outcome.next (regionRise_of_calm hh hx)
    · have hrisen : RegionRisen c.region u (regionRise c.region u) := regionRise_risen hpos
      exact ⟨_, hexec, ⟨hrisen.level, hrisen.drive, hrisen.forced, hrisen.events⟩, hrisen.counted, hrisen.window,
        hrisen.others, hrisen.frame⟩
  case holds =>
    intro x h fall
    refine ⟨fun hlow => if_pos hlow, fun hu hlift => ⟨_, exec_holdMaxExpiry hu hlift, fun d hd hlevel => ?_, fun d hd => ?_⟩⟩
    · exact tmodAll_changes detSt0 DetSt.stuck true (fun _ t => { t with stuck := true }) d _ s.margin.dets
        (List.mem_filter.2 ⟨hd, decide_eq_true hlevel⟩) (fun _ _ h0 => Bool.noConfusion (congrArg DetSt.stuck h0))
        (fun _ _ => rfl)
    · exact tget_tmodAll_other detSt0 _ d _ s.margin.dets fun hmem => hd (List.mem_filter.1 hmem).1
  case window =>
    intro lim high low top m is
    have hexec := exec_rateWindowEnd hdue
    have hjudged : ∀ y, windowJudged s n = y → exec .rateWindowEnd s = .next (
        if s.time.holdover then event 0xE009 4 { s with out := [], margin := y } else { s with out := [], margin := y }) :=
      fun y hy => hy ▸ hexec
    refine ⟨⟨_, hexec, ?_⟩, fun hlim hhigh htop hmore => ?_, fun hlim hhigh htop hmore => ?_, fun hlim hhigh hmore => ?_,
      fun hlim hq hlow hmore => ?_, fun hlim hq hlow hmore => ?_, fun hlim hq hmore => ?_⟩
    · have hmargin : (if s.time.holdover then event 0xE009 4 { s with out := [], margin := windowJudged s n }
          else { s with out := [], margin := windowJudged s n }).margin = windowJudged s n := by
        split
        · exact event_margin _ _ _
        · rfl
      rw [hmargin]
      exact ⟨rfl, rfl, rfl⟩
    · exact hjudged _ (windowJudged_of_rise hmore (rateStep_of_top hlim hhigh htop))
    · exact hjudged _ (windowJudged_of_steady hmore (rateStep_at_top hlim hhigh htop))
    · exact hjudged _ (windowJudged_of_steady hmore (rateStep_of_run hlim hhigh))
    · exact hjudged _ (windowJudged_of_steady hmore (rateStep_of_fall hlim hq hlow))
    · exact hjudged _ (windowJudged_of_steady hmore (rateStep_of_low hlim hq hlow))
    · exact hjudged _ (windowJudged_of_steady hmore (rateStep_of_middle hlim hq))

end Sys2Proof.Machine
end

section
/-! R241, R242, R244, R246: the ageing reads, the trim instant, and the margin record's store and its end. -/

namespace Sys2Proof.Machine

open Sys2Proof

/-! ### Flash that is read back -/

theorem not_mem_tset {j k v : Nat} {t : Tab Nat} (hk : k ∉ t.map Prod.fst) (hj : k ≠ j) :
    k ∉ (tset 0xFF j v t).map Prod.fst := by
  intro hmem
  obtain ⟨p, hp, hpk⟩ := List.mem_map.1 hmem
  unfold tset at hp
  split at hp
  · exact hk (List.mem_map.2 ⟨p, mem_terase j t p hp, hpk⟩)
  · rcases mem_tins j v t p hp with rfl | hp
    · exact hj hpk.symm
    · exact hk (List.mem_map.2 ⟨p, hp, hpk⟩)

/-- A write at a key that a table does not list is read back. -/
theorem tget_tset_of_not_mem {k : Nat} (v : Nat) {t : Tab Nat} (hk : k ∉ t.map Prod.fst) :
    tget 0xFF k (tset 0xFF k v t) = v := by
  unfold tset
  split
  · rename_i hv
    rw [hv]
    refine tget_of_not_mem 0xFF fun hmem => hk ?_
    obtain ⟨p, hp, hpk⟩ := List.mem_map.1 hmem
    exact List.mem_map.2 ⟨p, mem_terase k t p hp, hpk⟩
  · exact tget_tins 0xFF k v t

theorem tget_program_other (off k : Nat) (l : List (Nat × Nat)) (t : Tab Nat) (h : ∀ b ∈ l, k ≠ off + b.2) :
    tget 0xFF k (l.foldl (fun u b => tset 0xFF (off + b.2) b.1 u) t) = tget 0xFF k t := by
  induction l generalizing t with
  | nil => rfl
  | cons b r ih =>
    exact (ih _ fun c hc => h c (List.mem_cons_of_mem b hc)).trans (tget_tset_ne 0xFF k _ _ t (h b List.mem_cons_self))

/-- Bytes programmed at keys that a table does not list are read back. -/
theorem tget_program (off n : Nat) (l : List Nat) (t : Tab Nat) (h : ∀ i, i < l.length → off + (n + i) ∉ t.map Prod.fst)
    {i : Nat} (hi : i < l.length) :
    tget 0xFF (off + (n + i)) ((l.zipIdx n).foldl (fun u b => tset 0xFF (off + b.2) b.1 u) t) = l[i] := by
  induction l generalizing n t i with
  | nil => cases hi
  | cons v r ih =>
    rw [List.zipIdx_cons, List.foldl_cons]
    cases i with
    | zero =>
      rw [tget_program_other off _ _ _ fun b hb => ?_]
      · exact tget_tset_of_not_mem v (h 0 (Nat.succ_pos _))
      · have hlow := (List.mem_zipIdx hb).1
        omega
    | succ i =>
      have hnext := ih (n + 1) (tset 0xFF (off + n) v t) (fun j hj => ?_) (Nat.lt_of_succ_lt_succ hi)
      · rw [show n + (i + 1) = n + 1 + i by omega]
        exact hnext
      · refine not_mem_tset ?_ (by omega)
        have hj' := h (j + 1) (Nat.succ_lt_succ hj)
        rwa [show n + (j + 1) = n + 1 + j by omega] at hj'

theorem not_mem_flashErase {off span k : Nat} (t : Tab Nat) (hlo : off ≤ k) (hhi : k < off + span) :
    k ∉ (flashErase off span t).map Prod.fst := by
  intro hmem
  obtain ⟨p, hp, rfl⟩ := List.mem_map.1 hmem
  have hkeep := (List.mem_filter.1 hp).2
  simp only [Bool.or_eq_true, decide_eq_true_eq] at hkeep
  omega

theorem bytesOfWords_cons (w : Nat) (ws : List Nat) : bytesOfWords (w :: ws) = bytesOfWord w ++ bytesOfWords ws := rfl

theorem length_bytesOfWords (ws : List Nat) : (bytesOfWords ws).length = 4 * ws.length := by
  induction ws with
  | nil => rfl
  | cons w ws ih =>
    rw [bytesOfWords_cons, List.length_append, ih, List.length_cons]
    simp only [bytesOfWord, List.length_cons, List.length_nil]
    omega

/-- A byte of a list of words. -/
theorem getElem_bytesOfWords {ws : List Nat} {i j : Nat} (hi : i < ws.length) (hj : j < 4) :
    (bytesOfWords ws)[4 * i + j]'(by rw [length_bytesOfWords]; omega) = ws[i] / 2 ^ (8 * j) % 256 := by
  induction ws generalizing i with
  | nil => cases hi
  | cons w ws ih =>
    cases i with
    | zero =>
      simp only [bytesOfWords_cons, Nat.mul_zero, Nat.zero_add, List.getElem_cons_zero]
      rw [List.getElem_append_left (by simpa [bytesOfWord] using hj)]
      have hcases : j = 0 ∨ j = 1 ∨ j = 2 ∨ j = 3 := by omega
      rcases hcases with rfl | rfl | rfl | rfl <;> simp [bytesOfWord]
    | succ i =>
      simp only [bytesOfWords_cons, List.getElem_cons_succ]
      rw [List.getElem_append_right (by simp [bytesOfWord]; omega)]
      have hlen : (bytesOfWord w).length = 4 := rfl
      simp only [hlen, show 4 * (i + 1) + j - 4 = 4 * i + j by omega]
      exact ih (Nat.lt_of_succ_lt_succ hi)

theorem fromLe_word (w : Nat) :
    fromLe [w % 256, w / 2 ^ 8 % 256, w / 2 ^ 16 % 256, w / 2 ^ 24 % 256] = w % 2 ^ 32 := by
  simp only [fromLe]
  omega

/-- Words that fit an erased span are read back from it. -/
theorem flashWord_flashWrite {off span i : Nat} {ws : List Nat} (t : Tab Nat) (hfit : 4 * ws.length ≤ span)
    (hi : i < ws.length) : flashWord (flashWrite off span ws t) (off + 4 * i) = ws.getD i 0 % 2 ^ 32 := by
  have hbyte : ∀ j, j < 4 → tget 0xFF (off + 4 * i + j) (flashWrite off span ws t) = ws[i] / 2 ^ (8 * j) % 256 := by
    intro j hj
    have hlt : 4 * i + j < (bytesOfWords ws).length := by rw [length_bytesOfWords]; omega
    have hread := tget_program off 0 (bytesOfWords ws) (flashErase off span t)
      (fun n hn => not_mem_flashErase t (by omega) (by rw [length_bytesOfWords] at hn; omega)) hlt
    rw [Nat.zero_add, ← Nat.add_assoc] at hread
    exact hread.trans (getElem_bytesOfWords hi hj)
  have hword : flashWord (flashWrite off span ws t) (off + 4 * i) =
      fromLe [ws[i] % 256, ws[i] / 2 ^ 8 % 256, ws[i] / 2 ^ 16 % 256, ws[i] / 2 ^ 24 % 256] := by
    refine congrArg fromLe ?_
    simp only [List.range_succ, List.range_zero, List.nil_append, List.cons_append, List.map_cons, List.map_nil]
    rw [hbyte 0 (by decide), hbyte 1 (by decide), hbyte 2 (by decide), hbyte 3 (by decide)]
    simp
  rw [hword, fromLe_word, List.getD_eq_getElem?_getD, List.getElem?_eq_getElem hi, Option.getD_some]

theorem tget_flashWrite_outside {off span a : Nat} {ws : List Nat} (t : Tab Nat) (hfit : 4 * ws.length ≤ span)
    (h : a < off ∨ off + span ≤ a) : tget 0xFF a (flashWrite off span ws t) = tget 0xFF a t := by
  rw [flashWrite, tget_flashProgram _ _ _ _ (by omega), tget_flashErase _ _ _ _ h]

/-- What an erased span keeps beyond the words is erased. -/
theorem tget_flashWrite_beyond {off span i : Nat} {ws : List Nat} (t : Tab Nat) (hlo : 4 * ws.length ≤ i) (hhi : i < span) :
    tget 0xFF (off + i) (flashWrite off span ws t) = 0xFF := by
  rw [flashWrite, tget_flashProgram _ _ _ _ (by omega)]
  exact tget_of_not_mem 0xFF (not_mem_flashErase t (by omega) (by omega))

/-! ### A store that waits is not touched by what is told -/

theorem bookDeliver_frame (b : BookSt) (cap up tick code sev : Nat) (v : Int) :
    ∃ slots lost evict, (bookDeliver b cap up tick code sev v).1 = { b with slots := slots, lost := lost, evict := evict } := by
  simp only [bookDeliver]
  split
  · exact ⟨_, b.lost, b.evict, rfl⟩
  · split
    · exact ⟨_, b.lost, b.evict, rfl⟩
    · split
      · exact ⟨_, b.lost, _, rfl⟩
      · exact ⟨b.slots, _, b.evict, rfl⟩

/-- A delivery leaves the book's stores. -/
theorem deliver_store (code sev : Nat) (v : Int) (s : State) :
    (deliver code sev v s).book.storing = s.book.storing ∧ (deliver code sev v s).book.storeWait = s.book.storeWait := by
  obtain ⟨_, _, _, hbook⟩ := bookDeliver_frame s.book (bookCap s) s.time.up s.time.count code sev
    (clampI (-(2 ^ 31)) (2 ^ 31 - 1) v)
  simp only [deliver]
  generalize bookDeliver s.book (bookCap s) s.time.up s.time.count code sev (clampI (-(2 ^ 31)) (2 ^ 31 - 1) v) = r at hbook
  obtain ⟨_, hcause⟩ := raiseIf_frame r.2 12 1 { s with book := r.1 }
  rw [hcause]
  obtain ⟨_, _, _, _, htrc⟩ := trcDelivery_frame code { s with book := r.1, regs := { s.regs with cause := _ } }
  rw [htrc]
  exact ⟨(congrArg BookSt.storing hbook).trans rfl, (congrArg BookSt.storeWait hbook).trans rfl⟩

/-- A fault below class S leaves the book's stores. -/
theorem report_store {code : Nat} (v : Int) (s : State) (h : faultClass code < 4) :
    (report code v s).book.storing = s.book.storing ∧ (report code v s).book.storeWait = s.book.storeWait := by
  unfold report reportInj
  split
  · exact ⟨rfl, rfl⟩
  · split
    · simp only [collect]
      have hdel := deliver_store code (classSev (faultClass code)) v { s with fault := countFault (faultClass code) false s.fault }
      by_cases h3 : faultClass code < 3
      · rw [if_pos h3]
        exact hdel
      · rw [if_neg h3, if_pos h]
        exact hdel
    · split <;> exact ⟨rfl, rfl⟩

/-! ### The ageing reads (R241) -/

theorem injParity_none (checker : Nat) {s : State} (h : s.fault.inj = none) : injParity checker s = (false, s) := by
  rw [injParity, injCheck_none _ s h, h]

section
variable {m region : Nat} {s : State} (hmon : tlook m s.pb.mons = some region) (hinj : s.fault.inj = none)
  (hgood : (tget ageMon0 m s.margin.mons).failed = false)
include hmon hinj hgood

/-- A read of a good monitor, without an injection. -/
theorem monRead_of_good (code : Nat) (ok : Bool) :
    let x := tget ageMon0 m s.margin.mons
    let put : AgeMon → State := fun y => { s with margin := { s.margin with mons := tset ageMon0 m y s.margin.mons } }
    monRead m code ok s = if ok then (if readValid s region then put { x with
        minCode := min x.minCode (min 15 code), lastCode := min 15 code, reads := x.reads + 1 } else s)
      else report 0x6002 0 (put { x with failed := true }) := by
  intro x put
  unfold monRead
  rw [hmon]
  dsimp only
  rw [injParity_none _ hinj, if_neg (hgood ▸ Bool.false_ne_true)]
  cases ok with
  | false => exact (if_pos rfl).trans (if_neg Bool.false_ne_true).symm
  | true => exact (if_neg Bool.false_ne_true).trans (if_pos rfl).symm

end

theorem exec_agemonRead {m code : Nat} {ok : Bool} {s : State} (hdue : s.margin.readDue = true) :
    exec (.agemonRead [(m, code, ok)]) s = .next (monRead m code ok
      { s with out := [], margin := { s.margin with readDue := false } }) :=
  if_neg (show ¬ (!s.margin.readDue) = true by rw [hdue]; decide)

/-! ### The trim instant (R242) -/

/-- The margin state at a trim instant, the exclusions of the interval taken. -/
def trimBegun (s : State) : MarginSt :=
  { s.margin with
    mons := tadj ageMon0 (fun _ m => { m with excluded := m.exclNext }) s.margin.mons, trimDue := 0,
    skipped := (s.margin.skipped + (s.margin.trimDue - 1)) % 256 }

/-- A trim instant in holdover is told (R32). -/
def trimTold (s : State) : State :=
  if s.time.holdover then event 0xE009 3 { s with out := [], margin := trimBegun s }
  else { s with out := [], margin := trimBegun s }

theorem trimTold_margin (s : State) : (trimTold s).margin = trimBegun s := by
  unfold trimTold
  split
  · exact event_margin _ _ _
  · rfl

section
variable {target low opmin : Nat} {m : MarginSt}

theorem trimStep_up (h : low < target) : trimStep target low opmin m =
    { m with lastS := low, trim := min 32 (m.trim + ((target - low : Nat) : Int)), upSteps := (m.upSteps + 1) % 256 } :=
  if_pos h

theorem trimStep_down (h : target + 1 < low) (hmin : 720 ≤ diff32 opmin m.lastDown) (hbot : -24 < m.trim) :
    trimStep target low opmin m =
      { m with lastS := low, trim := m.trim - 1, lastDown := opmin, downSteps := (m.downSteps + 1) % 256 } := by
  have hmax : max (-24) (m.trim - 1) = m.trim - 1 := by omega
  refine ((if_neg (by omega)).trans (if_pos ⟨h, hmin⟩)).trans ?_
  rw [hmax]
  rfl

theorem trimStep_same (hlow : target ≤ low) (h : low ≤ target + 1 ∨ diff32 opmin m.lastDown < 720) :
    trimStep target low opmin m = { m with lastS := low } :=
  (if_neg (Nat.not_lt.2 hlow)).trans (if_neg fun hdown => by omega)

end

theorem exec_trimInstant_of_skip {s : State} (hdue : 0 < s.margin.trimDue)
    (hskip : (areg s 0x7040).testBit 31 = false ∨ sumN ((trimMons s (trimBegun s).mons).map AgeMon.reads) < 64) :
    exec .trimInstant s = .next { trimTold s with margin := { trimBegun s with skipped := ((trimBegun s).skipped + 1) % 256 } } := by
  have hguard : (!(areg s 0x7040).testBit 31 ||
      decide (sumN ((trimMons s (trimBegun s).mons).map AgeMon.reads) < 64)) = true := by
    rcases hskip with h | h
    · rw [h]
      rfl
    · rw [decide_eq_true h, Bool.or_true]
  rw [← trimTold_margin]
  exact (if_neg (Nat.ne_of_gt hdue)).trans (if_pos hguard)

theorem exec_trimInstant_of_step {s : State} (hdue : 0 < s.margin.trimDue) (hon : (areg s 0x7040).testBit 31 = true)
    (hreads : 64 ≤ sumN ((trimMons s (trimBegun s).mons).map AgeMon.reads)) {m : MarginSt}
    (hstep : trimStep (areg s 0x7040 / 2 ^ 27 % 2 ^ 4) (((trimMons s (trimBegun s).mons).map AgeMon.minCode).foldl min 15)
      s.book.opmin (trimBegun s) = m) :
    let t := { trimTold s with margin := { m with mons := tadj ageMon0 (fun _ x => { x with minCode := 15, reads := 0 }) m.mons } }
    exec .trimInstant s = .next (if m.trim ≠ s.margin.trim then event 0xE00A m.trim t else t) := by
  have hstep' : trimStep (bits (areg s 0x7040) 30 27) (((trimMons s (trimBegun s).mons).map AgeMon.minCode).foldl min 15)
      s.book.opmin (trimTold s).margin = m := by
    rw [trimTold_margin, bits_eq]
    exact hstep
  subst hstep'
  have hguard : ¬ (!(areg s 0x7040).testBit 31 ||
      decide (sumN ((trimMons s (trimBegun s).mons).map AgeMon.reads) < 64)) = true := by
    rw [hon, decide_eq_false (Nat.not_lt.2 hreads)]
    decide
  exact (if_neg (Nat.ne_of_gt hdue)).trans (if_neg hguard)

/-! ### The margin record (R246) -/

theorem storesEnd_of_quiet {s : State} (hall : s.port.storeAll = none) (hshut : s.mgmt.shutdown = none)
    (hwait : s.start.restartWait = false) : storesEnd s = s := by
  unfold storesEnd
  split
  · rfl
  · dsimp only
    rw [hall]
    dsimp only
    rw [hshut]
    exact if_neg (hwait ▸ Bool.false_ne_true)

theorem bookBegin_of_idle {s : State} (h : s.book.storeWait = false) : bookBegin s = s :=
  if_neg (h ▸ Bool.false_ne_true)

/-- The sector and the record once the store's read-back is judged. -/
def marginStored (st : Nat) (back : List Nat) (s : State) : State :=
  { s with
    out := [], flash := flashWrite s.pb.marginOffset 4096 back s.flash,
    margin := { s.margin with
      storing := none, done := true, status := st,
      stores := if st = 0 then (s.margin.stores + 1) % 2 ^ 32 else s.margin.stores } }

theorem exec_marginStoreDone {error : Bool} {back rec : List Nat} {st : Nat} {s : State} (hst : st = (if error then 3 else if back = rec then 0 else 2))
    (hrec : s.margin.storing = some rec) (hwait : s.book.storeWait = false) (hall : s.port.storeAll = none)
    (hshut : s.mgmt.shutdown = none) (hrestart : s.start.restartWait = false) :
    exec (.marginStoreDone error back) s = .next (raise 6 2 (if st = 0 then marginStored st back s
      else report 0x6004 0 (marginStored st back s))) := by
  have htold : reportIf (st != 0) 0x6004 0 (marginStored st back s) =
      if st = 0 then marginStored st back s else report 0x6004 0 (marginStored st back s) := by
    by_cases h : st = 0
    · rw [if_pos h, h]
      rfl
    · rw [if_neg h, bne_iff_ne.2 h, reportIf_true]
  have hkept : ∀ t, t = raise 6 2 (if st = 0 then marginStored st back s else report 0x6004 0 (marginStored st back s)) →
      t.book.storeWait = false ∧ t.port = s.port ∧ t.mgmt = s.mgmt ∧ t.start = s.start := by
    rintro t rfl
    by_cases h : st = 0
    · rw [if_pos h]
      exact ⟨hwait, rfl, rfl, rfl⟩
    · rw [if_neg h]
      have hstore := (report_store 0 (marginStored st back s) (show faultClass 0x6004 < 4 by decide)).2
      obtain ⟨_, _, _, _, _, _, _, hrep⟩ := report_frame 0x6004 0 (marginStored st back s) (by decide)
      refine ⟨hstore.trans hwait, ?_, ?_, ?_⟩ <;> rw [hrep] <;> rfl
  obtain ⟨hwait', hport, hmgmt, hstart⟩ := hkept _ rfl
  change execMarginStoreDone error back s = _
  unfold execMarginStoreDone
  extract_lets s0
  rw [show s0.margin.storing = some rec from hrec]
  change done (storesEnd (bookBegin (raise 6 2 (reportIf ((if error then 3 else if back = rec then 0 else 2) != 0) 0x6004 0
    (marginStored (if error then 3 else if back = rec then 0 else 2) back s))))) = _
  rw [← hst, htold, bookBegin_of_idle hwait', storesEnd_of_quiet (by rw [hport]; exact hall) (by rw [hmgmt]; exact hshut)
    (by rw [hstart]; exact hrestart)]
  rfl

/-- Settles O34: the reads, the trim instant in its cases, and the two ends of the margin store. -/
theorem marginCare : Obligations.MarginCare := by
  refine ⟨fun m code region s hdue hmon hinj => ?read, fun s hdue => ?trim, fun p s hopen hp => ?store,
    fun error back rec s hrec _ hwait hall hshut hrestart => ?stored⟩
  case read =>
    intro x hgood put
    have hread := fun ok => monRead_of_good (s := { s with out := [], margin := { s.margin with readDue := false } })
      hmon hinj hgood code ok
    refine ⟨?_, fun hvalid => ?_, fun hvalid => ?_⟩
    · rw [exec_agemonRead hdue, hread]
      rfl
    · rw [exec_agemonRead hdue, hread, if_pos rfl]
      exact congrArg Host.Outcome.next (if_pos hvalid)
    · rw [exec_agemonRead hdue, hread, if_pos rfl]
      exact congrArg Host.Outcome.next (if_neg (show ¬ readValid s region = true from hvalid ▸ Bool.false_ne_true))
  case trim =>
    intro ms mons target low w m told given
    refine ⟨exec_trimInstant_of_skip hdue, fun hon hreads => ⟨fun hlow htop => ?up, fun hhigh hmin hbot => ?down,
      fun hhigh hmin => ?wait, fun hlow hhigh => ?same⟩⟩
    case up =>
      refine (exec_trimInstant_of_step hdue hon hreads (trimStep_up hlow)).trans (congrArg Host.Outcome.next (if_pos ?_))
      change min 32 (s.margin.trim + ((target - low : Nat) : Int)) ≠ s.margin.trim
      omega
    case down =>
      refine (exec_trimInstant_of_step hdue hon hreads (trimStep_down hhigh hmin hbot)).trans
        (congrArg Host.Outcome.next (if_pos ?_))
      change s.margin.trim - 1 ≠ s.margin.trim
      omega
    case wait =>
      exact (exec_trimInstant_of_step hdue hon hreads (trimStep_same (Nat.le_of_lt (Nat.lt_of_succ_lt hhigh)) (.inr hmin))).trans
        (congrArg Host.Outcome.next (if_neg (not_not_intro rfl)))
    case same =>
      exact (exec_trimInstant_of_step hdue hon hreads (trimStep_same hlow (.inl hhigh))).trans
        (congrArg Host.Outcome.next (if_neg (not_not_intro rfl)))
  case store =>
    have hexec : exec (.store p) s = .next (rpAnswer 0 0 (marginStore { s with out := [] })) := by
      refine (congrArg Host.Outcome.next (rpWrite_open hopen 2 (by decide) (mayWrite_two hp))).trans ?_
      exact congrArg (fun x => Host.Outcome.next (rpAnswer 0 0 x)) (if_pos (by decide))
    refine ⟨fun hbusy => ?_, fun hfree hvalid => ?_⟩
    · rw [hexec, marginStore, if_pos (by rw [hbusy]; rfl)]
    · rw [hexec, marginStore, if_neg (by rw [hfree]; decide), if_neg (by rw [hvalid]; decide)]
      rfl
  case stored =>
    exact ⟨flashWrite s.pb.marginOffset 4096 back s.flash, _, rfl,
      exec_marginStoreDone rfl hrec hwait hall hshut hrestart,
      fun hlen a ha => tget_flashWrite_outside s.flash (by omega) ha,
      fun hlen i hi => flashWord_flashWrite s.flash (by omega) hi,
      fun i hlo hhi => tget_flashWrite_beyond s.flash hlo hhi⟩

end Sys2Proof.Machine
end

section
/-! R248, R249, R257 to R261: readings of the thermal sites, the throttle handshake and its grace. R270 to R272: the coolant
inputs. R265 to R269, R407: the Safety Curtain. -/

namespace Sys2Proof.Machine

open Sys2Proof

/-! ### Readings of a site -/

theorem clampI_eq_max_min {lo hi x : Int} (h : lo ≤ hi) : clampI lo hi x = max lo (min hi x) := by
  unfold clampI
  split
  · omega
  · split <;> omega

theorem readingCause_in_range {old : Option Int} {y : Int} (hlo : -640 ≤ y) (hhi : y ≤ 2400)
    (hold : ∀ p, old = some p → p ≤ y + 320) : readingCause old y = 0 := by
  unfold readingCause
  rw [if_neg (by omega)]
  cases old with
  | none => rfl
  | some p =>
    have hp := hold p rfl
    exact congrArg (0 + ·) (if_neg (by omega))

theorem readingCause_out_of_range {old : Option Int} {y : Int} (hy : y < -640 ∨ 2400 < y)
    (hold : ∀ p, old = some p → p ≤ y + 320) : readingCause old y = 4 := by
  unfold readingCause
  rw [if_pos hy]
  cases old with
  | none => rfl
  | some p =>
    have hp := hold p rfl
    exact congrArg (4 + ·) (if_neg (by omega))

theorem readingCause_jump {p y : Int} (hlo : -640 ≤ y) (hhi : y ≤ 2400) (hp : y + 320 < p) :
    readingCause (some p) y = 8 := by
  unfold readingCause
  rw [if_neg (by omega)]
  exact congrArg (0 + ·) (if_pos hp)

/-- The site `i` with an accepted reading, which its source has sent in this sample (R248). -/
def siteKept (i : Nat) (y : Int) (s : State) : State :=
  putSite i { tget siteSt0 i s.therm.sites with
    reading := some y, readId := (tget siteSt0 i s.therm.sites).readId + 1, since := s.time.up, parity := false }
    (arrived (srcSite i) (fresh s))

/-- The site `i` with a discarded reading (R249). -/
def siteDiscarded (i : Nat) (s : State) : State :=
  putSite i { tget siteSt0 i s.therm.sites with parity := true } { fresh s with
    therm := { s.therm with parityDiscard := (s.therm.parityDiscard + 1) % 2 ^ 16 } }

section
variable {i : Nat} {c : SiteCfg} {s : State} (hsite : tlook i s.pb.therm.sites = some c) (hclk : clocked s = true)
  (hinj : s.fault.inj = none)
include hsite hclk hinj

theorem exec_thermalSiteRead_good (raw : Int) :
    exec (.thermalSiteRead i raw true) s = .next (siteBreak false i
      (readingCause (tget siteSt0 i s.therm.sites).reading (siteTrim c raw)) (siteKept i (siteTrim c raw) s)) := by
  change execThermalSiteRead i raw true s = _
  unfold execThermalSiteRead
  extract_lets s0 j
  have hj : j = (false, s0) := injParity_none _ hinj
  rw [show tlook i s0.pb.therm.sites = some c from hsite]
  dsimp only
  rw [show clocked s0 = true from hclk]
  clear_value j
  subst hj
  rfl

theorem exec_thermalSiteRead_discarded (raw : Int) :
    exec (.thermalSiteRead i raw false) s = .next (if (tget siteSt0 i s.therm.sites).parity then
      siteBreak false i 2 (siteDiscarded i s) else report 0x7002 (i : Int) (siteDiscarded i s)) := by
  change execThermalSiteRead i raw false s = _
  unfold execThermalSiteRead
  extract_lets s0 j
  have hj : j = (false, s0) := injParity_none _ hinj
  rw [show tlook i s0.pb.therm.sites = some c from hsite]
  dsimp only
  rw [show clocked s0 = true from hclk]
  clear_value j
  subst hj
  rfl

end

theorem siteBreak_known {i c : Nat} {s : State}
    (h : (tget siteSt0 i s.therm.sites).cause ||| c = (tget siteSt0 i s.therm.sites).cause) : siteBreak false i c s = s :=
  if_pos h

theorem siteBreak_new {i c : Nat} {s : State}
    (h : (tget siteSt0 i s.therm.sites).cause ||| c ≠ (tget siteSt0 i s.therm.sites).cause) :
    siteBreak false i c s = raise 7 2 (report 0x7001 (i : Int)
      (putSite i { tget siteSt0 i s.therm.sites with cause := (tget siteSt0 i s.therm.sites).cause ||| c } s)) :=
  if_neg h

theorem exec_siteTimeout_due {i : Nat} {s : State} (hsite : (tlook i s.pb.therm.sites).isSome = true)
    (hclk : clocked s = true) (hrun : s.start.state = 8 ∨ s.start.state = 9)
    (hdue : (tget siteSt0 i s.therm.sites).since + 24 ≤ s.time.up) :
    exec (.siteTimeout i) s = .next (siteBreak false i 1 { s with out := [] }) := by
  have himg : images (fresh s) = true := by
    simp only [images, isLive, Bool.or_eq_true, beq_iff_eq]
    exact Or.inl hrun
  have hguard : ((tlook i (fresh s).pb.therm.sites).isSome && clocked (fresh s) && images (fresh s) &&
      decide ((tget siteSt0 i (fresh s).therm.sites).since + 24 ≤ (fresh s).time.up)) = true := by
    rw [himg, Bool.and_true, Bool.and_eq_true, Bool.and_eq_true]
    exact ⟨⟨hsite, hclk⟩, decide_eq_true hdue⟩
  exact if_pos hguard

/-! ### The throttle handshake -/

theorem exec_thrAck_taken {s : State} (hup : s.start.blkUp = true) (hlvl : s.therm.level ≤ 15) :
    exec .thrAck s = .next { s with out := [], therm := { s.therm with
      ackLvl := if holdOut s then 15 else s.therm.level, exceeds := false, grace := none, enfDue := false } } := by
  have hle : s.therm.level ≤ thrLevel (fresh s) := by
    unfold thrLevel
    split
    · exact hlvl
    · exact Nat.le_refl _
  have hshow : thrLevel (fresh s) = if holdOut s then 15 else s.therm.level := rfl
  have hguard : (!(fresh s).start.blkUp) = false := by rw [Bool.not_eq_false']; exact hup
  change execThrAck s = _
  unfold execThrAck
  extract_lets s0 a
  refine (if_neg (ne_true_of_eq_false hguard)).trans ?_
  have hnot : decide (a < s0.therm.level) = false := decide_eq_false (Nat.not_lt.2 hle)
  rw [hnot, if_pos (show s0.therm.level ≤ a from hle), Bool.and_false]
  rfl

section
variable {g : Nat} {s : State} (hg : s.therm.grace = some g) (hrun : running s = true)
include hg hrun

theorem exec_graceExpiry_early (hk : g = s.time.k + 1) :
    exec .graceExpiry s = .next { s with out := [], therm := { s.therm with enfDue := true } } := by
  change execGraceExpiry s = _
  unfold execGraceExpiry
  extract_lets s0
  rw [show s0.therm.grace = some g from hg]
  dsimp only
  rw [show running s0 = true from hrun, if_neg (by decide), if_neg (show ¬ g ≤ s0.time.k by
    have : s0.time.k = s.time.k := rfl
    omega)]
  refine (if_pos hk).trans ?_
  rw [← hg]
  rfl

theorem exec_graceExpiry_past (hk : g ≤ s.time.k) :
    exec .graceExpiry s = .next (enfImage (enfBudget (enfBegin false (fresh s)))) := by
  change execGraceExpiry s = _
  unfold execGraceExpiry
  extract_lets s0
  rw [show s0.therm.grace = some g from hg]
  dsimp only
  rw [show running s0 = true from hrun, if_neg (by decide)]
  exact if_pos hk

end

/-- Settles O35: a site's readings (`exec_thermalSiteRead_good`, `exec_thermalSiteRead_discarded`), its timeout, the causes that
break it, and the handshake with its grace. -/
theorem thermalSites : Obligations.ThermalSites := by
  unfold Obligations.ThermalSites
  refine ⟨?_, ?_, ?_, ?_, ?_⟩
  case refine_1 =>
    intro i raw c s hsite hclk hinj x y put good kept
    have hy : siteTrim c raw = y := clampI_eq_max_min (by decide)
    have hkept : siteKept i (siteTrim c raw) s = kept := by rw [hy]; rfl
    have hgood := exec_thermalSiteRead_good hsite hclk hinj raw
    have hbad := exec_thermalSiteRead_discarded hsite hclk hinj raw
    rw [hkept, hy] at hgood
    refine ⟨fun hlo hhi hold => ?_, fun hr hold => ?_, fun hlo hhi hj => ?_, fun hp => ?_, fun hp => ?_⟩
    · rw [hgood, readingCause_in_range hlo hhi hold]
      exact congrArg _ (siteBreak_known (Nat.or_zero _))
    · rw [hgood, readingCause_out_of_range hr hold]
    · obtain ⟨p, hread, hp⟩ := hj
      rw [hgood, show (tget siteSt0 i s.therm.sites).reading = some p from hread, readingCause_jump hlo hhi hp]
    · rw [hbad, if_neg (by rw [show (tget siteSt0 i s.therm.sites).parity = false from hp]; decide)]
      rfl
    · rw [hbad, if_pos (show (tget siteSt0 i s.therm.sites).parity = true from hp)]
      rfl
  case refine_2 => exact fun i s hsite hclk hrun hdue => exec_siteTimeout_due hsite hclk hrun hdue
  case refine_3 => exact fun i c s => ⟨siteBreak_known, siteBreak_new⟩
  case refine_4 => exact fun s hup hlvl => exec_thrAck_taken hup hlvl
  case refine_5 =>
    intro g s hg hrun
    refine ⟨exec_graceExpiry_early hg hrun, fun hk => ⟨_, exec_graceExpiry_past hg hrun hk, ?_⟩⟩
    exact ⟨rfl, rfl, rfl, rfl, rfl, rfl, rfl, rfl⟩

/-! ### The coolant inputs -/

/-- The heartbeat edge at `ns`, accepted (R396). -/
def hbAccepted (ns : Nat) (s : State) : State :=
  { s with
    out := [],
    therm := { s.therm with
      lastHb := some ns, hbUp := some s.time.up, hbOk := true, wdRun := true, hbRun := some (s.therm.hbRun.getD ns) } }

section
variable {ns : Nat} {s : State} (hlive : s.start.live = true) (hup : s.start.blkUp = true)
include hlive hup

theorem exec_coolHbEdge_first (hlast : s.therm.lastHb = none) : exec (.coolHbEdge ns) s = .next (hbAccepted ns s) := by
  change execCoolHbEdge ns s = _
  unfold execCoolHbEdge
  extract_lets s0 ok
  have hok : ok = true := by
    change (match s.therm.lastHb with | none => true | some t => decide (t + 400000 ≤ ns ∧ ns ≤ t + 600000)) = true
    rw [hlast]
  rw [show s0.start.live = true from hlive, show s0.start.blkUp = true from hup, hok]
  rfl

theorem exec_coolHbEdge_next {t0 : Nat} (hlast : s.therm.lastHb = some t0) :
    exec (.coolHbEdge ns) s = .next (if t0 + 400000 ≤ ns ∧ ns ≤ t0 + 600000 then hbAccepted ns s
      else { s with out := [], port := { s.port with hbBad := (s.port.hbBad + 1) % 256 } }) := by
  change execCoolHbEdge ns s = _
  unfold execCoolHbEdge
  extract_lets s0 ok
  have hok : ok = decide (t0 + 400000 ≤ ns ∧ ns ≤ t0 + 600000) := by
    change (match s.therm.lastHb with | none => true | some t => decide (t + 400000 ≤ ns ∧ ns ≤ t + 600000)) = _
    rw [hlast]
  rw [show s0.start.live = true from hlive, show s0.start.blkUp = true from hup, hok]
  by_cases hin : t0 + 400000 ≤ ns ∧ ns ≤ t0 + 600000
  · rw [decide_eq_true hin, if_pos hin]
    rfl
  · rw [decide_eq_false hin, if_neg hin]
    rfl

end

theorem exec_coolHbExpiry_lost {s : State} (hwd : s.therm.wdRun = true) (hup : s.start.blkUp = true)
    (hmiss : s.therm.hbUp ≠ some s.time.up ∨ s.start.bclkAbsent = true) :
    exec .coolHbExpiry s = .next (raise 7 3 (report 0x9001 0 { s with
      out := [],
      therm := { s.therm with
        coolFault := true, hbOk := false, wdRun := false, lastHb := none, hbRun := none,
        hbLosses := (s.therm.hbLosses + 1) % 256 } })) := by
  have hnow : (clocked s && s.therm.hbUp == some s.time.up) = false := by
    rcases hmiss with h | h
    · rw [beq_eq_false_iff_ne.2 h, Bool.and_false]
    · simp [clocked, h]
  have hguard : (!(fresh s).therm.wdRun || !(fresh s).start.blkUp ||
      (clocked (fresh s) && (fresh s).therm.hbUp == some (fresh s).time.up)) = false := by
    change (!s.therm.wdRun || !s.start.blkUp || (clocked s && s.therm.hbUp == some s.time.up)) = false
    rw [hwd, hup, hnow]
    rfl
  exact if_neg (ne_true_of_eq_false hguard)

theorem exec_coolFaultClose_met {a b : Nat} {s : State} (ha : s.therm.hbRun = some a) (hb : s.therm.lastHb = some b)
    (hle : a + 1000000000 ≤ b) :
    exec .coolFaultClose s = .next { s with out := [], therm := { s.therm with coolFault := false } } := by
  change execCoolFaultClose s = _
  unfold execCoolFaultClose
  extract_lets s0
  rw [show s0.therm.hbRun = some a from ha, show s0.therm.lastHb = some b from hb]
  refine (if_pos hle).trans ?_
  rw [← ha, ← hb]
  rfl

theorem exec_leakState_taken {p n : Bool} {s : State} (hup : s.start.blkUp = true) :
    exec (.leakState p n) s = .next { s with out := [], therm := { s.therm with
      leakP := p, leakN := n,
      leakRun := !leakDry p n && (s.therm.leakRun || (p != s.therm.leakP || n != s.therm.leakN || !s.therm.leakFault)) } } := by
  have hguard : (!(fresh s).start.blkUp) = false := by rw [Bool.not_eq_false']; exact hup
  exact if_neg (ne_true_of_eq_false hguard)

theorem exec_leakFiltExpiry_leaks {s : State} (hrun : s.therm.leakRun = true) (hup : s.start.blkUp = true) :
    exec .leakFiltExpiry s = .next (report (if s.pb.cap.leakAction = 1 then 0x9003 else 0x9002) 0 (raise 7 4
      (alert 0x41 [s.therm.leakP.toNat + 2 * s.therm.leakN.toNat, (s.therm.leakEvents + 1) % 256] { s with
        out := [],
        therm := { s.therm with
          leakRun := false, leakFault := true, leakEvents := (s.therm.leakEvents + 1) % 256,
          leakHold := s.therm.leakHold || s.pb.cap.leakAction == 1 } }))) := by
  have hguard : (!(fresh s).therm.leakRun || !(fresh s).start.blkUp) = false := by
    change (!s.therm.leakRun || !s.start.blkUp) = false
    rw [hrun, hup]
    rfl
  exact if_neg (ne_true_of_eq_false hguard)

theorem toNat_add_two_mul (p n : Bool) : p.toNat + 2 * n.toNat = (if p then 1 else 0) + (if n then 2 else 0) := by
  cases p <;> cases n <;> rfl

/-- Settles O36: the heartbeat and its watchdog, the leak pair and its filter, each row by its `exec` lemma; the holds a sample
latches are read off `latchImage`. -/
theorem coolantInputs : Obligations.CoolantInputs := by
  unfold Obligations.CoolantInputs
  refine ⟨?_, ?_, ?_, ?_, ?_, ?_⟩
  case refine_1 =>
    intro ns s hlive hup ok
    refine ⟨fun hlast => exec_coolHbEdge_first hlive hup hlast, fun t0 hlast => ?_⟩
    rw [exec_coolHbEdge_next hlive hup hlast]
    refine ⟨fun hlo hhi => ?_, fun hout => ?_⟩
    · rw [if_pos ⟨hlo, hhi⟩]
      rfl
    · rw [if_neg (by omega)]
  case refine_2 => exact fun s hwd hup hmiss => exec_coolHbExpiry_lost hwd hup hmiss
  case refine_3 => exact fun a b s ha hb hle => exec_coolFaultClose_met ha hb hle
  case refine_4 =>
    intro p n s hup
    rw [exec_leakState_taken hup]
    refine ⟨fun hp hn => ?_, fun hwet hnew => ?_⟩
    · rw [show leakDry p n = true by rw [hp, hn]; rfl]
      rfl
    · have hdry : leakDry p n = false := by
        rcases hwet with h | h
        · rw [h]; rfl
        · rw [h]; exact Bool.and_false _
      have hchange : (p != s.therm.leakP || n != s.therm.leakN) = true := by
        rw [Bool.or_eq_true, bne_iff_ne, bne_iff_ne]
        exact hnew
      rw [hdry, hchange, Bool.true_or, Bool.or_true]
      rfl
  case refine_5 =>
    intro s hrun hup e pair u
    rw [exec_leakFiltExpiry_leaks hrun hup, toNat_add_two_mul, Bool.beq_eq_decide_eq]
    rfl
  case refine_6 =>
    intro run froze wr s im
    exact ⟨Bool.or_eq_true_iff, Bool.or_eq_true_iff⟩

/-! ### The Curtain: what a report and a trip keep -/

/-- The Curtain's registers and the outputs applied stay, and nothing sent is taken back. -/
structure CurtKept (s t : State) : Prop where
  curt : t.curt = s.curt
  app : t.core.app = s.core.app
  out : ∀ e ∈ s.out, e ∈ t.out

namespace CurtKept

theorem refl (s : State) : CurtKept s s := ⟨rfl, rfl, fun _ he => he⟩

theorem trans {s t u : State} (h : CurtKept s t) (k : CurtKept t u) : CurtKept s u :=
  ⟨k.curt.trans h.curt, k.app.trans h.app, fun e he => k.out e (h.out e he)⟩

/-- A state that differs in none of the three. -/
theorem of_eq {s t : State} (hc : t.curt = s.curt) (ha : t.core.app = s.core.app) (ho : t.out = s.out) : CurtKept s t :=
  ⟨hc, ha, fun _ he => ho ▸ he⟩

theorem foldl {α : Type} {f : State → α → State} (hf : ∀ x a, CurtKept x (f x a)) (l : List α) (s : State) :
    CurtKept s (l.foldl f s) :=
  List.foldlRecOn (motive := CurtKept s) l f (refl s) fun x hx a _ => hx.trans (hf x a)

theorem friSend (type addr value : Nat) (s : State) : CurtKept s (friSend type addr value s) :=
  ⟨rfl, rfl, fun _ he => List.mem_append_left _ he⟩

theorem raiseIf (c : Bool) (g b : Nat) (s : State) : CurtKept s (raiseIf c g b s) := by
  obtain ⟨cs, h⟩ := raiseIf_frame c g b s
  exact h ▸ .of_eq rfl rfl rfl

theorem raise (g b : Nat) (s : State) : CurtKept s (raise g b s) := .of_eq rfl rfl rfl

theorem deliver (code sev : Nat) (v : Int) (s : State) : CurtKept s (deliver code sev v s) := by
  obtain ⟨bk, bufs, fz, cs, fr, h⟩ := deliver_frame code sev v s
  exact h ▸ .of_eq rfl rfl rfl

theorem holdDrive (s : State) : CurtKept s (holdDrive s) := by
  have hfri : CurtKept s ((safeRailList s).foldl (fun x r => Machine.friSend 1 r s.par.safeVolt x) s) :=
    foldl (fun x r => friSend 1 r s.par.safeVolt x) _ s
  exact hfri.trans ⟨rfl, rfl, fun _ he => List.mem_append_left _ he⟩

theorem enterSafe (s : State) : CurtKept s (enterSafe s) := by
  unfold Machine.enterSafe
  split
  · exact .of_eq rfl rfl rfl
  · refine ((holdDrive s).trans ?_).trans (raiseIf s.core.frozen 3 1 _)
    exact .of_eq rfl rfl rfl

theorem collect (code : Nat) (v : Int) (inj : Bool) (s : State) : CurtKept s (collect code v inj s) := by
  have hcount : CurtKept s { s with fault := countFault (faultClass code) inj s.fault } := .of_eq rfl rfl rfl
  have hdel := hcount.trans (deliver code (classSev (faultClass code)) v _)
  unfold Machine.collect
  extract_lets cls s1 core s2 s3
  have hrec : CurtKept s s2 := hdel.trans (.of_eq rfl rfl rfl)
  split
  · exact hdel
  · split
    · exact hrec
    · split
      · exact hrec.trans (enterSafe s2)
      · exact (hrec.trans (enterSafe s2)).trans (.of_eq rfl rfl rfl)

theorem report (code : Nat) (v : Int) (s : State) : CurtKept s (report code v s) := by
  unfold Machine.report reportInj
  split
  · exact refl s
  · split
    · exact collect code v false s
    · split
      · exact .of_eq rfl rfl rfl
      · exact refl s

theorem reportAll (l : List (Nat × Int)) (s : State) : CurtKept s (reportAll l s) :=
  foldl (fun x (f : Nat × Int) => report f.1 f.2 x) _ s

theorem railOffAll (s : State) : CurtKept s (railOffAll s) := by
  have hrail : ∀ x, CurtKept x (railOff x) := friSend 3 63 0
  unfold Machine.railOffAll
  split
  · exact refl s
  · extract_lets s1 s2
    have h1 : CurtKept s s1 := ((hrail s).trans (hrail _)).trans (hrail _)
    have h2 : CurtKept s s2 := by
      change CurtKept s (match s1.tel.phase with | some t => telEnd false t s1 | none => s1)
      split
      · exact h1.trans (.of_eq rfl rfl rfl)
      · exact h1
    exact h2.trans (.of_eq rfl rfl rfl)

end CurtKept

/-! ### A read of the Curtain's sensors -/

/-- A trip within 3,600 s of the earliest of the three before it (R269). -/
def fourthTrip (c : CurtSt) : Bool := ((c.times.drop 2).take 1).any (fun t => decide (c.cyc ≤ t + 3600 * curtHz))

theorem marginTorn_curt (s : State) : (marginTorn s).curt = s.curt := by
  unfold marginTorn
  split <;> rfl

theorem bookTorn_curt (s : State) : (bookTorn s).curt = s.curt := by
  unfold bookTorn
  split <;> rfl

/-- What a trip on the pair `p` leaves (R266, R269). -/
theorem curtTrip_trips (p : Nat) {s : State} (h : s.curt.tripped = false) :
    (curtTrip p s).curt.tripped = true ∧ (curtTrip p s).curt.tripPair = p ∧
      (curtTrip p s).curt.trips = (s.curt.trips + 1) % 2 ^ 16 ∧
      (curtTrip p s).curt.times = (s.curt.cyc :: s.curt.times).take 4 ∧
      (curtTrip p s).curt.lockout = (s.curt.lockout || fourthTrip s.curt) ∧
      (curtTrip p s).core.app.therm.state = 3 ∧ .curtain true false ∈ (curtTrip p s).out := by
  unfold curtTrip
  rw [h, if_neg Bool.false_ne_true]
  extract_lets c v lock more c1 s1 s2 s3
  have hkept : CurtKept (emit (.curtain true false) s1) (reportAll ((0x8001, (p : Int) * 65536 + v) :: more) s3) :=
    (CurtKept.railOffAll _).trans (((CurtKept.raiseIf (decide (tripsHour c1 = 3)) 8 2 s2).trans (.raise 7 0 _)).trans (.reportAll _ s3))
  have hcurt : (reportAll ((0x8001, (p : Int) * 65536 + v) :: more) s3).curt = c1 :=
    hkept.curt.trans ((bookTorn_curt _).trans (marginTorn_curt _))
  have hshut : (reportAll ((0x8001, (p : Int) * 65536 + v) :: more) s3).core.app.therm.state = 3 :=
    congrArg (fun o : CoreOut => o.therm.state) hkept.app
  have hout : .curtain true false ∈ (reportAll ((0x8001, (p : Int) * 65536 + v) :: more) s3).out :=
    hkept.out _ (List.mem_append_right _ (List.mem_singleton.2 rfl))
  rw [hcurt]
  exact ⟨rfl, rfl, rfl, rfl, rfl, hshut, hout⟩

theorem curtTrip_again (p : Nat) {s : State} (h : s.curt.tripped = true) : curtTrip p s = s := if_pos h

theorem curtTrip_tripped (p : Nat) (s : State) : (curtTrip p s).curt.tripped = true := by
  cases h : s.curt.tripped
  case true => rw [curtTrip_again p h, h]
  case false => exact (curtTrip_trips p h).1

theorem curtLock_locks (cause code : Nat) (s : State) :
    (curtLock cause code s).curt.lockout = true ∧ (curtLock cause code s).curt.tripped = s.curt.tripped ∧
      (curtLock cause code s).curt.tripPair = s.curt.tripPair ∧ (curtLock cause code s).curt.trips = s.curt.trips ∧
      (curtLock cause code s).curt.times = s.curt.times ∧ (curtLock cause code s).core.app = s.core.app ∧
      ∀ e ∈ s.out, e ∈ (curtLock cause code s).out := by
  unfold curtLock
  split
  case isTrue h => exact ⟨h, rfl, rfl, rfl, rfl, rfl, fun _ he => he⟩
  case isFalse h =>
    obtain ⟨hcurt, happ, hout⟩ :=
      CurtKept.report code 0 { s with curt := { s.curt with lockout := true, lockCause := cause } }
    rw [hcurt]
    exact ⟨rfl, rfl, rfl, rfl, rfl, happ, hout⟩

/-- The trip record. -/
def tripRecord (c : CurtSt) : Bool × Nat × List Nat := (c.tripped, c.trips, c.times)

theorem sensRead_tripRecord (i : Nat) (r : Option Int) (c : CurtSt) : tripRecord (sensRead i r c) = tripRecord c := by
  cases r <;> rfl

theorem pairsDiffer_tripRecord (c : CurtSt) : tripRecord (pairsDiffer c).1 = tripRecord c :=
  List.foldlRecOn (motive := fun (x : CurtSt × Bool) => tripRecord x.1 = tripRecord c) _ _ rfl fun _ hx _ _ => hx

theorem curtSense_tripRecord (readings : List (Option Int)) (split : List Nat) (thr res : Int) (flip : Nat → Bool)
    (c : CurtSt) : tripRecord (curtSense readings split thr res flip c) = tripRecord c :=
  (pairsDiffer_tripRecord _).trans <|
    List.foldlRecOn (motive := fun (x : CurtSt) => tripRecord x = tripRecord c) _ _ rfl fun x hx i _ =>
      (sensRead_tripRecord i _ x).trans hx

/-- The Curtain's registers after a read that no injection touches. -/
def curtRead (r : List (Option Int)) (split : List Nat) (s : State) : CurtSt :=
  curtSense r split (curtThr s) (curtRestart s) (fun _ => false) s.curt

/-- The pairs whose channels were both above at this read and the one before. -/
def curtTrips (old new : CurtSt) : List Nat :=
  (List.range 8).filter (fun p => old.primary.contains p && new.primary.contains p &&
    (old.checker.contains p && new.checker.contains p))

/-- The pairs whose channels have split at two reads in a row. -/
def curtSplits (old new : CurtSt) : List Nat :=
  (List.range 8).filter (fun p => old.split.contains p && new.split.contains p)

/-- A read that has been sensed, with what it tells of failed sensors and of pairs that differ. -/
def curtTold (failed differ : Bool) (new : CurtSt) (s : State) : State :=
  raiseIf (failed || differ) 8 0
    (reportAll ((if failed then [(0x8002, 0)] else []) ++ (if differ then [(0x8003, 0)] else [])) { s with out := [], curt := new })

/-- The trip of a read, where it trips. -/
def curtTripped (trips : List Nat) (s : State) : State :=
  match trips.head? with
  | some p => curtTrip p s
  | none => s

/-- The lock of a read whose channels have split. -/
def curtLocked (splits : List Nat) (s : State) : State :=
  match splits.head? with
  | some p => curtLock 3 0x8004 (curtTrip p s)
  | none => s

theorem curtTold_curt (failed differ : Bool) (new : CurtSt) (s : State) : (curtTold failed differ new s).curt = new :=
  ((CurtKept.reportAll _ { s with out := [], curt := new }).trans (.raiseIf _ 8 0 _)).curt

theorem curtTold_nothing (new : CurtSt) (s : State) : curtTold false false new s = { s with out := [], curt := new } := rfl

theorem exec_curtainRead_plain (r : List (Option Int)) (split : List Nat) {s : State} (hao : s.start.aoUp = true)
    (hinj : s.fault.inj = none) (htest : s.fault.underTest = none) :
    exec (.curtainRead r split) s = .next (curtLocked (curtSplits s.curt (curtRead r split s))
      (curtTripped (curtTrips s.curt (curtRead r split s))
        (curtTold ((curtRead r split s).failed.any (fun i => !s.curt.failed.contains i))
          ((List.range 8).any (fun p => (pairDiffer { curtRead r split s with disRun := s.curt.disRun } p).2))
          (curtRead r split s) s))) := by
  have hflip : curtFlip (fresh s) = fun _ => false := by
    funext n
    change (match s.fault.inj with | some j => j.checker == 0xB000 + n && j.mask.testBit 0 | none => false) = false
    rw [hinj]
  have hjudge : curtJudge (fresh s) s.curt (curtRead r split s) =
      (curtTrips s.curt (curtRead r split s), curtSplits s.curt (curtRead r split s), false) := by
    unfold curtJudge
    rw [show (fresh s).fault.underTest = none from htest]
    simp [curtTrips, curtSplits]
  have hcheck : ∀ c, curtCheck { fresh s with curt := c } = { fresh s with curt := c } := fun c => by
    unfold curtCheck
    rw [show ({ fresh s with curt := c } : State).fault.underTest = none from htest]
  change execCurtainRead r split s = _
  unfold execCurtainRead
  extract_lets s0 old new failed differ j s1 seen s2 s3 s4 s5
  have hnew : new = curtRead r split s :=
    congrArg (fun f => curtSense r split (curtThr s) (curtRestart s) f s.curt) hflip
  clear_value new
  subst hnew
  have hj : j = (curtTrips s.curt (curtRead r split s), curtSplits s.curt (curtRead r split s), false) := hjudge
  have hs1 : s1 = { s with out := [], curt := curtRead r split s } := hcheck _
  have hguard : (!s0.start.aoUp) = false := by rw [Bool.not_eq_false']; exact hao
  refine (if_neg (ne_true_of_eq_false hguard)).trans ?_
  clear_value j s1
  subst hj hs1
  have hs2 : s2 = { s with out := [], curt := curtRead r split s } := by
    change { s with
      out := [], curt := curtRead r split s, fault := { s.fault with curtInjSeen := s.fault.curtInjSeen || false } } = _
    rw [Bool.or_false]
  clear_value s2
  subst hs2
  rfl

/-- The lock of a read after its trip leaves the trip's record. -/
theorem curtLocked_after_trip (splits : List Nat) {s : State} (h : s.curt.tripped = true) :
    (curtLocked splits s).curt.tripped = true ∧ (curtLocked splits s).curt.tripPair = s.curt.tripPair ∧
      (curtLocked splits s).curt.trips = s.curt.trips ∧ (curtLocked splits s).curt.times = s.curt.times ∧
      (s.curt.lockout = true → (curtLocked splits s).curt.lockout = true) ∧
      (curtLocked splits s).core.app = s.core.app ∧ ∀ e ∈ s.out, e ∈ (curtLocked splits s).out := by
  unfold curtLocked
  cases splits.head? with
  | none => exact ⟨h, rfl, rfl, rfl, id, rfl, fun _ he => he⟩
  | some p =>
    dsimp only
    rw [curtTrip_again p h]
    obtain ⟨hlock, htrip, hpair, htrips, htimes, happ, hout⟩ := curtLock_locks 3 0x8004 s
    exact ⟨htrip.trans h, hpair, htrips, htimes, fun _ => hlock, happ, hout⟩

theorem curtLocked_splits {splits : List Nat} (s : State) (h : splits ≠ []) :
    (curtLocked splits s).curt.lockout = true ∧ (curtLocked splits s).curt.tripped = true := by
  obtain ⟨p, l, rfl⟩ := List.exists_cons_of_ne_nil h
  obtain ⟨hlock, htrip, -⟩ := curtLock_locks 3 0x8004 (curtTrip p s)
  exact ⟨hlock, htrip.trans (curtTrip_tripped p s)⟩

theorem fourthTrip_of_times {c : CurtSt} {a b d : Nat} (h : c.times.take 3 = [a, b, d])
    (hle : c.cyc ≤ d + 3600 * 27500000) : fourthTrip c = true := by
  have hdrop : (c.times.drop 2).take 1 = [d] := by
    rw [List.take_drop]
    exact congrArg (List.drop 2) h
  rw [fourthTrip, hdrop, List.any_cons, decide_eq_true (show c.cyc ≤ d + 3600 * curtHz from hle), Bool.true_or]

/-- A read in which the pair `p` trips a Curtain that had not tripped (R266, R269). -/
theorem curtainRead_trips {p : Nat} {l splits : List Nat} {failed differ : Bool} {old new : CurtSt} {s : State}
    (hrec : tripRecord new = tripRecord old) (hold : old.tripped = false) :
    let t := curtLocked splits (curtTripped (p :: l) (curtTold failed differ new s))
    t.curt.tripped = true ∧ t.curt.tripPair = p ∧
      t.curt.trips = (old.trips + 1) % 2 ^ 16 ∧ t.core.app.therm.state = 3 ∧ t.curt.times = (new.cyc :: old.times).take 4 ∧
      (∀ a b c, old.times.take 3 = [a, b, c] → new.cyc ≤ c + 3600 * 27500000 → t.curt.lockout = true) ∧
      .curtain true false ∈ t.out := by
  intro t
  obtain ⟨hnew, hrest⟩ := Prod.mk.injEq .. ▸ hrec
  obtain ⟨hcount, htimes⟩ := Prod.mk.injEq .. ▸ hrest
  have hcurt : (curtTold failed differ new s).curt = new := curtTold_curt failed differ new s
  have htrip : (curtTold failed differ new s).curt.tripped = false := by rw [hcurt]; exact hnew.trans hold
  obtain ⟨h1, h2, h3, h4, h5, h6, h7⟩ := curtTrip_trips p htrip
  obtain ⟨k1, k2, k3, k4, k5, k6, k7⟩ := curtLocked_after_trip splits h1
  rw [hcurt] at h3 h4 h5
  refine ⟨k1, k2.trans h2, (k3.trans h3).trans (by rw [hcount]), (congrArg (fun o : CoreOut => o.therm.state) k6).trans h6,
    (k4.trans h4).trans (by rw [htimes]), fun a b c habc hle => k5 ?_, k7 _ h7⟩
  rw [h5, fourthTrip_of_times (htimes ▸ habc) hle, Bool.or_true]

/-! ### The Curtain's release -/

theorem beginStart_frame (cold : Bool) (cause : Nat) (s : State) :
    ∃ st f, beginStart cold cause s = { s with start := st, fault := f } := by
  unfold beginStart
  extract_lets t
  split
  · exact ⟨_, _, rfl⟩
  · split <;> exact ⟨_, s.fault, rfl⟩

/-- What a warm start leaves alone (R305). -/
theorem warmStart_keeps (cause : Nat) (s : State) :
    (warmStart cause s).curt = s.curt ∧ (warmStart cause s).flash = s.flash ∧ (warmStart cause s).par = s.par ∧
      (warmStart cause s).pending = s.pending ∧ (warmStart cause s).out = s.out ++ holdLoads s := by
  obtain ⟨st, f, h⟩ := beginStart_frame false cause (resetTo false s)
  rw [warmStart, h]
  exact ⟨rfl, rfl, rfl, rfl, rfl⟩

/-- A start with both pins high and the supply up begins (R306). -/
theorem beginStart_begins {cold : Bool} {cause : Nat} {s : State} (hlock : s.curt.lockout = false)
    (hporst : s.start.porstLow = false) (hhrst : s.start.hrstLow = false) (hup : s.start.blkUp = true) :
    beginStart cold cause s = { s with start := { s.start with
      state := 1, causeCode := cause, curtPend := false, warm := !cold,
      starts := if cold then 0 else (s.start.starts + 1) % 2 ^ 16 } } := by
  have hpins : (s.start.porstLow || s.start.hrstLow || !s.start.blkUp) = false := by
    rw [hporst, hhrst, hup]
    rfl
  unfold beginStart
  extract_lets t
  rw [hlock, if_neg Bool.false_ne_true]
  exact if_neg (ne_true_of_eq_false hpins)

/-- The Curtain's release as far as the start that follows. -/
def curtReleased (s : State) : State :=
  emit (.curtain false true) { s with out := [], curt := { s.curt with tripped := false, coolFrom := none } }

theorem exec_curtainRelease_cooled {s : State} (hao : s.start.aoUp = true) (htrip : s.curt.tripped = true)
    (hlock : s.curt.lockout = false) (hcool : curtCooled s = true) :
    exec .curtainRelease s = .next (if s.start.blkUp then warmStart 2 (curtReleased s)
      else { curtReleased s with start := { s.start with causeCode := 2, curtPend := true } }) := by
  have hguard : (!(fresh s).start.aoUp || !(fresh s).curt.tripped || (fresh s).curt.lockout || !curtCooled (fresh s)) = false := by
    change (!s.start.aoUp || !s.curt.tripped || s.curt.lockout || !curtCooled s) = false
    rw [hao, htrip, hlock, hcool]
    rfl
  refine (if_neg (ne_true_of_eq_false hguard)).trans ?_
  cases hup : s.start.blkUp
  case true => exact if_pos hup
  case false => exact if_neg (ne_true_of_eq_false hup)

/-- Settles O37: a read (`exec_curtainRead_plain`, then what a trip and a lock leave), the rail-off frames and the release. -/
theorem curtainTrips : Obligations.CurtainTrips := by
  unfold Obligations.CurtainTrips
  refine ⟨?_, ?_, ?_⟩
  case refine_1 =>
    intro r split s hao hinj htest new trips bad
    refine ⟨_, exec_curtainRead_plain r split hao hinj htest, fun htrips hbad hfailed hdiffer => ?_,
      fun p l htrips hold => ?_, fun hbad => curtLocked_splits _ hbad⟩
    · have hf : (new.failed.any fun i => !s.curt.failed.contains i) = false := by
        simpa using hfailed
      have hd : ((List.range 8).any fun p => (pairDiffer { new with disRun := s.curt.disRun } p).2) = false := by
        simpa using hdiffer
      change curtLocked bad (curtTripped trips (curtTold (new.failed.any fun i => !s.curt.failed.contains i)
        ((List.range 8).any fun p => (pairDiffer { new with disRun := s.curt.disRun } p).2) new s)) = _
      rw [htrips, hbad, hf, hd]
      exact curtTold_nothing new s
    · have hrec : tripRecord new = tripRecord s.curt := curtSense_tripRecord ..
      have htrip : curtTrips s.curt (curtRead r split s) = p :: l := htrips
      rw [htrip]
      exact curtainRead_trips hrec hold
  case refine_2 =>
    intro s hstand hclk
    have hguard : (((fresh s).curt.tripped || (fresh s).curt.lockout) && clocked (fresh s)) = true := by
      rw [Bool.and_eq_true, Bool.or_eq_true]
      exact ⟨hstand, hclk⟩
    exact if_pos hguard
  case refine_3 =>
    intro s hao htrip hlock hcool
    refine ⟨_, exec_curtainRelease_cooled hao htrip hlock hcool, ?_⟩
    cases hup : s.start.blkUp
    case false =>
      rw [if_neg Bool.false_ne_true]
      exact ⟨rfl, hlock, rfl, rfl, List.mem_singleton.2 rfl, fun h => absurd h Bool.false_ne_true⟩
    case true =>
      rw [if_pos rfl]
      obtain ⟨hcurt, hflash, hpar, -, hout⟩ := warmStart_keeps 2 (curtReleased s)
      refine ⟨by rw [hcurt]; rfl, by rw [hcurt]; exact hlock, hflash, hpar, ?_, fun _ hporst hhrst => ?_⟩
      · rw [hout]
        exact List.mem_append_left _ (List.mem_singleton.2 rfl)
      · have hbegin : warmStart 2 (curtReleased s) = _ :=
          beginStart_begins (s := resetTo false (curtReleased s)) hlock hporst hhrst hup
        rw [hbegin]
        exact ⟨rfl, rfl⟩

end Sys2Proof.Machine
end

section
/-! R276 to R292, R298: the messages of the Die Budget Port, the roles of a package and its silences. -/

namespace Sys2Proof.Machine

open Sys2Proof

/-! ### Messages of the Die Budget Port -/

theorem sawLeader_eq (src : Nat) (s : State) : sawLeader src s =
    { s with pkg := { s.pkg with smSeen := if src = s.pkg.smId then s.time.up else s.pkg.smSeen } } := by
  unfold sawLeader
  split <;> rfl

theorem dbpTakes_of {s : State} (hclk : clocked s = true) (hvalid : s.pb.valid = true) : dbpTakes s = true := by
  rw [dbpTakes, hclk, hvalid]
  rfl

theorem termSee_latched {t : Nat} {s : State} (hheard : s.pkg.heard = true) (ht : t = s.pkg.term) :
    termSee t s = some s := by
  unfold termSee
  extract_lets take
  rw [hheard, Bool.not_true, Bool.false_and, if_neg Bool.false_ne_true, if_pos ht, ← hheard]

theorem termSee_older {t : Nat} {s : State} (hheard : s.pkg.heard = true) (ht : t ≠ s.pkg.term)
    (hold : termNewer s.pkg.term t = false) : termSee t s = none := by
  unfold termSee
  extract_lets take
  rw [hheard, Bool.not_true, Bool.false_and, if_neg Bool.false_ne_true, if_neg ht, hold]
  exact if_neg Bool.false_ne_true

section
variable (src dst role w : Nat) {s : State} (htakes : dbpTakes (fresh s) = true)
include htakes

theorem exec_dbpReport_other (hsrc : src ≠ s.pb.pkg.dieId) :
    exec (.dbpReport src dst role w) s = .next (sawLeader src (putDie src { tget dieRec0 src s.pkg.dies with
      seen := some s.time.up, rptUp := some s.time.up, rptK := some (seqSample s.time.k (bits w 47 40)),
      power := 500 * bits w 39 27, demand := 500 * bits w 26 14, applied := 500 * bits w 13 1,
      cu := w.testBit 0 } (arrived (srcDie src) (fresh s)))) := by
  have hguard : (!dbpTakes (fresh s) || src == ownId (fresh s)) = false := by
    rw [htakes, show (src == ownId (fresh s)) = false from beq_eq_false_iff_ne.2 hsrc]
    rfl
  exact if_neg (ne_true_of_eq_false hguard)

theorem dbpTakes_guard : ¬ (!dbpTakes (fresh s)) = true := by
  rw [htakes]
  decide

theorem exec_dbpJoin_other (hsrc : src ≠ s.pb.pkg.dieId) :
    exec (.dbpJoin src dst role w) s = .next (putDie src { tget dieRec0 src s.pkg.dies with
      seen := some s.time.up, build := bits w 39 37, floor := 500 * bits w 33 21, ceil := 500 * bits w 20 8,
      minor := bits w 7 0, left := false, departed := false } (arrived (srcDie src) (fresh s))) :=
  (if_neg (dbpTakes_guard htakes)).trans (if_neg hsrc)

theorem exec_dbpJoin_own (hsrc : src = s.pb.pkg.dieId) :
    exec (.dbpJoin src dst role w) s =
      .next (setRole 0 (report 0xA001 0 { s with out := [], pkg := { s.pkg with dup := true } })) :=
  (if_neg (dbpTakes_guard htakes)).trans (if_pos hsrc)

theorem exec_dbpSlack_taken : exec (.dbpSlack src dst role w) s = .next (putDie src
    { tget dieRec0 src s.pkg.dies with slack := bits w 39 24 } (arrived (srcDie src) (fresh s))) :=
  if_neg (dbpTakes_guard htakes)

theorem exec_dbpLeave_taken : exec (.dbpLeave src dst role w) s = .next (
    let f := 500 * bits w 39 27
    let u := putDie src { tget dieRec0 src s.pkg.dies with left := true, floor := f, applied := f }
      (arrived (srcDie src) (fresh s))
    { u with pkg := { u.pkg with led := { s.pkg.led with
      sent := tset [] src [] s.pkg.led.sent, a := tset 0 src (min f (tget 0 src s.pkg.led.a)) s.pkg.led.a } } }) :=
  if_neg (dbpTakes_guard htakes)

/-- An ALLOC of the TERM that has been latched (R277, R286). -/
theorem exec_dbpAlloc_latched (hheard : s.pkg.heard = true) (hterm : bits w 39 32 = s.pkg.term) :
    exec (.dbpAlloc src dst role w) s = (
      let x := sawLeader src (arrived (srcDie src) (fresh s))
      let c := some (500 * bits w 31 19, w.testBit 18, bits w 17 10)
      if dst ≠ s.pb.pkg.dieId ∧ dst ≠ 31 then .next x
      else if bits w 47 40 ≠ s.time.k % 256 then .next { x with pkg := { x.pkg with late := (x.pkg.late + 1) % 256 } }
      else if role = 2 then .next { arrived srcAlloc x with pkg := { x.pkg with smCopy := c } }
      else if role = 1 then .next { arrived srcAlloc x with pkg := { x.pkg with usCopy := c } }
      else .next x) := by
  change execDbpAlloc src dst role w s = _
  unfold execDbpAlloc
  extract_lets s0
  rw [if_neg (dbpTakes_guard htakes), termSee_latched (s := s0) hheard hterm]
  rfl

theorem exec_dbpRoles_latched (hheard : s.pkg.heard = true) (hterm : bits w 39 32 = s.pkg.term) :
    exec (.dbpRoles src dst role w) s = .next (setRole
      (if bits w 31 27 = s.pb.pkg.dieId ∧ s.pkg.role = 2 then 2
        else if bits w 26 22 = s.pb.pkg.dieId ∧ !s.pkg.dup then 1 else 0)
      { arrived (srcDie src) (fresh s) with pkg := { s.pkg with
        smId := bits w 31 27, usId := bits w 26 22,
        smSeen := if bits w 31 27 = s.pkg.smId then s.pkg.smSeen else s.time.up } }) := by
  change execDbpRoles src dst role w s = _
  unfold execDbpRoles
  extract_lets s0
  rw [if_neg (dbpTakes_guard htakes), termSee_latched (s := s0) hheard hterm]
  rfl

theorem exec_dbpAlloc_older (hheard : s.pkg.heard = true) (hterm : bits w 39 32 ≠ s.pkg.term)
    (hold : termNewer s.pkg.term (bits w 39 32) = false) :
    exec (.dbpAlloc src dst role w) s = .next { s with out := [], pkg := { s.pkg with bad := (s.pkg.bad + 1) % 256 } } := by
  change execDbpAlloc src dst role w s = _
  unfold execDbpAlloc
  extract_lets s0
  rw [if_neg (dbpTakes_guard htakes), termSee_older (s := s0) hheard hterm hold]
  rfl

theorem exec_dbpRoles_older (hheard : s.pkg.heard = true) (hterm : bits w 39 32 ≠ s.pkg.term)
    (hold : termNewer s.pkg.term (bits w 39 32) = false) :
    exec (.dbpRoles src dst role w) s = .next { s with out := [], pkg := { s.pkg with bad := (s.pkg.bad + 1) % 256 } } := by
  change execDbpRoles src dst role w s = _
  unfold execDbpRoles
  extract_lets s0
  rw [if_neg (dbpTakes_guard htakes), termSee_older (s := s0) hheard hterm hold]
  rfl

end

/-- Settles O38: each message by its `exec` lemma; ALLOC and ROLES by the TERM that `termSee` has latched. -/
theorem packageMessages : Obligations.PackageMessages := by
  unfold Obligations.PackageMessages
  intro src dst role w s hclk hvalid field own d rec_ seen aged
  have htakes : dbpTakes (fresh s) = true := dbpTakes_of (s := fresh s) hclk hvalid
  have hfield : field = bits w := funext fun hi => funext fun lo => (bits_eq w hi lo).symm
  clear_value field
  subst hfield
  refine ⟨fun hsrc => ?_, fun hsrc => ?_, fun hsrc => ?_, ?_, ?_, fun hheard hterm => ?_, fun hheard hterm hold => ?_, ?_⟩
  · rw [exec_dbpReport_other src dst role w htakes hsrc, sawLeader_eq]
    rfl
  · exact exec_dbpJoin_other src dst role w htakes hsrc
  · exact exec_dbpJoin_own src dst role w htakes hsrc
  · exact exec_dbpSlack_taken src dst role w htakes
  · exact exec_dbpLeave_taken src dst role w htakes
  · intro u c given copied
    have halloc := exec_dbpAlloc_latched src dst role w htakes hheard hterm
    rw [sawLeader_eq] at halloc
    refine ⟨fun hdst hseq => ⟨fun hrole => ?_, fun hrole => ?_⟩, fun hdst hseq => ?_, ?_⟩
    · exact halloc.trans ((if_neg fun h => hdst.elim h.1 h.2).trans ((if_neg fun h => h hseq).trans (if_pos hrole)))
    · exact halloc.trans ((if_neg fun h => hdst.elim h.1 h.2).trans ((if_neg fun h => h hseq).trans
        ((if_neg (by omega)).trans (if_pos hrole))))
    · exact halloc.trans ((if_neg fun h => hdst.elim h.1 h.2).trans (if_pos hseq))
    · rw [exec_dbpRoles_latched src dst role w htakes hheard hterm]
      simp only [Bool.not_eq_eq_eq_not, Bool.not_true]
      rfl
  · exact ⟨exec_dbpAlloc_older src dst role w htakes hheard hterm hold,
      exec_dbpRoles_older src dst role w htakes hheard hterm hold⟩
  · have hguard : (!clocked (fresh s)) = false := by rw [Bool.not_eq_false']; exact hclk
    exact if_neg (ne_true_of_eq_false hguard)

/-! ### Roles and silence -/

section
variable {s : State} (hclk : clocked s = true)
include hclk

theorem not_clocked_fresh : (!clocked (fresh s)) = false := by
  rw [Bool.not_eq_false']
  exact hclk

section
variable (hjoined : s.pkg.joined = false) (hlive : s.start.live = true) (hdue : s.pkg.liveUp + 200 ≤ s.time.up)
include hjoined hlive hdue

theorem joinPhaseEnd_guard : ¬ ((fresh s).pkg.joined || !(fresh s).start.live || !clocked (fresh s) ||
    decide ((fresh s).time.up < (fresh s).pkg.liveUp + 200)) = true := by
  have hlate : decide ((fresh s).time.up < (fresh s).pkg.liveUp + 200) = false := decide_eq_false (Nat.not_lt.2 hdue)
  rw [show (fresh s).pkg.joined = false from hjoined, show (fresh s).start.live = true from hlive,
    not_clocked_fresh hclk, hlate]
  decide

theorem exec_joinPhaseEnd_heard (hheard : s.pkg.heard = true) :
    exec .joinPhaseEnd s = .next (setRole 0 { s with out := [], pkg := { s.pkg with
      joined := true, copyUp := s.time.up, rptUp := s.time.up, smSeen := s.time.up } }) :=
  (if_neg (joinPhaseEnd_guard hclk hjoined hlive hdue)).trans (if_pos hheard)

/-- The first election (R279). -/
theorem exec_joinPhaseEnd_elects (hheard : s.pkg.heard = false) :
    exec .joinPhaseEnd s = .next (setRole
      (if (eligibles s).headD 31 = s.pb.pkg.dieId then 2
        else if understudyOf s ((eligibles s).headD 31) = s.pb.pkg.dieId then 1 else 0)
      { s with out := [], pkg := { s.pkg with
        joined := true, copyUp := s.time.up, rptUp := s.time.up, smSeen := s.time.up, heard := true, term := 1,
        smId := (eligibles s).headD 31, usId := understudyOf s ((eligibles s).headD 31),
        rolesDue := (eligibles s).headD 31 == s.pb.pkg.dieId } }) :=
  (if_neg (joinPhaseEnd_guard hclk hjoined hlive hdue)).trans (if_neg (ne_true_of_eq_false hheard))

end

theorem exec_takeover_due (hrole : s.pkg.role = 1) (hdue : s.pkg.smSeen + 50 ≤ s.time.up) :
    exec .takeover s = .next (report 0xA003 (((s.pkg.term + 1) % 256 : Nat) : Int) (setRole 2 { s with
      out := [],
      pkg := { s.pkg with
        term := (s.pkg.term + 1) % 256, smId := s.pb.pkg.dieId,
        usId := ((eligibles s).filter (fun x => x != s.pb.pkg.dieId && x != s.pkg.smId)).headD 31, rolesDue := true,
        takeovers := (s.pkg.takeovers + 1) % 256, barred := some s.time.k,
        led := { s.pkg.led with sent := [], since := [], stay := [] } } })) := by
  refine if_neg ?_
  rintro (h | h | h)
  · exact h hrole
  · exact Nat.not_lt.2 hdue h
  · exact Bool.false_ne_true (h.symm.trans hclk)

theorem exec_memberSilence_due (hjoined : s.pkg.joined = true) (hsilence : s.pkg.silence = 0)
    (hdue : s.pkg.copyUp + 50 ≤ s.time.up ∨ s.pkg.rptUp + 50 ≤ s.time.up) :
    exec .memberSilence s = .next (raise 9 1 { s with out := [], pkg := { s.pkg with
      silence := 1, silentUp := s.time.up, heldAlloc := s.pkg.alloc.getD 0 } }) := by
  have hnot : decide ((fresh s).time.up < (fresh s).pkg.copyUp + 50 ∧ (fresh s).time.up < (fresh s).pkg.rptUp + 50) = false :=
    decide_eq_false fun h => by
      obtain ⟨h1, h2⟩ : s.time.up < s.pkg.copyUp + 50 ∧ s.time.up < s.pkg.rptUp + 50 := h
      omega
  have hguard : (!(fresh s).pkg.joined || (fresh s).pkg.silence != 0 || !clocked (fresh s) ||
      decide ((fresh s).time.up < (fresh s).pkg.copyUp + 50 ∧ (fresh s).time.up < (fresh s).pkg.rptUp + 50)) = false := by
    rw [show (fresh s).pkg.joined = true from hjoined, show (fresh s).pkg.silence = 0 from hsilence, not_clocked_fresh hclk,
      hnot]
    rfl
  exact if_neg (ne_true_of_eq_false hguard)

end

theorem exec_dieSilence_silent {j u : Nat} {s : State} (hrole : s.pkg.role = 2)
    (hrpt : (tget dieRec0 j s.pkg.dies).rptUp = some u) (hdue : u + 50 ≤ s.time.up) (hheld : tlook j s.pkg.led.held = none) :
    exec (.dieSilence j) s = .next { s with out := [], pkg := { s.pkg with led := { s.pkg.led with
      held := tins j (tget 0 j s.pkg.led.h) s.pkg.led.held } } } := by
  change execDieSilence j s = _
  unfold execDieSilence
  extract_lets s0 d silent
  have hsilent : silent = true := by
    change (match (tget dieRec0 j s.pkg.dies).rptUp with | some u => decide (u + 50 ≤ s.time.up) | none => false) = true
    rw [hrpt]
    exact decide_eq_true hdue
  have hnone : (tlook j s0.pkg.led.held).isNone = true := Option.isNone_iff_eq_none.2 hheld
  exact if_pos ⟨hrole, hsilent, hnone⟩

theorem exec_donorTimeout_due {j u : Nat} {s : State} (hrole : s.pkg.role = 2) (hsince : tlook j s.pkg.led.since = some u)
    (hdue : u + bits (areg s 0x901C) 31 16 ≤ s.time.up) :
    exec (.donorTimeout j) s = .next (report 0xA004 0 { s with out := [], pkg := { s.pkg with
      donorTimeouts := (s.pkg.donorTimeouts + 1) % 256,
      led := { s.pkg.led with stay := s.pkg.led.stay ++ [j], since := terase j s.pkg.led.since } } }) := by
  change execDonorTimeout j s = _
  unfold execDonorTimeout
  extract_lets s0
  rw [show tlook j s0.pkg.led.since = some u from hsince]
  refine if_neg ?_
  rintro (h | h)
  · exact h hrole
  · exact Nat.not_lt.2 hdue h

theorem length_leBytes (n v : Nat) : (leBytes n v).length = n := by
  induction n generalizing v with
  | zero => rfl
  | succ n ih => exact congrArg (· + 1) (ih (v / 256))

theorem length_escData (scope : Nat) (y : Tab Nat) (l2 l3 : Nat) : (escData scope y l2 l3).length = 17 := by
  simp only [escData, List.length_append, List.length_cons, length_leBytes]

theorem exec_pkgEscRepeat_due {s : State} (hrun : running s = true) (hesc : s.core.app.ledger.esc = true)
    (hrole : s.pkg.role = 2) (hdue : s.pkg.led.escUp + 1000 ≤ s.time.up) :
    exec .pkgEscRepeat s = .next (pkgEscAlert (fresh s)) := by
  refine if_pos ?_
  rw [show running (fresh s) = true from hrun, show (fresh s).core.app.ledger.esc = true from hesc,
    show (fresh s).pkg.role = 2 from hrole, decide_eq_true (show (fresh s).pkg.led.escUp + 1000 ≤ (fresh s).time.up from hdue)]
  rfl

/-- Settles O39: the first election, the takeover, the silences, a donor's timeout and the alert, each by its `exec` lemma. -/
theorem packageTimers : Obligations.PackageTimers := by
  unfold Obligations.PackageTimers
  intro s hclk own given
  refine ⟨fun hjoined hlive hdue => ⟨fun hheard => ?_, fun hheard => ?_⟩, fun hrole hdue => ?_, fun hjoined hsil hdue => ?_,
    fun j u hrole hrpt hdue hheld => ?_, fun j u hrole hsince hdue => ?_, fun hrun hesc hrole hdue => ?_⟩
  · exact exec_joinPhaseEnd_heard hclk hjoined hlive hdue hheard
  · exact exec_joinPhaseEnd_elects hclk hjoined hlive hdue hheard
  · exact exec_takeover_due hclk hrole hdue
  · exact exec_memberSilence_due hclk hjoined hsil hdue
  · exact exec_dieSilence_silent hrole hrpt hdue hheld
  · refine exec_donorTimeout_due hrole hsince ?_
    rw [bits_eq]
    exact hdue
  · exact ⟨_, length_escData .., rfl, exec_pkgEscRepeat_due hrun hesc hrole hdue⟩

end Sys2Proof.Machine
end

section
/-! R291 to R299, R420: the Zilter messages. -/

namespace Sys2Proof.Machine

open Sys2Proof

/-! ### Fields of a payload -/

/-- The word of a payload that starts at byte `i`, low byte first. -/
def payloadWord (b : List Nat) (i : Nat) : Nat :=
  b.getD i 0 % 256 + 256 * (b.getD (i + 1) 0 % 256) + 65536 * (b.getD (i + 2) 0 % 256) +
    16777216 * (b.getD (i + 3) 0 % 256)

/-- The half word of a payload that starts at byte `i`. -/
def payloadHalf (b : List Nat) (i : Nat) : Nat := b.getD i 0 % 256 + 256 * (b.getD (i + 1) 0 % 256)

theorem drop_eq_getD_cons {b : List Nat} {i : Nat} (h : i < b.length) : b.drop i = b.getD i 0 :: b.drop (i + 1) := by
  rw [List.drop_eq_getElem_cons h, List.getD_eq_getElem?_getD, List.getElem?_eq_getElem h, Option.getD_some]

section
variable {b : List Nat} (hlen : 44 ≤ b.length)
include hlen

theorem zltField_word (i : Nat) (hi : i ≤ 40) : zltField b (16 + i) 4 = payloadWord b i := by
  rw [zltField, Nat.add_sub_cancel_left, drop_eq_getD_cons (by omega), drop_eq_getD_cons (by omega),
    drop_eq_getD_cons (by omega), drop_eq_getD_cons (by omega)]
  simp only [List.take_succ_cons, List.take_zero, fromLe, payloadWord, Nat.add_assoc, Nat.reduceAdd]
  omega

theorem zltField_half (i : Nat) (hi : i ≤ 40) : zltField b (16 + i) 2 = payloadHalf b i := by
  rw [zltField, Nat.add_sub_cancel_left, drop_eq_getD_cons (by omega), drop_eq_getD_cons (by omega)]
  simp only [List.take_succ_cons, List.take_zero, fromLe, payloadHalf]
  omega

theorem zltField_byte (i : Nat) (hi : i ≤ 40) : zltField b (16 + i) 1 = b.getD i 0 % 256 := by
  rw [zltField, Nat.add_sub_cancel_left, drop_eq_getD_cons (by omega)]
  simp only [List.take_succ_cons, List.take_zero, fromLe]
  omega

end

theorem testBit_mod_256 (x : Nat) {i : Nat} (hi : i < 8) : (x % 256).testBit i = x.testBit i := by
  rw [show 256 = 2 ^ 8 by rfl, Nat.testBit_mod_two_pow, decide_eq_true hi, Bool.true_and]

/-! ### Messages of children and of the parent -/

section
variable {src dst seq term : Nat} {b : List Nat} {s : State}

section
variable (hnone : ∀ c ∈ s.zilt.children, c.id ≠ src)
include hnone

theorem childOf_none : childOf s src = none := by
  refine List.find?_eq_none.2 fun c hc => ?_
  rw [decide_eq_false (hnone c hc)]
  exact Bool.false_ne_true

theorem exec_zltReport_unknown : exec (.zltReport src dst seq term b) s = .next { s with out := [] } := by
  change execZltReport src dst seq term b s = _
  unfold execZltReport
  extract_lets s0
  rw [show childOf s0 src = none from childOf_none hnone]
  rfl

theorem exec_zltLeave_unknown : exec (.zltLeave src dst seq term b) s = .next { s with out := [] } := by
  change execZltLeave src dst seq term b s = _
  unfold execZltLeave
  extract_lets s0
  rw [show childOf s0 src = none from childOf_none hnone]
  rfl

end

theorem zltTakes_of (hclk : clocked s = true) (hplaced : s.zilt.placed = true) (hrole : 1 ≤ s.pkg.role)
    (hdst : dst = s.zilt.id) : zltTakes s dst = true := by
  rw [zltTakes, hclk, hplaced, decide_eq_true hrole, hdst, beq_self_eq_true]
  rfl

theorem childTerm_of {c : Child} (h : term = c.term ∨ termNewer c.term term = true) : childTerm c term = true := by
  rw [childTerm, Bool.or_eq_true, beq_iff_eq]
  exact h

theorem exec_zltJoin_stale {c : Child} (hc : s.zilt.children.find? (fun x => x.id = src) = some c)
    (hterm : childTerm c term = false) :
    exec (.zltJoin src dst seq term b) s = .next { s with out := [] } := by
  change execZltJoin src dst seq term b s = _
  unfold execZltJoin
  extract_lets s0 old stale
  have hold : old = some c := hc
  clear_value old
  subst hold
  have hstale : stale = true := by
    change (!childTerm c term) = true
    rw [hterm]
    rfl
  rw [hstale, Bool.or_true]
  rfl

/-- A change of the child that a message comes from, and of its age. -/
def childHeard (src : Nat) (f : Child → Child) (s : State) : State :=
  modChild src f (arrived (srcChild src) (fresh s))

variable (htakes : zltTakes (fresh s) dst = true)
include htakes

theorem childMessage_guard {c : Child} (hterm : childTerm c term = true) :
    ¬ (!zltTakes (fresh s) dst || !childTerm c term) = true := by
  rw [htakes, hterm]
  decide

section
variable {c : Child} (hc : s.zilt.children.find? (fun x => x.id = src) = some c) (hterm : childTerm c term = true)
include hc hterm

theorem exec_zltReport_taken : exec (.zltReport src dst seq term b) s = .next (childHeard src (fun c => { c with
    term := term, power := zltField b 16 4, demand := zltField b 20 4, floor := zltField b 24 4, ceil := zltField b 28 4,
    applied := zltField b 32 4, slack := zltField b 36 2, pkgs := zltField b 38 2, laggards := zltField b 40 2,
    seq := seq, rptUp := s.time.up, silent := false, sent := c.sent.filter (fun x => decide (seq < x.1)) }) s) := by
  change execZltReport src dst seq term b s = _
  unfold execZltReport
  extract_lets s0
  rw [show childOf s0 src = some c from hc]
  exact if_neg (childMessage_guard htakes hterm)

theorem exec_zltLeave_taken : exec (.zltLeave src dst seq term b) s = .next (zltSend 5 src
    (leBytes 4 (c.h - zltField b 16 4)) (childHeard src (fun c => { c with
      term := term, left := true, floor := zltField b 16 4, applied := zltField b 16 4, a := min c.a (zltField b 16 4),
      h := min c.h (zltField b 16 4), sent := [], seq := seq, rptUp := s.time.up }) s)) := by
  change execZltLeave src dst seq term b s = _
  unfold execZltLeave
  extract_lets s0
  rw [show childOf s0 src = some c from hc]
  exact if_neg (childMessage_guard htakes hterm)

end

/-- The child as a JOIN leaves it (R299). -/
def childJoined (src seq term : Nat) (b : List Nat) (up : Nat) (c : Child) : Child :=
  { c with
    id := src, term := term, floor := zltField b 16 4, ceil := zltField b 20 4, pkgs := zltField b 24 2, seq := seq,
    rptUp := up, left := false, silent := false }

section
variable (hsrc : src ≠ s.zilt.id)
include hsrc

theorem exec_zltJoin_unknown (hnone : childOf s src = none) :
    exec (.zltJoin src dst seq term b) s = .next (putChildren (childInsert
      (childJoined src seq term b s.time.up { child0 with wait := true }) s.zilt.children)
      (arrived (srcChild src) (fresh s))) := by
  change execZltJoin src dst seq term b s = _
  unfold execZltJoin
  extract_lets s0 old stale
  have hold : old = none := hnone
  clear_value old
  subst hold
  rw [show zltTakes s0 dst = true from htakes, show (src == s0.zilt.id) = false from beq_eq_false_iff_ne.2 hsrc]
  rfl

section
variable {c : Child} (hc : s.zilt.children.find? (fun x => x.id = src) = some c)
include hc

theorem exec_zltJoin_known (hterm : childTerm c term = true) :
    exec (.zltJoin src dst seq term b) s = .next (putChildren (childInsert (childJoined src seq term b s.time.up c)
      s.zilt.children) (arrived (srcChild src) (fresh s))) := by
  change execZltJoin src dst seq term b s = _
  unfold execZltJoin
  extract_lets s0 old stale
  have hold : old = some c := hc
  clear_value old
  subst hold
  have hstale : stale = false := by
    change (!childTerm c term) = false
    rw [hterm]
    rfl
  rw [show zltTakes s0 dst = true from htakes, show (src == s0.zilt.id) = false from beq_eq_false_iff_ne.2 hsrc, hstale]
  rfl

end
end

section
variable (hsrc : src = s.zilt.parent)
include hsrc

theorem exec_zltLeaveAck_leaving (hleaving : s.zilt.leaving = 2) :
    exec (.zltLeaveAck src dst seq term b) s = .next { s with out := [], zilt := { s.zilt with leaving := 3 } } := by
  refine if_pos ?_
  rw [htakes, show (src == (fresh s).zilt.parent) = true from beq_iff_eq.2 hsrc,
    show (fresh s).zilt.leaving = 2 from hleaving]
  rfl

/-- An ALLOC of the parent (R291, R296). -/
theorem exec_zltAlloc_taken (hlevel : s.zilt.level ≠ 0)
    (hterm : ∀ t, s.zilt.parentTerm = some t → term = t ∨ termNewer t term = true) :
    exec (.zltAlloc src dst seq term b) s = .next (
      let f := zltField b 16 4
      let r := zltField b 24 4
      let up := if r = s.zilt.lastRpt then s.zilt.rptUp else s.time.up
      { arrived srcFleet (fresh s) with zilt := { s.zilt with
        f := some f, fWait := (zltField b 20 1).testBit 0, lagHold := (zltField b 20 1).testBit 1, parentTerm := some term,
        silence := if up + 300 ≤ s.time.up then s.zilt.silence else 0,
        heldF := if up + 300 ≤ s.time.up then f else s.zilt.heldF,
        allocUp := s.time.up, rptUp := up, lastRpt := r, lastAlloc := seq } }) := by
  change execZltAlloc src dst seq term b s = _
  unfold execZltAlloc
  extract_lets s0 z ok r fl f up stuck
  have hok : ok = true := by
    change (match s.zilt.parentTerm with | some t => term == t || termNewer t term | none => true) = true
    cases ht : s.zilt.parentTerm with
    | none => rfl
    | some t =>
      rw [Bool.or_eq_true, beq_iff_eq]
      exact hterm t ht
  have hguard : (!zltTakes s0 dst || src != z.parent || z.level == 0 || !ok) = false := by
    rw [show zltTakes s0 dst = true from htakes, show (src != z.parent) = false from bne_eq_false_iff_eq.2 hsrc,
      show (z.level == 0) = false from beq_eq_false_iff_ne.2 hlevel, hok]
    rfl
  refine (if_neg (ne_true_of_eq_false hguard)).trans ?_
  simp only [stuck, decide_eq_true_eq]
  rfl

end
end

/-! ### The children of a parent -/

theorem mem_insertBy {α : Type} (le : α → α → Bool) (x c : α) (l : List α) : c ∈ insertBy le x l ↔ c ∈ l ∨ c = x := by
  induction l with
  | nil => exact List.mem_singleton.trans (or_iff_right List.not_mem_nil).symm
  | cons y r ih =>
    unfold insertBy
    split
    · exact List.mem_cons.trans or_comm
    · rw [List.mem_cons, List.mem_cons, ih, or_assoc]

theorem mem_childInsert_new {x c : Child} {l : List Child} (hnew : ∀ d ∈ l, d.id ≠ x.id) (hlen : l.length < 128) :
    c ∈ childInsert x l ↔ c ∈ l ∨ c = x := by
  have hany : (l.any fun d => d.id = x.id) = false := List.any_eq_false.2 fun d hd => by
    rw [decide_eq_false (hnew d hd)]
    exact Bool.false_ne_true
  rw [childInsert, hany, if_neg Bool.false_ne_true, if_neg (Nat.not_le.2 hlen)]
  exact mem_insertBy ..

theorem childInsert_known {x d : Child} {l : List Child} (hd : l.find? (fun y => y.id = x.id) = some d) :
    childInsert x l = l.map (fun y => if y.id = x.id then x else y) := by
  have hid : decide (d.id = x.id) = true := List.find?_some (p := fun y : Child => decide (y.id = x.id)) hd
  exact if_pos (List.any_eq_true.2 ⟨d, List.mem_of_find?_eq_some hd, hid⟩)

theorem leaveAck_payload (n : Nat) : (leBytes 4 n ++ List.replicate 44 0).take 44 = leBytes 4 n ++ List.replicate 40 0 := by
  rw [List.take_append, length_leBytes, List.take_of_length_le (by rw [length_leBytes]; decide), List.take_replicate]
  rfl

/-- Settles O40: each message by its `exec` lemma, its fields by `zltField_word`, `zltField_half` and `zltField_byte`. -/
theorem zilterMessages : Obligations.ZilterMessages := by
  unfold Obligations.ZilterMessages
  refine ⟨?_, ?_⟩
  case refine_1 =>
    intro src dst seq term b s hclk hplaced hrole hdst le4 le2 aged kids
    have htakes : zltTakes (fresh s) dst = true := zltTakes_of (s := fresh s) hclk hplaced hrole hdst
    have hw : 44 ≤ b.length → ∀ i ≤ 40, zltField b (16 + i) 4 = le4 i := fun hlen => zltField_word hlen
    have hh : 44 ≤ b.length → ∀ i ≤ 40, zltField b (16 + i) 2 = le2 i := fun hlen => zltField_half hlen
    refine ⟨fun hnone => ⟨exec_zltReport_unknown hnone, exec_zltLeave_unknown hnone⟩, fun c hc hterm hlen => ⟨?_, fun hsm => ?_⟩,
      fun hsrc hlevel hterm hlen => ?_, fun hsrc hnone hroom hlen => ?_, fun c hsrc hc hlen => ⟨fun hterm => ?_, fun hne hold => ?_⟩,
      fun hsrc hleaving => exec_zltLeaveAck_leaving htakes hsrc hleaving⟩
    · rw [exec_zltReport_taken htakes hc (childTerm_of hterm), hw hlen 0 (by decide), hw hlen 4 (by decide),
        hw hlen 8 (by decide), hw hlen 12 (by decide), hw hlen 16 (by decide), hh hlen 20 (by decide),
        hh hlen 22 (by decide), hh hlen 24 (by decide)]
      rfl
    · rw [exec_zltLeave_taken htakes hc (childTerm_of hterm), hw hlen 0 (by decide), ← leaveAck_payload]
      exact congrArg Host.Outcome.next (if_pos hsm)
    · intro stuck
      rw [exec_zltAlloc_taken htakes hsrc hlevel hterm, hw hlen 0 (by decide), hw hlen 8 (by decide),
        zltField_byte hlen 4 (by decide), testBit_mod_256 _ (by decide), testBit_mod_256 _ (by decide)]
      have hstuck : ((if le4 8 = s.zilt.lastRpt then s.zilt.rptUp else s.time.up) + 300 ≤ s.time.up) = stuck := by
        by_cases hr : le4 8 = s.zilt.lastRpt
        · simp [stuck, hr]
        · simp [stuck, hr]
      simp only [hstuck]
      rfl
    · refine ⟨_, exec_zltJoin_unknown htakes hsrc (childOf_none hnone), fun c => ?_⟩
      rw [childJoined, hw hlen 0 (by decide), hw hlen 4 (by decide), hh hlen 8 (by decide)]
      exact mem_childInsert_new hnone hroom
    · rw [exec_zltJoin_known htakes hsrc hc (childTerm_of hterm), childInsert_known hc, childJoined, hw hlen 0 (by decide),
        hw hlen 4 (by decide), hh hlen 8 (by decide)]
      rfl
    · refine exec_zltJoin_stale hc ?_
      rw [childTerm, hold, Bool.or_false, beq_eq_false_iff_ne]
      exact hne
  case refine_2 =>
    intro s hclk
    have hgo : (!clocked (fresh s)) = false := not_clocked_fresh hclk
    have hneg : ¬ (!clocked (fresh s)) = true := ne_true_of_eq_false hgo
    exact ⟨if_neg hneg, if_neg hneg, if_neg hneg⟩

end Sys2Proof.Machine
end

section
/-! R301, R302, R415, R416: the management commands at and out of their turn, their judgement, and what is answered at once. -/

namespace Sys2Proof.Machine

open Sys2Proof

/-! ### A sequenced command at its turn -/

theorem seqDist_self (seq : Nat) : seqDist seq seq = 0 := by
  rw [seqDist, Nat.add_sub_cancel_left, Nat.mod_self]

theorem mgmtSeq_running {code seq : Nat} {a : List Int} {s : State} (hrun : running s = true) :
    mgmtSeq code seq a s = .next (mgmtTake (seq % 2 ^ 32) code a (fresh s)) := by
  obtain ⟨halive, hhold, -, -⟩ := running_facts hrun
  unfold mgmtSeq
  extract_lets s0
  rw [show rpAlive s0 = true from halive, show holdOut s0 = false from hhold]
  rfl

theorem mgmtTake_turn {q code : Nat} {a : List Int} {s : State} (hnext : s.mgmt.next = none ∨ s.mgmt.next = some q) :
    mgmtTake q code a s = mgmtDrain (mgmtRun true q code a (arrived srcMgmt s)).mgmt.held.length
      (mgmtRun true q code a (arrived srcMgmt s)) := by
  have hd : seqDist (s.mgmt.next.getD q) q = 0 := by
    rcases hnext with h | h
    · rw [h]; exact seqDist_self q
    · rw [h]; exact seqDist_self q
  exact if_pos hd

/-- What an executed command leaves until the edge (R415). -/
def mgmtTaken (q code : Nat) (a : List Int) (s : State) : State :=
  let t := mgmtNow code a { s with mgmt := { s.mgmt with next := some ((q + 1) % 2 ^ 32), lastUp := s.time.up } }
  { t with mgmt := { t.mgmt with todo := t.mgmt.todo ++ [(code, 1 :: (q : Int) :: a)] } }

theorem mgmtRun_taken {q code : Nat} {a : List Int} {s : State} (hok : mgmtJudge (mgmtAhead s) code a = 0) :
    mgmtRun true q code a s = mgmtTaken q code a s := if_pos hok

theorem mgmtTaken_mgmt (q code : Nat) (a : List Int) (s : State) : (mgmtTaken q code a s).mgmt = { s.mgmt with
    next := some ((q + 1) % 2 ^ 32), lastUp := s.time.up, todo := s.mgmt.todo ++ [(code, 1 :: (q : Int) :: a)] } :=
  congrArg (fun m : MgmtSt => { m with todo := m.todo ++ [(code, 1 :: (q : Int) :: a)] }) (mgmtNow_mgmt code a
    { s with mgmt := { s.mgmt with next := some ((q + 1) % 2 ^ 32), lastUp := s.time.up } })

/-- A command of a running block whose turn has come and that nothing refuses (R301). -/
theorem mgmtSeq_turn {code seq : Nat} {a : List Int} {s : State} (hrun : running s = true)
    (hnext : s.mgmt.next = none ∨ s.mgmt.next = some (seq % 2 ^ 32))
    (hheld : ∀ h ∈ s.mgmt.held, h.seq ≠ (seq % 2 ^ 32 + 1) % 2 ^ 32)
    (hok : mgmtJudge (mgmtAhead (arrived srcMgmt (fresh s))) code a = 0) :
    mgmtSeq code seq a s = .next (mgmtTaken (seq % 2 ^ 32) code a (arrived srcMgmt (fresh s))) := by
  have hnext' : (fresh s).mgmt.next = none ∨ (fresh s).mgmt.next = some (seq % 2 ^ 32) := hnext
  rw [mgmtSeq_running hrun, mgmtTake_turn hnext', mgmtRun_taken hok, mgmtDrain_nil]
  intro m hm x hx
  rw [mgmtTaken_mgmt] at hm hx
  exact Option.some_inj.1 hm ▸ hheld x hx

theorem mgmtTaken_waits {code : Nat} (q : Nat) (a : List Int) (s : State) (h10 : code ≠ 0x10) (h26 : code ≠ 0x26) :
    mgmtTaken q code a s = { s with mgmt := { s.mgmt with
      next := some ((q + 1) % 2 ^ 32), lastUp := s.time.up, todo := s.mgmt.todo ++ [(code, 1 :: (q : Int) :: a)] } } := by
  rw [mgmtTaken, mgmtNow, if_neg h10, if_neg h26]

/-- Settles O42: every command through `mgmtSeq_turn`; all but two leave only what waits for the edge. -/
theorem mgmtTurn : Obligations.MgmtTurn := by
  unfold Obligations.MgmtTurn
  intro seq s hrun hnext hheld came took ok
  have hturn : ∀ code a, ok code a →
      mgmtSeq code seq a s = .next (mgmtTaken (seq % 2 ^ 32) code a (arrived srcMgmt (fresh s))) :=
    fun code a hok => mgmtSeq_turn hrun hnext hheld hok
  have hwaits : ∀ code a, code ≠ 0x10 → code ≠ 0x26 → ok code a → mgmtSeq code seq a s = .next (took code a) :=
    fun code a h10 h26 hok => (hturn code a hok).trans (congrArg _ (mgmtTaken_waits _ a _ h10 h26))
  exact ⟨fun c => hturn 0x10 _, fun a b c => hwaits 0x11 _ (by decide) (by decide),
    fun a v => hwaits 0x12 _ (by decide) (by decide), fun a => hwaits 0x13 _ (by decide) (by decide),
    fun a => hwaits 0x14 _ (by decide) (by decide), fun a => hwaits 0x15 _ (by decide) (by decide),
    fun a => hwaits 0x16 _ (by decide) (by decide), fun a => hwaits 0x17 _ (by decide) (by decide),
    fun a b c d => hwaits 0x20 _ (by decide) (by decide), fun a => hwaits 0x21 _ (by decide) (by decide),
    fun a b c => hwaits 0x22 _ (by decide) (by decide), fun a => hwaits 0x23 _ (by decide) (by decide),
    fun a => hwaits 0x24 _ (by decide) (by decide), fun a b => hwaits 0x25 _ (by decide) (by decide),
    fun a f hok => (hturn 0x26 _ hok).trans (by cases f <;> rfl), hwaits 0x27 _ (by decide) (by decide)⟩

/-! ### A command's judgement -/

theorem ite_eq_zero_iff {p : Prop} [Decidable p] {n : Nat} (hn : n ≠ 0) : (if p then 0 else n) = 0 ↔ p := by
  split
  · exact iff_of_true rfl ‹_›
  · exact iff_of_false hn ‹_›

/-- Set Limit stands in range (Table 7-1). -/
theorem mgmtJudge_setLimit (a b c : Nat) (s : State) : mgmtJudge s 0x11 [a, b, c] = 0 ↔
    (a = 0 ∧ b = 1 ∧ (c = 0xFFFFFFFF ∨ 16 ≤ c ∧ c ≤ 65535)) ∨
    (a = 0 ∧ 2 ≤ b ∧ b ≤ 6 ∧ (c = 0xFFFFFFFF ∨ 1000 ≤ c ∧ c ≤ 2500000)) ∨
    (a = 1 ∧ 2 ≤ b ∧ b ≤ 6 ∧ (c = 0xFFFFFFFF ∨ 10000 ≤ c ∧ c ≤ 60000000)) := by
  have hjudge : mgmtJudge s 0x11 [a, b, c] = if 1 < a ∨ b = 0 ∨ 6 < b ∨ (a = 1 ∧ b = 1) then 4
      else if c = allOnes ∨ limInRange a b c = true then 0 else 4 := rfl
  rw [hjudge]
  by_cases hrange : 1 < a ∨ b = 0 ∨ 6 < b ∨ (a = 1 ∧ b = 1)
  · rw [if_pos hrange]
    omega
  · rw [if_neg hrange, ite_eq_zero_iff (by decide), limInRange]
    have hall : allOnes = 0xFFFFFFFF := rfl
    rcases (by omega : a = 0 ∧ b = 1 ∨ a = 0 ∧ 2 ≤ b ∨ a = 1 ∧ 2 ≤ b) with ⟨ha, hb⟩ | ⟨ha, hb⟩ | ⟨ha, hb⟩
    · rw [if_pos ha, if_pos hb, decide_eq_true_eq]
      omega
    · rw [if_pos ha, if_neg (by omega), decide_eq_true_eq]
      omega
    · rw [if_neg (by omega), Bool.and_eq_true, decide_eq_true_eq, decide_eq_true_eq]
      omega

theorem mgmtJudge_startRamp (a b c d : Nat) (s : State) : mgmtJudge s 0x20 [a, b, c, d] =
    if s.time.countSet = false then 3
    else if c % 1000 = 0 ∧ d ≤ 86400000 ∧ 10000 ≤ b ∧ b ≤ 60000000 then 0 else 4 := by
  have hjudge : mgmtJudge s 0x20 [a, b, c, d] = if !s.time.countSet then 3
      else if c % 1000 ≠ 0 ∨ 86400000 < d ∨ b < 10000 ∨ 60000000 < b then 4 else 0 := rfl
  rw [hjudge]
  simp only [Bool.not_eq_true']
  refine congrArg (fun x => if s.time.countSet = false then 3 else x) ?_
  by_cases h : c % 1000 = 0 ∧ d ≤ 86400000 ∧ 10000 ≤ b ∧ b ≤ 60000000
  · rw [if_pos h, if_neg (by omega)]
  · rw [if_neg h, if_pos (by omega)]

/-- Settles O43: each judgement as `mgmtJudge` gives it; a refused command is answered at its turn. -/
theorem mgmtJudged : Obligations.MgmtJudged := by
  unfold Obligations.MgmtJudged
  refine ⟨fun s => ⟨fun c => ?_, fun a b c => mgmtJudge_setLimit a b c s, fun a => ?_, fun a => ?_, fun a => rfl, fun a => ?_,
    fun a => ?_, fun a b c d => mgmtJudge_startRamp a b c d s, fun a => rfl, rfl⟩, ?_⟩
  · exact ite_eq_zero_iff (n := 4) (by decide)
  · exact ite_eq_zero_iff (n := 4) (by decide)
  · exact ite_eq_zero_iff (n := 4) (by decide)
  · exact ite_eq_zero_iff (n := 4) (by decide)
  · exact ite_eq_zero_iff (n := 4) (by decide)
  · intro seq a s hrun hnext hheld came hjudge
    have hrefused : mgmtRun true (seq % 2 ^ 32) 0x13 [(a : Int)] (arrived srcMgmt (fresh s)) =
        emit (.resp 0x13 (seq % 2 ^ 32) 4 []) (event 0xE006 0x13 { s with
          out := [], time := came,
          mgmt := { s.mgmt with next := some ((seq % 2 ^ 32 + 1) % 2 ^ 32), lastUp := s.time.up } }) := by
      unfold mgmtRun
      extract_lets st s1
      have hst : st = 4 := hjudge
      rw [hst]
      rfl
    refine (mgmtSeq_running hrun).trans (congrArg _ ?_)
    rw [mgmtTake_turn (s := fresh s) (.inr hnext), hrefused, mgmtDrain_nil]
    intro m hm x hx
    have hnone : x ∈ s.mgmt.held := by
      rwa [show (emit _ (event 0xE006 0x13 _)).mgmt = (event 0xE006 0x13 _).mgmt from rfl, event_mgmt] at hx
    rw [hheld] at hnone
    exact absurd hnone List.not_mem_nil

/-! ### Commands out of turn, and of a block that does not run -/

theorem mgmtSeq_stopped {code seq : Nat} (a : List Int) {s : State} (halive : rpAlive s = true) (hhold : holdOut s = true) :
    mgmtSeq code seq a s = .next (mgmtStopped code (seq % 2 ^ 32) (fresh s)) := by
  unfold mgmtSeq
  extract_lets s0
  rw [show rpAlive s0 = true from halive, show holdOut s0 = true from hhold]
  rfl

section
variable {q n code : Nat} {a : List Int} {s : State} (hnext : s.mgmt.next = some n) (hahead : seqDist n q ≠ 0)
include hnext hahead

/-- A command ahead of NEXT is held (R301). -/
theorem mgmtTake_held (hd : seqDist n q < 2 ^ 31) (hroom : s.mgmt.held.length < 8) (hnew : ∀ h ∈ s.mgmt.held, h.seq ≠ q) :
    mgmtTake q code a s = mgmtResp code q 1 [] { arrived srcMgmt s with mgmt := { s.mgmt with
      lastUp := s.time.up, held := mgmtHold n ⟨q, s.time.up, code, a⟩ s.mgmt.held } } := by
  have hnot : s.mgmt.held.all (fun h => h.seq != q) = true :=
    List.all_eq_true.2 fun h hh => bne_iff_ne.2 (hnew h hh)
  have hlen : (mgmtHold n ⟨q, s.time.up, code, a⟩ s.mgmt.held).length = s.mgmt.held.length + 1 := insertBy_length ..
  unfold mgmtTake
  extract_lets x next d s1 s2
  have hn : next = n := congrArg (Option.getD · q) hnext
  clear_value next
  subst hn
  refine (if_neg hahead).trans ((if_pos ⟨hd, hnot⟩).trans (if_neg ?_))
  refine Nat.not_lt.2 ?_
  change (mgmtHold next ⟨q, s.time.up, code, a⟩ s.mgmt.held).length ≤ 8
  omega

/-- A command that is old, or held already, is counted (Table 10-7). -/
theorem mgmtTake_duplicate (hold : 2 ^ 31 ≤ seqDist n q ∨ ∃ h ∈ s.mgmt.held, h.seq = q) :
    mgmtTake q code a s = mgmtResp code q 2 [] { arrived srcMgmt s with mgmt := { s.mgmt with
      dupCmds := (s.mgmt.dupCmds + 1) % 2 ^ 16 } } := by
  have hnot : ¬ (seqDist n q < 2 ^ 31 ∧ s.mgmt.held.all (fun h => h.seq != q) = true) := by
    rintro ⟨hd, hall⟩
    rcases hold with h | ⟨h, hh, hq⟩
    · omega
    · exact bne_iff_ne.1 (List.all_eq_true.1 hall h hh) hq
  unfold mgmtTake
  extract_lets x next d s1 s2
  have hn : next = n := congrArg (Option.getD · q) hnext
  clear_value next
  subst hn
  exact (if_neg hahead).trans (if_neg hnot)

end

/-- Settles O45: `mgmtSeq_stopped`, `mgmtTake_held` and `mgmtTake_duplicate`. -/
theorem mgmtOutOfTurn : Obligations.MgmtOutOfTurn := by
  unfold Obligations.MgmtOutOfTurn
  refine ⟨fun seq a s hup hbclk hstate hhold => ?_, fun seq a n s hrun hnext hn hseq => ?_⟩
  · have halive : rpAlive s = true := by
      rw [rpAlive, clocked_of hup hbclk, Bool.true_and, bne_iff_ne]
      exact hstate
    exact mgmtSeq_stopped [(a : Int)] halive hhold
  · intro d came
    have hd : seqDist n seq = d := by
      rw [seqDist, Nat.mod_eq_of_lt hn, Nat.mod_eq_of_lt hseq]
    have htake : exec (.setThrottleLevel seq a) s = .next (mgmtTake seq 0x13 [(a : Int)] (fresh s)) := by
      refine (mgmtSeq_running hrun).trans ?_
      rw [Nat.mod_eq_of_lt hseq]
    have hnext' : (fresh s).mgmt.next = some n := hnext
    refine ⟨fun hpos hlt hroom hnew => ⟨_, htake, ?_⟩, fun hold => ?_⟩
    · have hheld := mgmtTake_held (code := 0x13) (a := [(a : Int)]) hnext' (by omega) (by omega) hroom hnew
      rw [hheld]
      exact ⟨rfl, insertBy_length .., rfl⟩
    · rw [htake, mgmtTake_duplicate hnext' (by omega) ?_]
      · rfl
      · rcases hold with h | ⟨-, h⟩
        · exact .inl (hd ▸ h)
        · exact .inr h

/-! ### What a drain of held commands keeps -/

/-- A delivery raises causes of the book and of the trace buffers alone. -/
theorem deliver_group {k code sev : Nat} {v : Int} (s : State) (h12 : k ≠ 12) (h13 : k ≠ 13) :
    tget 0 k (deliver code sev v s).regs.cause = tget 0 k s.regs.cause := by
  unfold deliver trcDelivery
  extract_lets r l
  have hraise := raiseIf_other_group (c := r.2) (b := 1) { s with book := r.1 } h12
  split
  · exact hraise
  · unfold trcFire
    split
    · exact hraise
    · extract_lets
      rw [raiseIf_other_group _ h13, raiseIf_other_group _ h13]
      exact hraise

/-- What held commands that are taken leave alone: the gap that has been recorded, and all but the commands' own state. -/
structure DrainKeeps (s t : State) : Prop where
  gap : (t.mgmt.gaps, t.mgmt.gapFirst, t.mgmt.gapLen) = (s.mgmt.gaps, s.mgmt.gapFirst, s.mgmt.gapLen)
  cause : tget 0 10 t.regs.cause = tget 0 10 s.regs.cause
  flash : t.flash = s.flash
  curt : t.curt = s.curt
  tk : t.tk = s.tk
  pending : t.pending = s.pending

namespace DrainKeeps

theorem refl (s : State) : DrainKeeps s s := ⟨rfl, rfl, rfl, rfl, rfl, rfl⟩

theorem trans {s t u : State} (h : DrainKeeps s t) (k : DrainKeeps t u) : DrainKeeps s u :=
  ⟨k.gap.trans h.gap, k.cause.trans h.cause, k.flash.trans h.flash, k.curt.trans h.curt, k.tk.trans h.tk,
    k.pending.trans h.pending⟩

theorem event (code : Nat) (v : Int) (s : State) : DrainKeeps s (event code v s) := by
  obtain ⟨_, _, _, _, _, h⟩ := event_frame code v s
  exact ⟨by rw [h], deliver_group s (by decide) (by decide), by rw [h], by rw [h], by rw [h], by rw [h]⟩

theorem mgmtNow (code : Nat) (a : List Int) (s : State) : DrainKeeps s (mgmtNow code a s) := by
  unfold Machine.mgmtNow
  split
  · exact ⟨rfl, rfl, rfl, rfl, rfl, rfl⟩
  · split
    · exact ⟨rfl, rfl, rfl, rfl, rfl, rfl⟩
    · exact refl s

theorem mgmtRefuse (code : Nat) (s : State) : DrainKeeps s (mgmtRefuse code s) := by
  have hcount : DrainKeeps s (if code = 0x20 then
      { s with cap := { s.cap with refused := wrapAdd 8 s.cap.refused 1 } } else s) := by
    split
    · exact ⟨rfl, rfl, rfl, rfl, rfl, rfl⟩
    · exact refl s
  exact hcount.trans (event ..)

theorem mgmtRun (tell : Bool) (seq code : Nat) (a : List Int) (s : State) : DrainKeeps s (mgmtRun tell seq code a s) := by
  unfold Machine.mgmtRun
  extract_lets st m s1 s2 s3
  have h1 : DrainKeeps s s1 := ⟨rfl, rfl, rfl, rfl, rfl, rfl⟩
  split
  · exact (h1.trans (mgmtNow code a s1)).trans ⟨rfl, rfl, rfl, rfl, rfl, rfl⟩
  · have hsnap : DrainKeeps s1 (if code = 0x26 ∧ st ≠ 0 then snapSchedule (argN a 0) (argN a 1 == 1) s1 else s1) := by
      split
      · exact ⟨rfl, rfl, rfl, rfl, rfl, rfl⟩
      · exact refl s1
    have h3 := (h1.trans hsnap).trans (mgmtRefuse code _)
    split
    · exact h3.trans ⟨rfl, rfl, rfl, rfl, rfl, rfl⟩
    · exact h3

theorem mgmtDrain (f : Nat) (s : State) : DrainKeeps s (mgmtDrain f s) := by
  induction f generalizing s with
  | zero => exact refl s
  | succ f ih =>
    unfold Machine.mgmtDrain
    split
    · split
      · refine .trans ?_ ((mgmtRun ..).trans (ih _))
        exact ⟨rfl, rfl, rfl, rfl, rfl, rfl⟩
      · exact refl s
    · exact refl s

end DrainKeeps

/-! ### Commands out of sequence, and the timers -/

/-- A gap that has been recorded: what is skipped, and the held SEQ that is next (R301). -/
def gapRecorded (n : Nat) (h : HeldCmd) (s : State) : State :=
  alert 0x43 (leBytes 4 n ++ leBytes 4 (seqDist n h.seq)) { s with mgmt := { s.mgmt with
    gapFirst := n, gapLen := seqDist n h.seq, gaps := (s.mgmt.gaps + 1) % 256, next := some h.seq } }

/-- A gap that has been told. -/
def gapTold (n : Nat) (h : HeldCmd) (s : State) : State :=
  raise 10 1 (report 0xB003 (seqDist n h.seq : Int) (gapRecorded n h s))

section
variable {n : Nat} {h : HeldCmd} {r : List HeldCmd} {s : State} (hnext : s.mgmt.next = some n) (hheld : s.mgmt.held = h :: r)
include hnext hheld

theorem mgmtGap_eq_drain : mgmtGap s = mgmtDrain (gapTold n h s).mgmt.held.length (gapTold n h s) := by
  unfold mgmtGap
  rw [hnext, hheld]
  rfl

/-- A gap is recorded and told before the held commands run (R301). -/
theorem mgmtGap_records :
    (mgmtGap s).mgmt.gaps = (s.mgmt.gaps + 1) % 256 ∧ (mgmtGap s).mgmt.gapFirst = n ∧
      (mgmtGap s).mgmt.gapLen = seqDist n h.seq ∧ (tget 0 10 (mgmtGap s).regs.cause).testBit 1 = true ∧
      (mgmtGap s).flash = s.flash ∧ (mgmtGap s).curt = s.curt ∧ (mgmtGap s).tk = s.tk ∧
      (mgmtGap s).pending = s.pending := by
  obtain ⟨f, bk, bufs, fz, fs, cs, fr, htold⟩ :=
    report_frame 0xB003 (seqDist n h.seq : Int) (gapRecorded n h s) (by decide)
  have hmgmt : (gapTold n h s).mgmt = (gapRecorded n h s).mgmt := report_mgmt ..
  have htk : (gapTold n h s).tk = s.tk := by
    rw [gapTold, htold]
    rfl
  have hbit : (tget 0 10 (gapTold n h s).regs.cause).testBit 1 = true := raise_bit 10 1 _
  obtain ⟨hgap, hcause, hflash, hcurt, htk', hpending⟩ :=
    mgmtGap_eq_drain hnext hheld ▸ DrainKeeps.mgmtDrain (gapTold n h s).mgmt.held.length (gapTold n h s)
  rw [show ((gapTold n h s).mgmt.gaps, (gapTold n h s).mgmt.gapFirst, (gapTold n h s).mgmt.gapLen) =
    ((s.mgmt.gaps + 1) % 256, n, seqDist n h.seq) by rw [hmgmt]; rfl] at hgap
  obtain ⟨hgaps, hrest⟩ := Prod.mk.injEq .. ▸ hgap
  obtain ⟨hfirst, hlen⟩ := Prod.mk.injEq .. ▸ hrest
  exact ⟨hgaps, hfirst, hlen, hcause ▸ hbit, hflash.trans (report_flash ..), hcurt.trans (report_curt ..), htk'.trans htk,
    hpending.trans (report_pending ..)⟩

end

section
variable {s : State} (hrun : running s = true)
include hrun

theorem rpAlive_guard : ¬ (!rpAlive (fresh s)) = true := by
  obtain ⟨halive, -, -, -⟩ := running_facts hrun
  rw [halive]
  decide

theorem exec_managementHeartbeat_live (seq : Nat) : exec (.managementHeartbeat seq) s = .next (
    let u := raiseIf (s.mgmt.state != 0) 10 0 { fresh s with mgmt := { s.mgmt with state := 0, lastUp := s.time.up } }
    mgmtResp 1 seq 0 (regBytes u 0x9080) u) := by
  obtain ⟨-, -, -, hlive⟩ := running_facts hrun
  refine (if_neg (rpAlive_guard hrun)).trans ?_
  have hu : (if isLive (fresh s) then raiseIf ((fresh s).mgmt.state != 0) 10 0
      { fresh s with mgmt := { (fresh s).mgmt with state := 0, lastUp := (fresh s).time.up } } else fresh s) =
      raiseIf (s.mgmt.state != 0) 10 0 { fresh s with mgmt := { s.mgmt with state := 0, lastUp := s.time.up } } :=
    if_pos hlive
  exact congrArg (fun u => Host.Outcome.next (mgmtResp 1 seq 0 (regBytes u 0x9080) u)) hu

theorem lockout_of_running : lockout (fresh s) = false := by
  obtain ⟨-, -, -, hlive⟩ := running_facts hrun
  have hstate : (fresh s).start.state = 9 := beq_iff_eq.1 hlive
  rw [lockout, hstate]
  rfl

theorem exec_getRegister_granted {seq off : Nat} (hresp : rpResp false false 1 off = 0) :
    exec (.getRegister seq off) s = .next (mgmtResp 4 seq 0 (regBytes (fresh s) off)
      { latchHigh 1 0 off (fresh s) with free := s.free + 1 }) := by
  refine (if_neg (rpAlive_guard hrun)).trans ?_
  rw [lockout_of_running hrun]
  exact if_pos hresp

theorem exec_getRegister_refused {seq off : Nat} (hresp : rpResp false false 1 off ≠ 0) :
    exec (.getRegister seq off) s = .next (mgmtResp 4 seq (rpResp false false 1 off) (leBytes 4 0) (fresh s)) := by
  refine (if_neg (rpAlive_guard hrun)).trans ?_
  rw [lockout_of_running hrun]
  exact if_neg hresp

theorem exec_reportCoolantTemperature_kept {seq : Nat} {v : Int} (hlo : -640 ≤ v) (hhi : v ≤ 2000) :
    exec (.reportCoolantTemperature seq v) s = .next (mgmtResp 5 seq 0 [] { arrived srcCool (fresh s) with
      tel := { s.tel with coolant := some (v, s.time.up), coolNew := true } }) := by
  obtain ⟨-, hhold, -, -⟩ := running_facts hrun
  exact (if_neg (rpAlive_guard hrun)).trans ((if_neg (ne_true_of_eq_false hhold)).trans (if_neg (by omega)))

theorem exec_unknownCommand_running {code seq : Nat} {w : Bool} (hcode : code ≠ 0x20) :
    exec (.unknownCommand code seq w) s =
      .next (emit (.resp code seq (if w then 8 else 7) []) (event 0xE006 (code : Int) { s with out := [] })) := by
  obtain ⟨-, hhold, -, -⟩ := running_facts hrun
  have hgo : (holdOut (fresh s) && !(decide (1 ≤ code ∧ code ≤ 4))) = false := by rw [hhold, Bool.false_and]
  have hrefuse : mgmtRefuse code (fresh s) = event 0xE006 (code : Int) (fresh s) := by rw [mgmtRefuse, if_neg hcode]
  refine (if_neg (rpAlive_guard hrun)).trans ((if_neg (ne_true_of_eq_false hgo)).trans ?_)
  rw [hrefuse]
  rfl

theorem exec_mgmtGapTimeout_due {h : HeldCmd} {r : List HeldCmd} (hheld : s.mgmt.held = h :: r)
    (hdue : h.since + 1000 * bits (areg s 0x9090) 15 0 ≤ s.time.up) : exec .mgmtGapTimeout s = .next (mgmtGap (fresh s)) := by
  refine if_pos ?_
  rw [show running (fresh s) = true from hrun, show (fresh s).mgmt.held = h :: r from hheld, List.any_cons,
    decide_eq_true (show h.since + 1000 * bits (areg (fresh s) 0x9090) 15 0 ≤ (fresh s).time.up from hdue)]
  rfl

theorem exec_heartbeatLost_due (hstate : s.mgmt.state = 0) (hdue : s.mgmt.lastUp + 2000000 ≤ s.time.up) :
    exec .heartbeatLost s = .next (raise 10 0 (report 0xB004 0 { s with out := [], mgmt := { s.mgmt with state := 1 } })) := by
  obtain ⟨-, -, hclk, hlive⟩ := running_facts hrun
  refine if_pos ?_
  rw [hclk, show isLive (fresh s) = true from hlive, show (fresh s).mgmt.state = 0 from hstate,
    decide_eq_true (show (fresh s).mgmt.lastUp + 2000000 ≤ (fresh s).time.up from hdue)]
  rfl

theorem exec_orphan_due (hstate : s.mgmt.state = 1) (hdue : s.mgmt.lastUp + 30000000 ≤ s.time.up) :
    exec .orphan s = .next (raise 10 0 { s with out := [], mgmt := { s.mgmt with state := 2 } }) := by
  obtain ⟨-, -, hclk, hlive⟩ := running_facts hrun
  refine if_pos ?_
  rw [hclk, show isLive (fresh s) = true from hlive, show (fresh s).mgmt.state = 1 from hstate,
    decide_eq_true (show (fresh s).mgmt.lastUp + 30000000 ≤ (fresh s).time.up from hdue)]
  rfl

end

theorem length_regBytes (s : State) (off : Nat) : (regBytes s off).length = 4 := length_leBytes 4 _

/-- Settles O46: each command and timer by its `exec` lemma; a gap by `mgmtGap_records`. -/
theorem mgmtOther : Obligations.MgmtOther := by
  unfold Obligations.MgmtOther
  intro s hrun
  refine ⟨fun seq => ?_, fun seq => if_neg (rpAlive_guard hrun), fun seq => ⟨_, if_neg (rpAlive_guard hrun), ?_⟩,
    fun seq off hresp => ?_, fun seq off hresp => exec_getRegister_refused hrun hresp,
    fun seq v hlo hhi => exec_reportCoolantTemperature_kept hrun hlo hhi,
    fun code seq w hcode => exec_unknownCommand_running hrun hcode, fun n h r hnext hheld hdue => ?_,
    fun hstate hdue => exec_heartbeatLost_due hrun hstate hdue, fun hstate hdue => exec_orphan_due hrun hstate hdue⟩
  · refine ⟨_, exec_managementHeartbeat_live hrun seq, ?_⟩
    by_cases h0 : s.mgmt.state = 0
    · rw [h0, if_pos rfl]
      exact ⟨rfl, rfl, ⟨_, rfl⟩, rfl⟩
    · rw [if_neg h0, show (s.mgmt.state != 0) = true from bne_iff_ne.2 h0]
      exact ⟨rfl, rfl, ⟨_, rfl⟩, rfl⟩
  · simp only [List.length_append, length_regBytes, length_leBytes]
  · obtain ⟨hi, hlatch⟩ := latchHigh_frame 1 0 off (fresh s)
    refine ⟨_, exec_getRegister_granted hrun hresp, ?_⟩
    rw [hlatch]
    exact ⟨rfl, rfl⟩
  · exact ⟨_, exec_mgmtGapTimeout_due hrun hheld hdue, mgmtGap_records (s := fresh s) hnext hheld⟩

end Sys2Proof.Machine
end

section
/-! R411 to R414: what MCTP control, PLDM and I3C commands answer. -/

namespace Sys2Proof.Machine

open Sys2Proof

/-- The target of a block that answers acts (R411). -/
theorem next_of_alive {s x y t : State} (halive : rpAlive s = true) (h : x = t) :
    (Host.Outcome.next (if rpAlive s then x else y) : Host.Outcome State Fault Refusal) = .next t :=
  congrArg Host.Outcome.next ((if_pos halive).trans h)

theorem sensorValue_unknown {n : Nat} (hn : n = 0 ∨ 4 < n) (s : State) : sensorValue s n = none := by
  match n, hn with
  | 0, _ => rfl
  | n + 5, _ => rfl

section
variable {s : State} (halive : rpAlive s = true)
include halive

/-! ### MCTP control -/

theorem exec_setEndpointId_refused {e : Nat} (he : e % 256 = 0 ∨ e % 256 = 255) :
    exec (.setEndpointId e) s = .next { s with out := [.mctp 1 2 []] } :=
  next_of_alive halive (if_pos he)

theorem exec_setEndpointId_taken {e : Nat} (h0 : e % 256 ≠ 0) (h255 : e % 256 ≠ 255) :
    exec (.setEndpointId e) s = .next { s with
      out := [.mctp 1 0 [0, e % 256, 0]], port := { s.port with eid := e % 256 } } :=
  next_of_alive halive (if_neg (not_or.2 ⟨h0, h255⟩))

theorem exec_getVendorDefinedMessageSupport_zero : exec (.getVendorDefinedMessageSupport 0) s = .next { s with
    out := [.mctp 6 0 (0xFF :: 1 :: ((leBytes 4 s.par.ianaPen).reverse ++ Config.standardBytes 0x1006 0))] } :=
  next_of_alive halive (if_pos rfl)

theorem exec_getVendorDefinedMessageSupport_other {n : Nat} (hn : n ≠ 0) :
    exec (.getVendorDefinedMessageSupport n) s = .next { s with out := [.mctp 6 2 []] } :=
  next_of_alive halive (if_neg hn)

/-! ### PLDM -/

theorem exec_getPldmCommands_other {t : Nat} (h0 : t ≠ 0) (h2 : t ≠ 2) :
    exec (.getPldmCommands t) s = .next { s with out := [.pldm 0 5 0x83 []] } := by
  have hnone : pldmCmds t = [] := (if_neg h0).trans (if_neg h2)
  refine next_of_alive halive ?_
  rw [hnone]
  rfl

theorem exec_getSensorReading_some {n : Nat} {v : Int} (hv : sensorValue s n = some v) :
    exec (.getSensorReading n) s = .next { s with out := [.pldm 2 0x11 0 (leBytes 8 (twos 64 v))] } := by
  refine next_of_alive halive ?_
  dsimp only
  rw [show sensorValue (fresh s) n = some v from hv]
  rfl

theorem exec_getSensorReading_hottest : exec (.getSensorReading 3) s = .next { s with out := [.pldm 2 0x11 0
    (match hottestPair s.curt with
    | some v => leBytes 8 (twos 64 v)
    | none => Config.standardBytes 0x2211 3)] } := by
  refine next_of_alive halive ?_
  have hsensor : sensorValue (fresh s) 3 = hottestPair s.curt := rfl
  dsimp only
  rw [hsensor]
  cases hottestPair s.curt <;> rfl

theorem exec_getSensorReading_unknown {n : Nat} (hn : n = 0 ∨ 4 < n) :
    exec (.getSensorReading n) s = .next { s with out := [.pldm 2 0x11 0x80 []] } := by
  refine next_of_alive halive ?_
  dsimp only
  rw [sensorValue_unknown hn]
  exact if_neg (by omega)

theorem exec_getStateSensorReadings_other {n : Nat} (h5 : n ≠ 5) (h6 : n ≠ 6) :
    exec (.getStateSensorReadings n) s = .next { s with out := [.pldm 2 0x21 0x80 []] } :=
  next_of_alive halive ((if_neg h5).trans (if_neg h6))

/-! ### I3C -/

theorem exec_entdaa_free {a : Nat} (hda : s.port.da = none) :
    exec (.entdaa a) s = .next { s with out := [], port := { s.port with da := some (a % 128) } } := by
  have hnone : (fresh s).port.da.isNone = true := Option.isNone_iff_eq_none.2 hda
  exact next_of_alive halive (if_pos hnone)

theorem exec_entdaa_taken {a d : Nat} (hda : s.port.da = some d) : exec (.entdaa a) s = .next { s with out := [] } := by
  have hsome : (fresh s).port.da.isNone = false := by
    rw [show (fresh s).port.da = some d from hda]
    rfl
  exact next_of_alive halive (if_neg (ne_true_of_eq_false hsome))

theorem exec_setdasa_free {a : Nat} (hda : s.port.da = none) (hstatic : s.par.i3cStatic ≠ 0) :
    exec (.setdasa s.par.i3cStatic a) s = .next { s with out := [], port := { s.port with da := some (a % 128) } } := by
  have hguard : ((fresh s).port.da.isNone && (fresh s).par.i3cStatic != 0 && s.par.i3cStatic == (fresh s).par.i3cStatic) = true := by
    rw [show (fresh s).port.da = none from hda, show ((fresh s).par.i3cStatic != 0) = true from bne_iff_ne.2 hstatic]
    exact beq_self_eq_true s.par.i3cStatic
  exact next_of_alive halive (if_pos hguard)

end

theorem ianaPen_bytes (n : Nat) :
    (leBytes 4 n).reverse = [n / 2 ^ 24 % 256, n / 2 ^ 16 % 256, n / 2 ^ 8 % 256, n % 256] := by
  have h1 : n / 256 = n / 2 ^ 8 := rfl
  have h2 : n / 2 ^ 8 / 256 = n / 2 ^ 16 := Nat.div_div_eq_div_mul n (2 ^ 8) 256
  have h3 : n / 2 ^ 16 / 256 = n / 2 ^ 24 := Nat.div_div_eq_div_mul n (2 ^ 16) 256
  change [n / 256 / 256 / 256 % 256, n / 256 / 256 % 256, n / 256 % 256, n % 256] = _
  rw [h1, h2, h3]

/-- Settles O47: every command acts through `next_of_alive`; those with more than one answer have a lemma for each. -/
theorem portAnswers : Obligations.PortAnswers := by
  unfold Obligations.PortAnswers
  intro s hup hbclk hstate answer sets
  have halive : rpAlive s = true := by
    rw [rpAlive, clocked_of hup hbclk, Bool.true_and, bne_iff_ne]
    exact hstate
  refine ⟨fun e => exec_setEndpointId_refused halive, fun e => exec_setEndpointId_taken halive, ⟨_, next_of_alive halive rfl⟩, ⟨_, next_of_alive halive rfl⟩,
    fun t => ⟨_, next_of_alive halive rfl⟩, next_of_alive halive rfl, ⟨Config.standardBytes 0x1006 0, ?_⟩, fun n => exec_getVendorDefinedMessageSupport_other halive, next_of_alive halive rfl, ⟨_, next_of_alive halive rfl⟩,
    fun t => ⟨_, next_of_alive halive rfl⟩, next_of_alive halive rfl, next_of_alive halive rfl, next_of_alive halive rfl, fun t => exec_getPldmCommands_other halive, next_of_alive halive rfl, next_of_alive halive rfl, next_of_alive halive rfl,
    ⟨_, exec_getSensorReading_hottest halive, fun v hv => by rw [hv]⟩, fun n => exec_getSensorReading_unknown halive, next_of_alive halive rfl,
    next_of_alive halive rfl, fun n => exec_getStateSensorReadings_other halive, ⟨_, next_of_alive halive rfl⟩, fun r => ⟨_, next_of_alive halive rfl⟩, fun t c => next_of_alive halive rfl,
    fun a => exec_entdaa_free halive, fun a d => exec_entdaa_taken halive, fun a => exec_setdasa_free halive, next_of_alive halive rfl,
    fun m => next_of_alive halive rfl, fun m => next_of_alive halive rfl, ⟨_, next_of_alive halive rfl⟩, ⟨_, next_of_alive halive rfl⟩, ⟨_, next_of_alive halive rfl⟩, ⟨_, next_of_alive halive rfl⟩, fun n => next_of_alive halive rfl, fun n => next_of_alive halive rfl, next_of_alive halive rfl,
    next_of_alive halive rfl, next_of_alive halive rfl, fun t ht => ?_⟩
  · rw [exec_getVendorDefinedMessageSupport_zero halive, ianaPen_bytes]
    rfl
  · have hanswer : exec .getPldmTypes s = answer (.pldm 0 4 0 [5, 0, 0, 0, 0, 0, 0, 0]) := next_of_alive halive rfl
    obtain rfl := Host.Outcome.next.inj (hanswer.symm.trans ht)
    exact Bool.and_true _

end Sys2Proof.Machine
end

section
/-! R11, R15, R401, R435: what a write that the port lets does, and the commands of the host command slot. -/

namespace Sys2Proof.Machine

open Sys2Proof

/-! ### A write that the port lets -/

theorem portWaits_other {off : Nat} (h : off ≠ 0xA01C) (s : State) : portWaits s off = false := by
  rw [portWaits, beq_eq_false_iff_ne.2 h]
  rfl

theorem exec_registerWrite_open {p off c : Nat} {d : Word} {s u : State} (hopen : s.portOpen) (hc : regClass off = some c)
    (hmay : mayWrite p c = true) (hoff : off ≠ 0xA01C) (hwrite : regWrite p off d.toNat (fresh s) = u) :
    exec (.registerWrite p off d) s = .next (rpAnswer 0 0 u) := by
  subst hwrite
  have hgo : ¬ portWaits (fresh s) off = true := by
    rw [portWaits_other hoff]
    exact Bool.false_ne_true
  exact (if_neg hgo).trans (congrArg Host.Outcome.next (rpWrite_open hopen c hc hmay))

/-- The offsets below 0x8000 whose writes have a rule of their own. -/
def ruledLow : List Nat :=
  [0x200C, 0x2030, 0x2034, 0x2094, 0x3008, 0x3010, 0x301C, 0x4014, 0x5004, 0x5010, 0x5084, 0x50C4, 0x6010, 0x6014, 0x704C,
    0x7060]

/-- The single offsets from 0x8000 on whose writes have a rule of their own. -/
def ruledHigh : List Nat :=
  [0x8010, 0xA014, 0xA01C, 0xB028, 0xB040, 0xB048, 0xC00C, 0xC014, 0xD060, 0xD104, 0xD108, 0xD10C, 0xD110, 0xD114, 0xD118,
    0xD124, 0xD188, 0xE020, 0xE024]

theorem writeLow_plain {p off w : Nat} {s : State} (h : off ∉ ruledLow) : writeLow p off w s = putReg off w s := by
  unfold writeLow
  split
  case h_17 => rfl
  all_goals exact absurd (by decide) h

theorem writeHigh_plain {off w : Nat} {s : State} (h : off ∉ ruledHigh) (hkey : ¬ (0xA040 ≤ off ∧ off ≤ 0xA074))
    (harg : ¬ (0xE000 ≤ off ∧ off ≤ 0xE01C)) : writeHigh off w s = putReg off w s := by
  unfold writeHigh
  split
  case h_20 => exact (if_neg hkey).trans (if_neg harg)
  all_goals exact absurd (by decide) h

theorem regWrite_plain {p off w : Nat} {s : State} (h : off ∉ ruledLow ++ ruledHigh)
    (hkey : ¬ (0xA040 ≤ off ∧ off ≤ 0xA074)) (harg : ¬ (0xE000 ≤ off ∧ off ≤ 0xE01C))
    (hcause : ¬ (0x80 ≤ off ∧ off ≤ 0xF4 ∧ off % 8 = 0)) : regWrite p off w s = putReg off w s := by
  obtain ⟨hlow, hhigh⟩ := not_or.1 (mt List.mem_append.2 h)
  refine (if_neg hcause).trans ?_
  split
  · exact writeLow_plain hlow
  · exact writeHigh_plain hhigh hkey harg

theorem regWrite_cause {p g w : Nat} {s : State} (hg : g ≤ 14) : regWrite p (0x80 + 8 * g) w s =
    { s with regs := { s.regs with
      cause := tset 0 g (tget 0 g s.regs.cause - (tget 0 g s.regs.cause &&& w)) s.regs.cause } } := by
  refine (if_pos (by omega)).trans ?_
  rw [show (0x80 + 8 * g - 0x80) / 8 = g by omega]
  rfl

/-- TRC_SRC_SEL and TRC_RD of a buffer that the build has not take nothing. -/
theorem regWrite_traceRead {p off w : Nat} {s : State} (hoff : off = 0xD108 ∨ off = 0xD124) :
    regWrite p off w s = if (trcSel s).isSome then putReg off w s else s := by
  rcases hoff with rfl | rfl
  · exact (if_neg (by decide)).trans (if_neg (by decide))
  · exact (if_neg (by decide)).trans (if_neg (by decide))

theorem regClass_cause {g : Nat} (hg : g ≤ 14) : regClass (0x80 + 8 * g) = some 2 := by
  have hall : ∀ g : Fin 15, regClass (0x80 + 8 * g.val) = some 2 := by decide
  exact hall ⟨g, Nat.lt_succ_of_le hg⟩

/-! ### The host command slot -/

theorem writeHcmd_posts {w : Nat} {s : State} (h : s.port.posted = none) : writeHcmd w s =
    { s with port := { s.port with posted := some (w / 2 ^ 16 % 2 ^ 16, w % 2 ^ 8) } } := by
  rw [writeHcmd, h, bits_eq, bits_zero]
  rfl

theorem writeHcmd_busy {w : Nat} {s : State} (h : s.port.posted.isSome = true) :
    writeHcmd w s = raise 14 1 { s with port := { s.port with overrun := true } } := if_pos h

theorem postedAs_of {seq code : Nat} {s : State} (hposted : s.port.posted = some (seq, code)) (hclk : clocked s = true)
    (hlock : s.start.state ≠ 15) : postedAs s code = some seq := by
  have hlockout : lockout s = false := beq_eq_false_iff_ne.2 hlock
  unfold postedAs
  rw [hposted]
  dsimp only
  rw [hlockout, hclk]
  exact if_pos (by simp)

section
variable {seq code : Nat} {s : State} (hposted : postedAs s code = some seq)
include hposted

theorem hostNop_posted (hcode : code = 0) : hostNop s = hostDone seq code 0 s.port.res s := by
  subst hcode
  rw [hostNop, hposted]

theorem hostApply_all (hcode : code = 1) (hlo : 1 ≤ tget 0 0 s.port.args) (hhi : tget 0 0 s.port.args ≤ 3)
    (hok : ∀ x ∈ applyPairs s.port.args (tget 0 0 s.port.args), pairOk x = true) :
    let v := (applyPairs s.port.args (tget 0 0 s.port.args)).foldl (fun (x : State) q => regWrite 1 q.1 q.2 x) s
    hostApply s = hostDone seq code 0 v.port.res v := by
  subst hcode
  rw [hostApply, hposted]
  exact if_pos ⟨hlo, hhi, List.all_eq_true.2 hok⟩

theorem hostApply_none (hcode : code = 1) (hbad : tget 0 0 s.port.args = 0 ∨ 3 < tget 0 0 s.port.args ∨
    ∃ x ∈ applyPairs s.port.args (tget 0 0 s.port.args), pairOk x = false) :
    hostApply s = hostDone seq code 2 s.port.res s := by
  subst hcode
  rw [hostApply, hposted]
  refine if_neg ?_
  rintro ⟨hlo, hhi, hall⟩
  rcases hbad with h | h | ⟨x, hx, hbad⟩
  · omega
  · omega
  · exact Bool.false_ne_true (hbad.symm.trans (List.all_eq_true.1 hall x hx))

theorem hostReadCut_stopped (hcode : code = 2) (hoff : programOn s = false) :
    hostReadCut s = hostDone seq code 4 s.port.res s := by
  subst hcode
  rw [hostReadCut, hposted, hoff]
  rfl

/-- The words of a cut (R401). -/
def cutWords (s : State) : List Nat :=
  let rd := fun off => (regValue s 1 0 off).toNat
  [s.time.count % 2 ^ 32, s.time.count / 2 ^ 32 % 2 ^ 32, rd 0x4020, rd 0x401C, rd 0x6000, rd 0x8000, rd 0x9008, rd 0x6054]

theorem hostReadCut_running (hcode : code = 2) (hon : programOn s = true) :
    hostReadCut s = hostDone seq code 0 (tbuild 0 (List.range 8) (fun i => (cutWords s).getD i 0)) s := by
  subst hcode
  rw [hostReadCut, hposted, hon]
  rfl

/-- Both stores begin, and the slot stays posted (R401). -/
theorem hostStoreAll_begins (hcode : code = 3) (hall : s.port.storeAll = none) (hdone : s.margin.done = true)
    (hvalid : s.pb.valid = true) (hstoring : s.book.storing = none) (hwait : s.book.storeWait = false) :
    hostStoreAll s = { s with
      margin := { s.margin with storing := some (marginRecord s), done := false },
      book := { s.book with storeWait := true, done := false }, port := { s.port with storeAll := some seq } } := by
  subst hcode
  have hmargin : marginStore s = { s with margin := { s.margin with storing := some (marginRecord s), done := false } } := by
    rw [marginStore, hdone, hvalid]
    rfl
  have hboth : storeBoth s = { s with
      margin := { s.margin with storing := some (marginRecord s), done := false },
      book := { s.book with storeWait := true, done := false } } := by
    rw [storeBoth, hmargin]
    dsimp only
    rw [hstoring, hwait]
    rfl
  rw [hostStoreAll, hposted]
  dsimp only
  rw [hall, hboth]
  rfl

end

theorem getD_cut (s : State) {i : Nat} (hi : i ∈ List.range 8) :
    tget 0 i (tbuild 0 (List.range 8) (fun i => (cutWords s).getD i 0)) = (cutWords s).getD i 0 := tget_tbuild 0 _ hi

/-- Settles O49: plain writes by `regWrite_plain`, the causes by `regWrite_cause`, the slot by its `host…` lemmas. -/
theorem hostAccess : Obligations.HostAccess := by
  unfold Obligations.HostAccess
  refine ⟨?_, ?_, ?_, ?_, ?_⟩
  case refine_1 =>
    intro p off d s hopen _ _ _ hclass hmay hoff hkey harg hcause
    obtain ⟨c, hc⟩ := Option.isSome_iff_exists.1 hclass
    have hne : off ≠ 0xA01C := by
      rintro rfl
      exact hoff (by decide)
    exact exec_registerWrite_open hopen hc (hmay c hc) hne (regWrite_plain hoff hkey harg hcause)
  case refine_2 =>
    intro p d s hopen hp _ put
    refine ⟨?_, fun off hoff => ?_⟩
    · exact exec_registerWrite_open hopen (c := 2) (by decide) (mayWrite_two hp) (by decide) rfl
    · have hclass : regClass off = some 2 := by
        rcases hoff with rfl | rfl <;> decide
      have hne : off ≠ 0xA01C := by omega
      have hwrite := fun u => exec_registerWrite_open (d := d) (u := u) hopen hclass (mayWrite_two hp) hne
      rw [regWrite_traceRead hoff] at hwrite
      by_cases hsel : (trcSel s).isSome = true
      · rw [if_pos hsel]
        exact hwrite _ (if_pos hsel)
      · rw [if_neg hsel]
        exact hwrite _ (if_neg hsel)
  case refine_3 =>
    intro p g d s hopen hp hg
    exact exec_registerWrite_open hopen (regClass_cause hg) (mayWrite_two hp) (by omega) (regWrite_cause hg)
  case refine_4 =>
    intro p d s hopen hp
    have hwrite := fun u => exec_registerWrite_open (d := d) (u := u) hopen (off := 0xE020) (c := 2) (by decide) (mayWrite_two hp)
      (by decide)
    exact ⟨fun h => hwrite _ (writeHcmd_posts (s := fresh s) h), fun h => hwrite _ (writeHcmd_busy (s := fresh s) h)⟩
  case refine_5 =>
    intro seq code s hposted hclk hlock u fin
    have hp : postedAs u code = some seq := postedAs_of (s := u) hposted hclk hlock
    refine ⟨fun hcode => congrArg _ (hostNop_posted hp hcode), fun hcode => ?_, fun hcode => ⟨fun hoff => ?_, fun hon => ?_⟩,
      fun hcode hall hdone hvalid hstoring hwait => ?_⟩
    · intro n ps
      exact ⟨fun hlo hhi hok => ⟨_, rfl, congrArg _ (hostApply_all hp hcode hlo hhi hok)⟩,
        fun hbad => congrArg _ (hostApply_none hp hcode hbad)⟩
    · exact congrArg _ (hostReadCut_stopped hp hcode hoff)
    · exact ⟨_, congrArg _ (hostReadCut_running hp hcode hon), getD_cut u (by decide), getD_cut u (by decide),
        getD_cut u (by decide), getD_cut u (by decide)⟩
    · exact congrArg _ (hostStoreAll_begins hp hcode hall hdone hvalid hstoring hwait)

end Sys2Proof.Machine
end

section
/-! R304 to R306: the reset pins and the supplies. -/

namespace Sys2Proof.Machine

open Sys2Proof

/-! ### What a reset tears and clears -/

/-- The stores and the loader operation that a reset interrupts (R323, R361). -/
def torn (s : State) : State := loaderTorn (bookTorn (marginTorn s))

theorem marginTorn_frame (s : State) : ∃ fl st dn,
    marginTorn s = { s with flash := fl, margin := { s.margin with storing := st, done := dn } } := by
  unfold marginTorn
  split
  · exact ⟨s.flash, s.margin.storing, s.margin.done, rfl⟩
  · exact ⟨_, _, _, rfl⟩

theorem bookTorn_frame (s : State) : ∃ fl bk, bookTorn s = { s with flash := fl, book := bk } := by
  unfold bookTorn
  split
  · exact ⟨s.flash, _, rfl⟩
  · exact ⟨_, _, rfl⟩

theorem loaderTorn_frame (s : State) : ∃ fl, loaderTorn s = { s with flash := fl } := by
  unfold loaderTorn
  split
  · exact ⟨_, rfl⟩
  · split
    · exact ⟨_, rfl⟩
    · exact ⟨s.flash, rfl⟩

theorem torn_frame (s : State) : ∃ fl st dn bk,
    torn s = { s with flash := fl, margin := { s.margin with storing := st, done := dn }, book := bk } := by
  obtain ⟨f1, st, dn, h1⟩ := marginTorn_frame s
  obtain ⟨f2, bk, h2⟩ := bookTorn_frame (marginTorn s)
  obtain ⟨f3, h3⟩ := loaderTorn_frame (bookTorn (marginTorn s))
  exact ⟨f3, st, dn, bk, by rw [torn, h3, h2, h1]⟩

/-! ### The pins -/

section
variable {s : State} (hlock : s.curt.lockout = false)
include hlock

theorem exec_porstNAssert_low (hao : s.start.aoUp = true) (hpin : s.start.porstLow = false) :
    exec .porstNAssert s = .next (
      let u := tapKeep (fresh s) (resetTo true (torn (fresh s)))
      { u with start := { u.start with porstLow := true, causeCode := 0, curtPend := false } }) := by
  have hguard : (!(fresh s).start.aoUp || (fresh s).curt.lockout || (fresh s).start.porstLow) = false := by
    change (!s.start.aoUp || s.curt.lockout || s.start.porstLow) = false
    rw [hao, hlock, hpin]
    rfl
  exact if_neg (ne_true_of_eq_false hguard)

section
variable (hup : s.start.blkUp = true)
include hup

theorem exec_porstNRelease_starts (hao : s.start.aoUp = true) (hlow : s.start.porstLow = true)
    (hhrst : s.start.hrstLow = false) : exec .porstNRelease s = .next { s with
      out := [],
      start := { s.start with
        porstLow := false, state := 1, causeCode := 0, curtPend := false, warm := false, starts := 0 } } := by
  have hguard : (!(fresh s).start.aoUp || !(fresh s).start.porstLow) = false := by
    change (!s.start.aoUp || !s.start.porstLow) = false
    rw [hao, hlow]
    rfl
  refine (if_neg (ne_true_of_eq_false hguard)).trans (congrArg Host.Outcome.next ?_)
  exact beginStart_begins (s := { fresh s with start := { s.start with porstLow := false } }) hlock rfl hhrst hup

section
variable (hporst : s.start.porstLow = false)
include hporst

theorem exec_hrstNAssert_low (hpin : s.start.hrstLow = false) : exec .hrstNAssert s = .next (
    let u := tapKeep (fresh s) (resetTo s.start.undef (torn (fresh s)))
    { u with start := { u.start with hrstLow := true, undef := s.start.undef } }) := by
  have hpins : ((fresh s).start.hrstLow || (fresh s).curt.lockout) = false := by
    change (s.start.hrstLow || s.curt.lockout) = false
    rw [hpin, hlock]
    rfl
  have hgo : (!(fresh s).start.blkUp || (fresh s).start.porstLow) = false := by
    change (!s.start.blkUp || s.start.porstLow) = false
    rw [hup, hporst]
    rfl
  exact (if_neg (ne_true_of_eq_false hpins)).trans (if_neg (ne_true_of_eq_false hgo))

theorem exec_hrstNRelease_starts (hlow : s.start.hrstLow = true) : exec .hrstNRelease s = .next { s with
    out := [],
    start := { s.start with
      hrstLow := false, undef := false, state := 1, causeCode := 1, curtPend := false, warm := !s.start.undef,
      starts := if s.start.undef then 0 else (s.start.starts + 1) % 2 ^ 16 } } := by
  have hpin : (!(fresh s).start.hrstLow) = false := by
    rw [show (fresh s).start.hrstLow = true from hlow]
    rfl
  have hgo : ((fresh s).start.porstLow || !(fresh s).start.blkUp) = false := by
    change (s.start.porstLow || !s.start.blkUp) = false
    rw [hup, hporst]
    rfl
  refine (if_neg (ne_true_of_eq_false hpin)).trans
    ((if_neg (ne_true_of_eq_false hgo)).trans (congrArg Host.Outcome.next ?_))
  exact beginStart_begins (s := { fresh s with start := { s.start with hrstLow := false, undef := false } })
    hlock hporst rfl hup

end
end
end

/-! ### The supplies -/

theorem exec_blockSupplyLoss_up {s : State} (hup : s.start.blkUp = true) : exec .blockSupplyLoss s = .next (
    let u := clearState true (torn (fresh s))
    { u with
      start := { u.start with blkUp := false, bclkAbsent := false },
      fault := { u.fault with safe := s.curt.lockout, safeEarly := s.curt.lockout } }) := by
  have hguard : (!(fresh s).start.blkUp) = false := by
    rw [show (fresh s).start.blkUp = true from hup]
    rfl
  exact if_neg (ne_true_of_eq_false hguard)

theorem deliverHeld_nothing {s : State} (h : s.fault.held = []) : deliverHeld s = s := by
  rw [deliverHeld, h]
  dsimp only [List.foldl_nil]
  rw [← h]

theorem exec_blockSupplyReturn_starts {s : State} (hdown : s.start.blkUp = false) (hporst : s.start.porstLow = false)
    (hhrst : s.start.hrstLow = false) (hlock : s.curt.lockout = false) (hheld : s.fault.held = []) :
    exec .blockSupplyReturn s = .next { s with
      out := [],
      start := { s.start with
        blkUp := true, aoUp := true, state := 1, causeCode := if s.start.curtPend then 2 else 0, curtPend := false,
        warm := false, starts := 0 } } := by
  have hguard : ¬ (fresh s).start.blkUp = true := ne_true_of_eq_false hdown
  refine (if_neg hguard).trans (congrArg Host.Outcome.next ?_)
  have hbegin := beginStart_begins (cold := true) (cause := if s.start.curtPend then 2 else 0)
    (s := { fresh s with start := { s.start with blkUp := true, aoUp := true } }) hlock hporst hhrst rfl
  exact (congrArg deliverHeld hbegin).trans (deliverHeld_nothing hheld)

/-- Under Lockout the reset pins change nothing (R337). -/
theorem exec_pins_lockout {s : State} (hlock : s.curt.lockout = true) :
    exec .porstNAssert s = .next { s with out := [] } ∧ exec .hrstNAssert s = .next { s with out := [] } := by
  have hporst : (!(fresh s).start.aoUp || (fresh s).curt.lockout || (fresh s).start.porstLow) = true := by
    rw [show (fresh s).curt.lockout = true from hlock, Bool.or_true, Bool.true_or]
  have hhrst : ((fresh s).start.hrstLow || (fresh s).curt.lockout) = true := by
    rw [show (fresh s).curt.lockout = true from hlock, Bool.or_true]
  exact ⟨if_pos hporst, if_pos hhrst⟩

/-- Settles O50: each pin and supply by its `exec` lemma; what an interrupted operation tears is `torn_frame`. -/
theorem resetCommands : Obligations.ResetCommands := by
  unfold Obligations.ResetCommands
  refine ⟨?_, ?_, ?_, ?_, ?_, ?_, ?_, ?_, ?_⟩
  case refine_1 =>
    intro s hao hlock hpin
    obtain ⟨fl, st, dn, bk, htorn⟩ := torn_frame (fresh s)
    refine ⟨_, exec_porstNAssert_low hlock hao hpin, ?_⟩
    rw [htorn]
    exact ⟨rfl, rfl, rfl, rfl, rfl, rfl, rfl, rfl, rfl, rfl, rfl, rfl, rfl, rfl, rfl, rfl, rfl, rfl, rfl, rfl, rfl, rfl⟩
  case refine_2 => exact fun s hao hlow hhrst hup hlock => exec_porstNRelease_starts hlock hup hao hlow hhrst
  case refine_3 =>
    intro s hpin hlock hup hporst hundef
    obtain ⟨fl, st, dn, bk, htorn⟩ := torn_frame (fresh s)
    refine ⟨_, exec_hrstNAssert_low hlock hup hporst hpin, ?_⟩
    rw [htorn, hundef]
    exact ⟨rfl, rfl, rfl, rfl, rfl, rfl, rfl, rfl, rfl, rfl, rfl, rfl, rfl, rfl, rfl, rfl, rfl, rfl, rfl, rfl, rfl, rfl,
      rfl, rfl, rfl⟩
  case refine_4 =>
    intro s hpin hlock hup hporst hundef
    obtain ⟨fl, st, dn, bk, htorn⟩ := torn_frame (fresh s)
    refine ⟨_, exec_hrstNAssert_low hlock hup hporst hpin, ?_⟩
    rw [htorn, hundef]
    exact ⟨rfl, rfl, rfl, rfl, rfl, rfl, rfl, rfl, rfl⟩
  case refine_5 => exact fun s hlow hporst hup hlock => exec_hrstNRelease_starts hlock hup hporst hlow
  case refine_6 =>
    intro s hup
    obtain ⟨fl, st, dn, bk, htorn⟩ := torn_frame (fresh s)
    refine ⟨_, exec_blockSupplyLoss_up hup, ?_⟩
    rw [htorn]
    exact ⟨rfl, rfl, rfl, rfl, rfl, rfl, rfl, rfl, rfl, rfl, rfl, rfl, rfl, rfl, rfl, rfl⟩
  case refine_7 =>
    exact fun s hdown hporst hhrst hlock hheld => exec_blockSupplyReturn_starts hdown hporst hhrst hlock hheld
  case refine_8 =>
    intro s
    obtain ⟨fl, st, dn, bk, htorn⟩ := torn_frame (fresh s)
    have hpar : (torn (fresh s)).par = s.par := by rw [htorn]; rfl
    have hpending : (torn (fresh s)).pending = s.pending := by rw [htorn]; rfl
    exact ⟨_, rfl, rfl, rfl, rfl, rfl, rfl, rfl, hpar, hpending⟩
  case refine_9 => exact fun s hlock => exec_pins_lockout hlock

end Sys2Proof.Machine
end

section
/-! R306 to R320, R408: the stages of a start and its refusals. -/

namespace Sys2Proof.Machine

open Sys2Proof

/-! ### What telling of a fault below class S changes -/

/-- `t` is `s` after faults below class S and events have been told. -/
def ToldOnly (s t : State) : Prop :=
  ∃ f bk bufs fz fs cs fr, t = { s with
    fault := f, book := bk, obs := { s.obs with bufs := bufs }, core := { s.core with freezeReq := fz, faultSince := fs },
    regs := { s.regs with cause := cs }, free := fr }

namespace ToldOnly

theorem refl (s : State) : ToldOnly s s :=
  ⟨s.fault, s.book, s.obs.bufs, s.core.freezeReq, s.core.faultSince, s.regs.cause, s.free, rfl⟩

theorem trans {s t u : State} (h : ToldOnly s t) (k : ToldOnly t u) : ToldOnly s u := by
  obtain ⟨_, _, _, _, _, _, _, rfl⟩ := h
  obtain ⟨f, bk, bufs, fz, fs, cs, fr, rfl⟩ := k
  exact ⟨f, bk, bufs, fz, fs, cs, fr, rfl⟩

theorem report {code : Nat} (v : Int) (s : State) (h : faultClass code < 4) : ToldOnly s (report code v s) :=
  report_frame code v s h

theorem reportIf {code : Nat} (b : Bool) (v : Int) (s : State) (h : faultClass code < 4) :
    ToldOnly s (reportIf b code v s) := by
  cases b
  · exact refl s
  · exact report v s h

theorem raise (g b : Nat) (s : State) : ToldOnly s (raise g b s) :=
  ⟨s.fault, s.book, s.obs.bufs, s.core.freezeReq, s.core.faultSince, _, s.free, rfl⟩

theorem event (code : Nat) (v : Int) (s : State) : ToldOnly s (event code v s) := by
  obtain ⟨bk, bufs, fz, cs, fr, h⟩ := event_frame code v s
  exact ⟨s.fault, bk, bufs, fz, s.core.faultSince, cs, fr, h⟩

theorem foldl {α : Type} {f : State → α → State} (hf : ∀ x a, ToldOnly x (f x a)) (l : List α) (s : State) :
    ToldOnly s (l.foldl f s) :=
  List.foldlRecOn (motive := ToldOnly s) l f (refl s) fun x hx a _ => hx.trans (hf x a)

theorem onlyTold {s t : State} (h : ToldOnly s t) : s.onlyTold t := by
  obtain ⟨_, _, _, _, _, _, _, rfl⟩ := h
  rfl

end ToldOnly

/-! ### Frames of the Fast Rail Interface -/

/-- `t` is `s` after frames have been sent. -/
def Sent (s t : State) : Prop := ∃ o q, t = { s with out := o, port := { s.port with fseq := q } }

namespace Sent

theorem refl (s : State) : Sent s s := ⟨s.out, s.port.fseq, rfl⟩

theorem eq {s t : State} (h : Sent s t) : t = { s with out := t.out, port := { s.port with fseq := t.port.fseq } } := by
  obtain ⟨_, _, rfl⟩ := h
  rfl

theorem trans {s t u : State} (h : Sent s t) (k : Sent t u) : Sent s u := by
  obtain ⟨_, _, rfl⟩ := h
  obtain ⟨o, q, rfl⟩ := k
  exact ⟨o, q, rfl⟩

theorem friSends {α : Type} (type : Nat) (addr value : α → Nat) (l : List α) (s : State) :
    Sent s (l.foldl (fun x a => friSend type (addr a) (value a) x) s) :=
  List.foldlRecOn (motive := Sent s) l _ (refl s) fun x hx a _ => hx.trans (friSend_frame type (addr a) (value a) x)

theorem railGreet (s : State) : Sent s (railGreet s) :=
  .trans (friSends 4 id (fun _ => 0) _ s) (friSends 5 Prod.fst Prod.snd _ _)

end Sent

theorem length_friSends {α : Type} (type : Nat) (addr value : α → Nat) (l : List α) (s : State) :
    (l.foldl (fun x a => friSend type (addr a) (value a) x) s).out.length = s.out.length + l.length := by
  induction l generalizing s with
  | nil => rfl
  | cons a r ih =>
    rw [List.foldl_cons, ih, List.length_cons]
    simp only [friSend, List.length_append, List.length_singleton]
    omega

/-! ### A rejection -/

/-- A fault of class S: the record is open at class S or above, and the safe state stands (R331, R335). -/
theorem report_severe {code : Nat} {v : Int} {s : State} (hclk : clocked s = true) (hcls : faultClass code = 4) :
    (report code v s).start = s.start ∧ (report code v s).fault.safe = true ∧ (report code v s).fault.isOpen = true ∧
      4 ≤ (report code v s).fault.cls := by
  obtain ⟨safe, early, err, hf, hsafe⟩ := reportInj_fault_of_record (code := code) v false hclk (by omega)
  have hstart : (report code v s).start = s.start := by
    rw [report, reportInj_eq_collect v false hclk (by omega), collect_of_severe v false hcls, enterSafe_start, recorded_start]
  refine ⟨hstart, ?_⟩
  change (reportInj false code v s).fault.safe = true ∧ _ ∧ 4 ≤ (reportInj false code v s).fault.cls
  rw [show (report code v s).fault = (reportInj false code v s).fault from rfl, hf]
  refine ⟨(hsafe (by omega)).1, ?_⟩
  cases hopen : s.fault.isOpen
  case false =>
    rw [recordFault_of_closed _ _ _ _ _ ((countFault_isOpen ..).trans hopen)]
    exact ⟨rfl, Nat.le_of_eq hcls.symm⟩
  case true =>
    have hcount : (countFault (faultClass code) false s.fault).isOpen = true := (countFault_isOpen ..).trans hopen
    rw [recordFault_of_open _ _ _ _ _ hcount]
    exact ⟨hcount, Nat.le_trans (Nat.le_of_eq hcls.symm) (Nat.le_max_right _ _)⟩

/-- The start registers of a rejection (R319). -/
def rejected (b : Bad) (t : StartSt) : StartSt :=
  { t with
    state := 14, reason := b.reason, sect := b.sect, detail := b.detail, offset := b.off, streaming := false,
    ldBusy := t.ldBusy && !t.streaming, ldDone := t.ldDone || t.streaming,
    ldStatus := if t.streaming then 3 else t.ldStatus }

theorem reject_rejects (b : Bad) {s : State} (hclk : clocked s = true) :
    (reject b s).start = rejected b s.start ∧ (reject b s).fault.safe = true ∧ (reject b s).fault.isOpen = true ∧
      4 ≤ (reject b s).fault.cls := by
  have hclk' : clocked (raiseIf s.start.streaming 11 1 { s with start := rejected b s.start }) = true := by
    rw [raiseIf_regs]
    exact hclk
  obtain ⟨hstart, hsafe, hopen, hcls⟩ := report_severe (code := 0xC001) (v := 0) hclk' (by decide)
  refine ⟨hstart.trans ?_, hsafe, hopen, hcls⟩
  rw [raiseIf_regs]

theorem reject_keeps (b : Bad) (s : State) :
    (reject b s).par = s.par ∧ (reject b s).curt = s.curt ∧ (reject b s).flash = s.flash ∧
      (reject b s).pending = s.pending ∧ (reject b s).pb = s.pb := by
  unfold reject
  extract_lets ld t s1
  rw [report_par, report_curt, report_flash, report_pending, report_pb, raiseIf_regs]
  exact ⟨rfl, rfl, rfl, rfl, rfl⟩

/-! ### The stages -/

section
variable {s : State} {n : Nat} (hstage : inStage s n = true)
include hstage

theorem inStage_guard : ¬ (!inStage (fresh s) n) = true := by
  rw [show inStage (fresh s) n = true from hstage]
  decide

theorem clocked_of_inStage : clocked (fresh s) = true := by
  simp only [inStage, Bool.and_eq_true] at hstage
  exact hstage.1.1.2

end

/-! ### The self-test and the memories -/

theorem exec_curtainTest_passes {s : State} (hstage : inStage s 1 = true) : exec (.curtainTest []) s = .next { s with
    out := [], start := { s.start with state := 2 }, curt := { s.curt with selftestOk := true } } :=
  (if_neg (inStage_guard hstage)).trans (if_pos rfl)

theorem exec_curtainTest_fails {a : Nat} {l : List Nat} {s : State} (hstage : inStage s 1 = true) :
    exec (.curtainTest (a :: l)) s = .next (curtLock 1 0x8005 (emit (.curtain false false)
      { fresh s with curt := { s.curt with selftestOk := false } })) :=
  (if_neg (inStage_guard hstage)).trans (if_neg (List.cons_ne_nil a l))

/-- A failed self-test locks the block out (R267). -/
theorem curtLock_selftest {s : State} (hclk : clocked s = true) (hlock : s.curt.lockout = false) :
    let t := curtLock 1 0x8005 s
    t.curt.lockout = true ∧ t.curt.lockCause = 1 ∧ t.curt.selftestOk = s.curt.selftestOk ∧ t.start.state = 15 ∧
      t.fault.safe = true := by
  intro t
  have ht : t = report 0x8005 0 { s with curt := { s.curt with lockout := true, lockCause := 1 } } :=
    if_neg (ne_true_of_eq_false hlock)
  obtain ⟨safe, early, err, hf, hsafe⟩ := reportInj_fault_of_record (code := 0x8005)
    (s := { s with curt := { s.curt with lockout := true, lockCause := 1 } }) 0 false hclk (by decide)
  have hstate := reportInj_lockout (code := 0x8005)
    (s := { s with curt := { s.curt with lockout := true, lockCause := 1 } }) 0 false hclk (by decide)
  have hfault : t.fault.safe = true := by
    rw [ht]
    exact (congrArg FaultSt.safe hf).trans (hsafe (by decide)).1
  have hcurt : t.curt = { s.curt with lockout := true, lockCause := 1 } := by
    rw [ht, report_curt]
  rw [hcurt]
  refine ⟨rfl, rfl, rfl, ?_, hfault⟩
  rw [ht]
  exact hstate

/-- The frames and targets of MEM_INIT (R408). -/
theorem exec_memInit_frame {s : State} (hstage : inStage s 2 = true) : ∃ o q rv, exec .memInit s = .next { s with
    out := o, start := { s.start with state := 3 }, law := { s.law with railV := rv },
    port := { s.port with fseq := q, cueReady := true } } := by
  obtain ⟨o, q, h⟩ := (Sent.railGreet (fresh s)).trans
    (.friSends 1 id (fun _ => s.par.safeVolt) (safeRailList (fresh s)) (railGreet (fresh s)))
  refine ⟨o, q, (safeRailList (fresh s)).foldl (fun t r => tset 0 r s.par.safeVolt t) s.law.railV, ?_⟩
  refine (if_neg (inStage_guard hstage)).trans (congrArg Host.Outcome.next ?_)
  exact congrArg (fun x : State => toState 3 { x with
    port := { x.port with cueReady := true },
    law := { x.law with railV := (safeRailList (fresh s)).foldl (fun t r => tset 0 r s.par.safeVolt t) x.law.railV } }) h

theorem exec_pingRepeat_stage {s : State} (hlive : s.start.live = false) (hclk : clocked s = true)
    (hlo : 3 ≤ s.start.state) (hhi : s.start.state ≤ 8) :
    exec .pingRepeat s = .next (((s.pb.law.rails.filter (fun r => r.2.iface = 0 && !s.port.replied.contains r.1)).map
      Prod.fst).foldl (fun x r => friSend 4 r 0 x) (fresh s)) := by
  refine if_neg ?_
  rw [show (fresh s).start.live = false from hlive, show clocked (fresh s) = true from hclk,
    show (fresh s).start.state = s.start.state from rfl]
  simp only [Bool.not_true, Bool.or_false, Bool.false_or, Bool.or_eq_true, decide_eq_true_eq]
  omega

/-! ### The flash and the image's checks -/

section
variable {rev d : Nat} {e q : Bool} {s : State} (hstage : inStage s 3 = true)
include hstage

theorem exec_discover_invalid : exec (.discover false rev d e q) s = .next (reject ⟨0x01, 0, 0, 0⟩ (fresh s)) :=
  (if_neg (inStage_guard hstage)).trans (if_pos rfl)

theorem exec_discover_unfit (h : d < 27 ∨ e = false) : exec (.discover true rev d e q) s = .next (reject ⟨0x02, 0, 0, 0⟩
    { fresh s with start := { s.start with density := d, sfdpRev := rev } }) := by
  refine (if_neg (inStage_guard hstage)).trans ((if_neg (by decide)).trans (if_pos ?_))
  rw [Bool.or_eq_true, decide_eq_true_eq, Bool.not_eq_true']
  exact h

theorem exec_discover_fit (h : 27 ≤ d) : exec (.discover true rev d true q) s = .next { s with
    out := [],
    start := { s.start with
      state := 4, flashOk := true, density := d, sfdpRev := rev, mode := if q then 2 else 1,
      addr4 := decide (27 < d) } } := by
  refine (if_neg (inStage_guard hstage)).trans ((if_neg (by decide)).trans (if_neg ?_))
  rw [Bool.or_eq_true, decide_eq_true_eq]
  rintro (hd | he)
  · omega
  · exact Bool.false_ne_true he

end

/-- The flash does not answer in DISCOVER or READ (R421). -/
theorem exec_flashReadTimeout_start {s : State} (hstage : inStage s 3 = true ∨ inStage s 4 = true)
    (hmargin : s.margin.storing = none) (hbook : s.book.storing = none) :
    exec .flashReadTimeout s = .next (reject ⟨0x03, 0, 0, 0⟩ (fresh s)) := by
  have hclk : clocked (fresh s) = true := hstage.elim clocked_of_inStage clocked_of_inStage
  have hguard : (inStage (fresh s) 3 || inStage (fresh s) 4) = true := by
    rw [Bool.or_eq_true]
    exact hstage
  change execFlashReadTimeout s = _
  unfold execFlashReadTimeout
  extract_lets s0
  rw [show clocked s0 = true from hclk, show s0.margin.storing = none from hmargin, show s0.book.storing = none from hbook]
  exact (if_neg (by decide)).trans (if_pos hguard)

theorem coldRead_told (p : Playbill) (s : State) : ∃ m, ToldOnly
    { s with start := { s.start with coldDue := false }, margin := m } (coldRead p s) := by
  unfold coldRead
  extract_lets w src ok st h pick opmin t m b s1
  have hbook : ToldOnly { s with start := { s.start with coldDue := false }, margin := s1.margin } s1 :=
    ⟨s.fault, _, s.obs.bufs, s.core.freezeReq, s.core.faultSince, s.regs.cause, s.free, rfl⟩
  exact ⟨_, hbook.trans (.reportIf _ 0 s1 (by decide))⟩

theorem bookCheck_told (p : Playbill) (s : State) : ToldOnly s (bookCheck p s) := by
  unfold bookCheck
  extract_lets st b s1
  have hbook : ToldOnly s s1 :=
    ⟨s.fault, _, s.obs.bufs, s.core.freezeReq, s.core.faultSince, s.regs.cause, s.free, rfl⟩
  split
  · exact hbook.trans (.event ..)
  · exact hbook

/-- The end of READ (R319): beside the stage, the margin record, and what the checks of the stored book tell. -/
theorem readEnd_told (n : Nat) (s : State) : ∃ m, ToldOnly
    { s with start := { s.start with state := n, coldDue := false }, margin := m } (readEnd n s) := by
  have hcold : ∃ m, ToldOnly { s with start := { s.start with coldDue := false }, margin := m }
      (if s.start.coldDue then coldRead (startContent s).1 s else s) := by
    cases hdue : s.start.coldDue
    case true => exact coldRead_told (startContent s).1 s
    case false =>
      refine ⟨s.margin, ?_⟩
      rw [if_neg Bool.false_ne_true, ← hdue]
      exact .refl s
  obtain ⟨m, hm⟩ := hcold
  obtain ⟨_, _, _, _, _, _, _, ht⟩ := hm.trans (bookCheck_told (startContent s).1 _)
  refine ⟨m, ?_⟩
  change ToldOnly _ (toState n (bookCheck _ _))
  rw [ht]
  exact ⟨_, _, _, _, _, _, _, rfl⟩

section
variable {s : State} (hstage : inStage s 4 = true)
include hstage

theorem exec_read_ends (h : readBad s.par.build (startSrc s) = none) : exec .read s =
    .next (readEnd (if s.par.secRelease = 1 ∧ s.start.keyLocked = false then 5 else 6) (fresh s)) := by
  change execRead s = _
  unfold execRead
  extract_lets s0
  rw [if_neg (inStage_guard hstage), show readBad s0.par.build (startSrc s0) = none from h]
  rfl

theorem exec_read_rejects {b : Bad} (h : readBad s.par.build (startSrc s) = some b) :
    exec .read s = .next (reject b (fresh s)) := by
  change execRead s = _
  unfold execRead
  extract_lets s0
  rw [if_neg (inStage_guard hstage), show readBad s0.par.build (startSrc s0) = some b from h]
  rfl

end

section
variable {s : State} (hstage : inStage s 6 = true)
include hstage

theorem exec_verify_passes (h : verifyNow s (startSrc s) = none) : exec .verify s =
    .next { s with out := [], start := { s.start with state := 7 } } := by
  change execVerify s = _
  unfold execVerify
  extract_lets s0
  rw [if_neg (inStage_guard hstage), show verifyNow s0 (startSrc s0) = none from h]
  rfl

theorem exec_verify_rejects {b : Bad} (h : verifyNow s (startSrc s) = some b) :
    exec .verify s = .next (reject b (fresh s)) := by
  change execVerify s = _
  unfold execVerify
  extract_lets s0
  rw [if_neg (inStage_guard hstage), show verifyNow s0 (startSrc s0) = some b from h]
  rfl

end

/-! ### An image that takes effect -/

/-- What the initial values and the end of CHECK leave as the image gave it. -/
def imageView (s : State) : Playbill × TicketSt × Tab Nat × Nat × MgmtSt × Params × CurtSt × Tab Nat × List Instr :=
  (s.pb, s.tk, s.law.scene, s.time.pSel, s.mgmt, s.par, s.curt, s.flash, s.pending)

theorem imageView_cap (c : CapSt) (s : State) : imageView { s with cap := c } = imageView s := rfl

theorem imageView_putReg (off w : Nat) (s : State) : imageView (putReg off w s) = imageView s := rfl

theorem imageView_hostRefuse (s : State) : imageView (hostRefuse s) = imageView s := by
  rw [hostRefuse, raiseIf_regs]
  rfl

theorem imageView_writeHostCap (w : Nat) (s : State) : imageView (writeHostCap w s) = imageView s := by
  unfold writeHostCap
  split
  · exact imageView_putReg ..
  · exact imageView_hostRefuse s

theorem imageView_writeHostPref (w : Nat) (s : State) : imageView (writeHostPref w s) = imageView s := by
  unfold writeHostPref
  split
  · exact (imageView_cap ..).trans (imageView_putReg ..)
  · split
    · exact imageView_hostRefuse s
    · exact imageView_cap ..

theorem imageView_initialWrite (s : State) (w : Nat × Nat) : imageView (initialWrite s w) = imageView s := by
  unfold initialWrite
  split
  · rfl
  · split
    · rfl
    · split
      · exact imageView_writeHostCap w.2 s
      · split
        · exact imageView_writeHostPref w.2 s
        · exact imageView_putReg w.1 w.2 s

theorem imageView_initialWrites (l : List (Nat × Nat)) (s : State) :
    imageView (l.foldl initialWrite s) = imageView s :=
  List.foldlRecOn (motive := fun x => imageView x = imageView s) l _ rfl fun x hx w _ =>
    (imageView_initialWrite x w).trans hx

theorem ToldOnly.imageView {s t : State} (h : ToldOnly s t) : imageView t = imageView s ∧ t.start = s.start ∧
    t.regs.act = s.regs.act ∧ t.regs.wr = s.regs.wr := by
  obtain ⟨_, _, _, _, _, _, _, rfl⟩ := h
  exact ⟨rfl, rfl, rfl, rfl⟩

theorem holdoverEnter_keeps (s : State) : imageView (holdoverEnter s) = imageView s ∧
    (holdoverEnter s).start = s.start ∧ (holdoverEnter s).regs.act = s.regs.act ∧
    (holdoverEnter s).regs.wr = s.regs.wr := by
  unfold holdoverEnter
  split
  · exact ⟨rfl, rfl, rfl, rfl⟩
  · have htold := (ToldOnly.report (code := 0x1002) 0
      { s with time := { lockLost s.time with holdover := true, holdSince := s.time.up } } (by decide)).trans (.raise 1 0 _)
    exact htold.imageView

/-- SETTLE leaves the image and the registers as CHECK put them (R308). -/
theorem settle_keeps (s : State) : imageView (settle s) = imageView s ∧ (settle s).start.state = 8 ∧
    (settle s).regs.act = s.regs.act ∧ (settle s).regs.wr = s.regs.wr := by
  unfold settle
  extract_lets
  split
  · exact ⟨rfl, rfl, rfl, rfl⟩
  · obtain ⟨hview, hstart, hact, hwr⟩ := holdoverEnter_keeps _
    exact ⟨hview, congrArg StartSt.state hstart, hact, hwr⟩

/-- The state as an accepted image fills it (R307). -/
def imageFilled (x : Src) (p : Playbill) (s : State) : State :=
  { s with
    pb := p,
    time := { s.time with pSel := p.cap.pSel },
    core := { s.core with mem := memLoad s.par.build x p s.core.mem, srState := p.seed },
    tk := { s.tk with cost := p.cost, shadow := p.cost },
    law := { s.law with scene := p.scenes },
    cap := { s.cap with auth := if s.cap.authSet then s.cap.auth else p.cap.auth },
    margin := { s.margin with base := p.guardBase, guard := (p.guardBase : Int) + 5 * s.margin.trim },
    book := { s.book with codes := p.codes },
    start := { s.start with
      partId := p.partId, imageVer := p.version, pbMinor := p.minor, fromHost := s.start.streaming, reason := 0,
      sect := 0, detail := 0, offset := 0 } }

/-- The registers as written are in force (R320). -/
def regsInForce (s : State) : State := { s with regs := { s.regs with act := s.regs.wr } }

theorem applyImage_eq (x : Src) (p : Playbill) (n : Nat) (s : State) : applyImage x p n s =
    (List.range n).foldl (fun y _ => report 0x4004 0 y) (regsInForce (p.regs.foldl initialWrite (imageFilled x p s))) := rfl

/-- An accepted image is in force, and with it every register as written (R307, R320). -/
theorem applyImage_view (x : Src) (p : Playbill) (n : Nat) (s : State) :
    imageView (applyImage x p n s) = imageView (imageFilled x p s) ∧
      (applyImage x p n s).regs.act = (applyImage x p n s).regs.wr := by
  rw [applyImage_eq]
  obtain ⟨hview, -, hact, hwr⟩ := (ToldOnly.foldl (fun y (_ : Nat) => ToldOnly.report (code := 0x4004) 0 y (by decide))
    (List.range n) (regsInForce (p.regs.foldl initialWrite (imageFilled x p s)))).imageView
  exact ⟨hview.trans (imageView_initialWrites ..), hact.trans hwr.symm⟩

theorem Sent.imageView {s t : State} (h : Sent s t) :
    imageView t = imageView s ∧ t.regs.act = s.regs.act ∧ t.regs.wr = s.regs.wr := by
  obtain ⟨_, _, rfl⟩ := h
  exact ⟨rfl, rfl, rfl⟩

/-- CHECK of an image without a failed check (R320). -/
theorem check_view (x : Src) (p : Playbill) (n : Nat) (s : State) :
    let t := settle (railGreet (applyImage x p n s))
    imageView t = imageView (imageFilled x p s) ∧ t.start.state = 8 ∧ t.regs.act = t.regs.wr := by
  intro t
  obtain ⟨happly, hforce⟩ := applyImage_view x p n s
  obtain ⟨hgreet, hga, hgw⟩ := (Sent.railGreet (applyImage x p n s)).imageView
  obtain ⟨hsettle, hstate, hact, hwr⟩ := settle_keeps (railGreet (applyImage x p n s))
  exact ⟨(hsettle.trans hgreet).trans happly, hstate,
    (hact.trans hga).trans (hforce.trans (hwr.trans hgw).symm)⟩

section
variable {s : State} (hstage : inStage s 7 = true)
include hstage

theorem exec_check_passes (h : contentBad s.par (startSrc s) (sections s.par.build (startSrc s).rd).2 (startContent s).1 = none) :
    exec .check s = .next (settle (railGreet (applyImage (startSrc s) (startContent s).1 (startContent s).2 (fresh s)))) := by
  change execCheck s = _
  unfold execCheck
  extract_lets s0 x p
  rw [if_neg (inStage_guard hstage), show contentBad s0.par x (sections s0.par.build x.rd).2 p.1 = none from h]
  rfl

theorem exec_check_rejects {b : Bad}
    (h : contentBad s.par (startSrc s) (sections s.par.build (startSrc s).rd).2 (startContent s).1 = some b) :
    exec .check s = .next (reject b (fresh s)) := by
  change execCheck s = _
  unfold execCheck
  extract_lets s0 x p
  rw [if_neg (inStage_guard hstage), show contentBad s0.par x (sections s0.par.build x.rd).2 p.1 = some b from h]
  rfl

end

/-! ### The key registers (R318) -/

theorem regClass_keyDigest {i : Nat} (hi : i < 12) : regClass (0xA040 + 4 * i) = some 4 := by
  have hall : ∀ i : Fin 12, regClass (0xA040 + 4 * i.val) = some 4 := by decide
  exact hall ⟨i, hi⟩

theorem keyLocked_guard {s : State} (hfree : s.start.keyLocked = false) : ¬ (fresh s).start.keyLocked = true :=
  ne_true_of_eq_false hfree

section
variable {s : State} (hopen : s.portOpen) (hfree : s.start.keyLocked = false)
include hopen hfree

theorem exec_release_locks : exec (.release 3) s = .next (rpAnswer 0 0 { s with
    out := [], start := { s.start with keyLocked := true, state := if s.start.state = 5 then 6 else s.start.state } }) := by
  have hwrite : writeKeyReg 0xA074 (2 ^ 31) (fresh s) = { fresh s with start := { s.start with
      keyLocked := true, state := if s.start.state = 5 then 6 else s.start.state } } :=
    (if_neg (keyLocked_guard hfree)).trans ((if_pos rfl).trans (if_pos (by decide)))
  exact congrArg Host.Outcome.next ((rpWrite_open hopen 4 (by decide) (by decide)).trans (congrArg (rpAnswer 0 0) hwrite))

theorem exec_keyMinVer_write {data : Word} (hrelease : s.par.secRelease = 1) :
    exec (.keyRegWrite 3 0xA070 data) s = .next (rpAnswer 0 0 { s with
      out := [], start := { s.start with keyMinVer := data.toNat } }) := by
  have hwrite : writeKeyReg 0xA070 data.toNat (fresh s) = { fresh s with start := { s.start with keyMinVer := data.toNat } } :=
    (if_neg (keyLocked_guard hfree)).trans ((if_neg (by decide)).trans ((if_pos rfl).trans (if_pos hrelease)))
  refine congrArg Host.Outcome.next ?_
  exact (rpWrite_open hopen 4 (by decide) (by decide)).trans (congrArg (rpAnswer 0 0) hwrite)

theorem exec_keyDigest_write {i : Nat} {data : Word} (hsource : s.par.keySource = 1) (hi : i < 12) :
    exec (.keyRegWrite 3 (0xA040 + 4 * i) data) s = .next (rpAnswer 0 0 { s with
      out := [], start := { s.start with keyDigest := s.start.keyDigest.set i data.toNat } }) := by
  have hwrite : writeKeyReg (0xA040 + 4 * i) data.toNat (fresh s) =
      { fresh s with start := { s.start with keyDigest := s.start.keyDigest.set i data.toNat } } := by
    refine (if_neg (keyLocked_guard hfree)).trans ((if_neg (by omega)).trans ((if_neg (by omega)).trans
      ((if_pos hsource).trans ?_)))
    rw [show (0xA040 + 4 * i - 0xA040) / 4 = i by omega]
    rfl
  have hrange : 0xA040 ≤ 0xA040 + 4 * i ∧ 0xA040 + 4 * i ≤ 0xA074 := by omega
  refine (if_pos hrange).trans (congrArg Host.Outcome.next ?_)
  exact (rpWrite_open hopen 4 (regClass_keyDigest hi) (by decide)).trans (congrArg (rpAnswer 0 0) hwrite)

end

/-- Settles O51: each stage by its `exec` lemma; READ by `readEnd_told`, CHECK by `check_view`. -/
theorem startStages : Obligations.StartStages := by
  unfold Obligations.StartStages
  refine ⟨fun s => exec_curtainTest_passes, fun s hstage => ?_, fun rev d quad s hstage hd => exec_discover_fit hstage hd,
    fun s hstage hread => ?_, fun s hstage => if_pos hstage, fun s hopen hfree => exec_release_locks hopen hfree,
    fun data s hopen hfree hrelease => exec_keyMinVer_write hopen hfree hrelease,
    fun i data s hopen hfree hsource hi => exec_keyDigest_write hopen hfree hsource hi, fun s hstage => ?_,
    fun s hstage => ?_, fun s hlive hup hbclk hlo hhi => ?_⟩
  case refine_1 =>
    obtain ⟨o, q, rv, h⟩ := exec_memInit_frame hstage
    exact ⟨_, h, rfl, rfl, rfl⟩
  case refine_2 =>
    obtain ⟨m, f, bk, bufs, fz, fs, cs, fr, ht⟩ :=
      readEnd_told (if s.par.secRelease = 1 ∧ s.start.keyLocked = false then 5 else 6) (fresh s)
    refine ⟨_, exec_read_ends hstage hread, ?_⟩
    rw [ht]
    exact ⟨rfl, rfl, rfl⟩
  case refine_3 =>
    cases hverify : verifyNow s (startSrc s) with
    | none =>
      exact ⟨_, exec_verify_passes hstage hverify, rfl, rfl, fun _ => rfl, fun b hb => absurd hb.symm (Option.some_ne_none b)⟩
    | some b =>
      obtain ⟨-, -, hflash, -, hpb⟩ := reject_keeps b (fresh s)
      obtain ⟨hstart, hsafe, -, -⟩ := reject_rejects b (clocked_of_inStage hstage)
      refine ⟨_, exec_verify_rejects hstage hverify, hflash, hpb, fun h => absurd h (Option.some_ne_none b), fun c hc => ?_⟩
      obtain rfl := Option.some.inj hc
      rw [hstart]
      exact ⟨rfl, rfl, rfl, hsafe⟩
  case refine_4 =>
    cases hcheck : contentBad s.par (startSrc s) (sections s.par.build (startSrc s).rd).2 (startContent s).1 with
    | none =>
      obtain ⟨hview, hstate, hforce⟩ := check_view (startSrc s) (startContent s).1 (startContent s).2 (fresh s)
      simp only [imageView, Prod.mk.injEq] at hview
      obtain ⟨hpb, htk, hscene, hp, hmgmt, hpar, hcurt, hflash, hpending⟩ := hview
      refine ⟨_, exec_check_passes hstage hcheck, hpar, hcurt, hflash, hpending, fun _ => ?_, fun b hb => absurd hb.symm (Option.some_ne_none b)⟩
      rw [htk, hpb, hscene, hp]
      exact ⟨hstate, rfl, hforce, rfl, rfl, rfl, hmgmt⟩
    | some b =>
      obtain ⟨hpar, hcurt, hflash, hpending, -⟩ := reject_keeps b (fresh s)
      obtain ⟨hstart, hsafe, -, -⟩ := reject_rejects b (clocked_of_inStage hstage)
      refine ⟨_, exec_check_rejects hstage hcheck, hpar, hcurt, hflash, hpending, fun h => absurd h (Option.some_ne_none b), fun c hc => ?_⟩
      obtain rfl := Option.some.inj hc
      rw [hstart]
      exact ⟨rfl, rfl, rfl, hsafe⟩
  case refine_5 =>
    have hsent := Sent.friSends 4 id (fun _ => 0) ((s.pb.law.rails.filter
      (fun r => r.2.iface = 0 && !s.port.replied.contains r.1)).map Prod.fst) (fresh s)
    refine ⟨_, exec_pingRepeat_stage hlive (clocked_of hup hbclk) hlo hhi, ?_, ?_⟩
    · refine (length_friSends 4 id (fun _ => 0) _ (fresh s)).trans ?_
      rw [List.length_map]
      exact Nat.zero_add _
    · exact hsent.eq

/-- Settles O52: a failed self-test by `curtLock_selftest`; every other refusal is `reject`, by `reject_rejects`. -/
theorem startRefused : Obligations.StartRefused := by
  unfold Obligations.StartRefused
  refine ⟨fun a l s hstage hlock => ?_, fun rev d e q s hstage => ⟨?_, fun hunfit => ?_⟩, fun b s hstage hread => ?_,
    fun s hstage hmargin hbook => ?_⟩
  · obtain ⟨h1, h2, h3, h4, h5⟩ := curtLock_selftest
      (s := emit (.curtain false false) { fresh s with curt := { s.curt with selftestOk := false } })
      (clocked_of_inStage hstage) hlock
    exact ⟨_, exec_curtainTest_fails hstage, h1, h2, h3, h4, h5⟩
  · obtain ⟨hstart, hsafe, hopen, hcls⟩ := reject_rejects ⟨0x01, 0, 0, 0⟩ (clocked_of_inStage hstage)
    exact ⟨_, exec_discover_invalid hstage, congrArg StartSt.state hstart, congrArg StartSt.reason hstart, hsafe, hopen, hcls⟩
  · obtain ⟨hstart, hsafe, -, -⟩ := reject_rejects ⟨0x02, 0, 0, 0⟩
      (s := { fresh s with start := { s.start with density := d, sfdpRev := rev } }) (clocked_of_inStage hstage)
    exact ⟨_, exec_discover_unfit hstage hunfit, congrArg StartSt.state hstart, congrArg StartSt.reason hstart,
      congrArg StartSt.density hstart, congrArg StartSt.sfdpRev hstart, hsafe⟩
  · obtain ⟨-, -, hflash, -, hpb⟩ := reject_keeps b (fresh s)
    obtain ⟨hstart, hsafe, -, -⟩ := reject_rejects b (clocked_of_inStage hstage)
    refine ⟨_, exec_read_rejects hstage hread, ?_⟩
    rw [hstart]
    exact ⟨rfl, rfl, rfl, rfl, rfl, hsafe, hflash, hpb⟩
  · have hclk : clocked (fresh s) = true := hstage.elim clocked_of_inStage clocked_of_inStage
    obtain ⟨-, -, hflash, -, hpb⟩ := reject_keeps ⟨0x03, 0, 0, 0⟩ (fresh s)
    obtain ⟨hstart, hsafe, -, -⟩ := reject_rejects ⟨0x03, 0, 0, 0⟩ hclk
    refine ⟨_, exec_flashReadTimeout_start hstage hmargin hbook, congrArg StartSt.state hstart,
      congrArg StartSt.reason hstart, hsafe, hflash, hpb⟩

end Sys2Proof.Machine
end

section
/-! R322, R323: the loader's operations and its stream. -/

namespace Sys2Proof.Machine

open Sys2Proof

/-! ### GO (Table 11-10) -/

/-- LOAD_CTRL keeps the low four bits of a write alone. -/
theorem regWord_loadCtrl {w v : Nat} (old : Nat) (h : bits w 3 0 = bits v 3 0) : regWord 0xA014 old w = regWord 0xA014 old v := by
  have hrow : regRow 0xA014 = some ⟨0, [fieldAll 3 0]⟩ := rfl
  have hplain : ∀ q : Prop, ¬ (0xA014 = 0x2080 ∧ q) := fun q hq => absurd hq.1 (by decide)
  unfold regWord
  rw [hrow]
  dsimp only
  rw [if_neg (hplain _), if_neg (hplain _)]
  simp only [regStore, fieldAll, List.foldl_cons, List.foldl_nil, h]

theorem putReg_loadCtrl {w v : Nat} (s : State) (h : bits w 3 0 = bits v 3 0) : putReg 0xA014 w s = putReg 0xA014 v s :=
  congrArg (fun x => { s with regs := { s.regs with wr := tset (regReset 0xA014) 0xA014 x s.regs.wr } })
    (regWord_loadCtrl (wreg s 0xA014) h)

section
variable {op p : Nat} {s u : State} (hopen : s.portOpen) (hp : 1 ≤ p)
include hopen hp

/-- A GO through the port (R322). -/
theorem loaderRow_go (hop : op < 16) (h : loaderGo op (putReg 0xA014 op (fresh s)) = u) :
    loaderRow op p s = .next (rpAnswer 0 0 u) := by
  have hbits : bits (2 ^ 31 + op) 3 0 = op := by
    rw [bits_zero]
    omega
  have hgo : (2 ^ 31 + op).testBit 31 = true := by
    rw [Nat.testBit_two_pow_add_eq, Nat.testBit_lt_two_pow (by omega)]
    rfl
  have hput : putReg 0xA014 (2 ^ 31 + op) (fresh s) = putReg 0xA014 op (fresh s) :=
    putReg_loadCtrl _ (hbits.trans (by rw [bits_zero]; omega))
  have hwrite : writeLoadCtrl (2 ^ 31 + op) (fresh s) = u := by
    unfold writeLoadCtrl
    extract_lets s1
    rw [hgo, if_pos rfl, hbits]
    exact (congrArg (loaderGo op) hput).trans h
  exact congrArg Host.Outcome.next ((rpWrite_open hopen 2 (by decide) (mayWrite_two hp)).trans (congrArg (rpAnswer 0 0) hwrite))

end

theorem loaderGo_allowed {s : State} (hstate : s.start.state = 14 ∨ s.start.state = 9) :
    (s.start.state == 14 || s.start.state == 9) = true := by
  rw [Bool.or_eq_true, beq_iff_eq, beq_iff_eq]
  exact hstate

section
variable {s : State} (hidle : s.start.ldBusy = false)
include hidle

theorem loaderGo_load (hstate : s.start.state = 14) : loaderGo 1 s = loadBegin s := by
  unfold loaderGo
  rw [hidle, hstate]
  rfl

section
variable (hstate : s.start.state = 14 ∨ s.start.state = 9)
include hstate

theorem loaderGo_program (hflash : s.start.flashOk = true) :
    loaderGo 2 s = loaderBegin 2 s ∧ loaderGo 3 s = loaderBegin 3 s := by
  unfold loaderGo
  extract_lets hold ok
  have hok : ok = true := loaderGo_allowed hstate
  rw [hidle, hok, hflash]
  exact ⟨rfl, rfl⟩

theorem loaderGo_restart (hquiet : storeRuns s = false) : loaderGo 4 s = warmStart 3 s := by
  unfold loaderGo
  extract_lets hold ok
  have hok : ok = true := loaderGo_allowed hstate
  rw [hidle, hok]
  exact if_neg (ne_true_of_eq_false hquiet)

end
end

theorem loaderBegin_putReg (op : Nat) (s : State) : loaderBegin op (putReg 0xA014 op (fresh s)) =
    putReg 0xA014 op { s with
      out := [],
      start := { s.start with
        ldOp := op, ldLen := clampN 4 8388608 (wreg s 0xA018 / 4 * 4), ldGot := [], ldUp := none, ldBusy := true,
        ldDone := false, ldStatus := 0 } } := by
  have hlen : loadLen (putReg 0xA014 op (fresh s)) = clampN 4 8388608 (wreg s 0xA018 / 4 * 4) := by
    rw [loadLen, wreg_putReg_other op _ (by decide)]
    rfl
  rw [loaderBegin, hlen]
  rfl

/-! ### The stream -/

section
variable {s : State} (hstream : streamOpen s = true) (hquiet : storeRuns s = false)
include hstream

theorem streamOpen_next {w n : Nat} (hroom : 4 * (s.start.ldGot.length + 1) < s.start.ldLen) :
    streamOpen { s with start := { s.start with ldGot := s.start.ldGot ++ [w], ldUp := some n } } = true := by
  simp only [streamOpen, Bool.and_eq_true, decide_eq_true_eq] at hstream ⊢
  obtain ⟨hop, -⟩ := hstream
  refine ⟨hop, ?_⟩
  rw [List.length_append]
  exact hroom

theorem writeLoadData_kept {w : Nat} (hroom : 4 * (s.start.ldGot.length + 1) < s.start.ldLen)
    (hright : streamWrong s.start.ldOp s.start.ldLen (s.start.ldGot ++ [w]) = false) : writeLoadData w s =
      { s with start := { s.start with ldGot := s.start.ldGot ++ [w], ldUp := some s.time.up } } := by
  unfold writeLoadData
  extract_lets ws t s1
  rw [hstream, if_neg (by decide), show streamWrong s.start.ldOp s.start.ldLen ws = false from hright,
    if_neg Bool.false_ne_true]
  exact if_pos (streamOpen_next hstream hroom)

include hquiet

theorem exec_loadData_kept {p : Nat} {data : Word} (hopen : s.portOpen) (hp : 1 ≤ p)
    (hroom : 4 * (s.start.ldGot.length + 1) < s.start.ldLen)
    (hright : streamWrong s.start.ldOp s.start.ldLen (s.start.ldGot ++ [data.toNat]) = false) :
    exec (.loadData p data) s = .next (rpAnswer 0 0 { s with
      out := [], start := { s.start with ldGot := s.start.ldGot ++ [data.toNat], ldUp := some s.time.up } }) := by
  have hguard : (streamOpen (fresh s) && storeRuns (fresh s)) = false := by
    rw [show storeRuns (fresh s) = false from hquiet, Bool.and_false]
  refine (if_neg (ne_true_of_eq_false hguard)).trans (congrArg Host.Outcome.next ?_)
  exact (rpWrite_open hopen 2 (by decide) (mayWrite_two hp)).trans
    (congrArg (rpAnswer 0 0) (writeLoadData_kept (s := fresh s) hstream hroom hright))

theorem exec_loadStreamTimeout_cal (hclk : clocked s = true) (hop : s.start.ldOp = 3)
    (hlate : s.start.ldUp ≠ some s.time.up) : exec .loadStreamTimeout s = .next (raise 11 1 { s with
      out := [],
      start := { s.start with
        ldBusy := false, ldDone := true, ldStatus := 3, ldGot := [], reason := 0x60, sect := 0, detail := 0,
        offset := 4 * s.start.ldGot.length } }) := by
  have hguard : (streamOpen (fresh s) && !storeRuns (fresh s) && clocked (fresh s) &&
      (fresh s).start.ldUp != some (fresh s).time.up) = true := by
    rw [show streamOpen (fresh s) = true from hstream, show storeRuns (fresh s) = false from hquiet,
      show clocked (fresh s) = true from hclk,
      show ((fresh s).start.ldUp != some (fresh s).time.up) = true from bne_iff_ne.2 hlate]
    rfl
  refine (if_pos hguard).trans (congrArg Host.Outcome.next ?_)
  exact (if_neg (fun h => absurd ((show (fresh s).start.ldOp = 3 from hop).symm.trans h) (by decide))).trans
    (if_neg (fun h => absurd ((show (fresh s).start.ldOp = 3 from hop).symm.trans h) (by decide)))

end

theorem exec_loaderDone_cal {s : State} (hbusy : s.start.ldBusy = true) (hend : streamOpen s = false)
    (hquiet : storeRuns s = false) (hop : s.start.ldOp = 3) :
    exec (.loaderDone false s.start.ldGot) s = .next (raise 11 1 { s with
      out := [],
      flash := flashWrite (flashWord s.flash 28) (ceilDiv s.start.ldLen 4096 * 4096) s.start.ldGot s.flash,
      start := { s.start with ldBusy := false, ldDone := true, ldStatus := 0, ldGot := [] } }) := by
  have hplace : loaderPlace s.start.ldGot (fresh s) =
      flashWrite (flashWord s.flash 28) (ceilDiv s.start.ldLen 4096 * 4096) s.start.ldGot s.flash :=
    if_neg (fun h => absurd ((show (fresh s).start.ldOp = 3 from hop).symm.trans h) (by decide))
  change execLoaderDone false s.start.ldGot s = _
  unfold execLoaderDone
  extract_lets s0 s1
  have hs1 : s1 = { s with
      out := [],
      flash := flashWrite (flashWord s.flash 28) (ceilDiv s.start.ldLen 4096 * 4096) s.start.ldGot s.flash } :=
    congrArg (fun f => { fresh s with flash := f }) hplace
  rw [show s0.start.ldBusy = true from hbusy, show streamOpen s0 = false from hend, show storeRuns s0 = false from hquiet,
    show s0.start.ldOp = 3 from hop, show s0.start.ldGot = s.start.ldGot from rfl, bne_self_eq_false, hs1]
  rfl

/-- Settles O54: each GO through `loaderRow_go`; the words of the stream, its timeout and its end by their `exec` lemmas. -/
theorem loaderCommands : Obligations.LoaderCommands := by
  unfold Obligations.LoaderCommands
  refine ⟨fun p s hopen hp hstate hidle => ?_, fun p s hopen hp hstate hidle hflash => ?_,
    fun p s hopen hp hstate hidle hquiet hlock hporst hhrst => ?_,
    fun p data s hopen hp hstream hquiet hroom hright => exec_loadData_kept hstream hquiet hopen hp hroom hright,
    fun s hup hbclk hstream hquiet hop hlate => exec_loadStreamTimeout_cal hstream hquiet (clocked_of hup hbclk) hop hlate,
    fun s hbusy hend hquiet hop => exec_loaderDone_cal hbusy hend hquiet hop⟩
  case refine_1 =>
    refine ⟨_, loaderRow_go hopen hp (op := 1) (by decide) (loaderGo_load (s := putReg 0xA014 1 (fresh s)) hidle hstate), ?_⟩
    exact ⟨rfl, rfl, rfl, rfl, rfl, rfl, rfl, rfl, rfl, rfl, rfl, rfl, rfl⟩
  case refine_2 =>
    intro began
    obtain ⟨hprog, -⟩ := loaderGo_program (s := putReg 0xA014 2 (fresh s)) hidle hstate hflash
    obtain ⟨-, hcal⟩ := loaderGo_program (s := putReg 0xA014 3 (fresh s)) hidle hstate hflash
    exact ⟨loaderRow_go hopen hp (op := 2) (by decide) (hprog.trans (loaderBegin_putReg 2 s)),
      loaderRow_go hopen hp (op := 3) (by decide) (hcal.trans (loaderBegin_putReg 3 s))⟩
  case refine_3 =>
    have hup : s.start.blkUp = true := by
      obtain ⟨hup, -⟩ := hopen
      exact hup
    have hbegin : warmStart 3 (putReg 0xA014 4 (fresh s)) = _ :=
      beginStart_begins (s := resetTo false (putReg 0xA014 4 (fresh s))) hlock hporst hhrst hup
    refine ⟨_, loaderRow_go hopen hp (op := 4) (by decide)
      ((loaderGo_restart (s := putReg 0xA014 4 (fresh s)) hidle hstate hquiet).trans hbegin), ?_⟩
    exact ⟨rfl, rfl, rfl, rfl, rfl, rfl, rfl, rfl, rfl, rfl⟩

end Sys2Proof.Machine
end

section
/-! R349 to R361: deliveries into the Prompt Book, its rows, its store and the stored bank. -/

namespace Sys2Proof.Machine

open Sys2Proof

/-! ### Deliveries -/

theorem bookFree_lowest {b : BookSt} {cap i : Nat} (hi : i < cap) (hfree : (tget bookSlot0 i b.slots).work = none)
    (hlow : ∀ j, j < i → (tget bookSlot0 j b.slots).work ≠ none) : bookFree b cap = some i := by
  rw [bookFree, List.find?_range_eq_some]
  refine ⟨by rw [hfree]; rfl, List.mem_range.2 hi, fun j hj => ?_⟩
  rw [Bool.not_eq_true', Option.isNone_eq_false_iff, Option.isSome_iff_ne_none]
  exact hlow j hj

section
variable {b : BookSt} {code : Nat} (cap up tick sev : Nat) (v : Int)

/-- A delivery of a code without an entry takes the lowest free place (R349). -/
theorem bookDeliver_new {i : Nat} (hfind : bookFind b code = none) (hi : i < cap)
    (hfree : (tget bookSlot0 i b.slots).work = none) (hlow : ∀ j, j < i → (tget bookSlot0 j b.slots).work ≠ none) :
    let x := tget bookSlot0 i b.slots
    let y := { x with
      work := some (entryNew code sev b.opmin b.pcc tick (binOf (codeRow b.codes code) v) v) }
    bookDeliver b cap up tick code sev v = ({ b with
      slots := tset bookSlot0 i (slotPublish up y) b.slots }, false) := by
  intro x y
  unfold bookDeliver
  extract_lets r bin new place
  rw [hfind]
  dsimp only
  rw [bookFree_lowest hi hfree hlow]

/-- A delivery of a code with an entry is added to it, and published where its rate has it (R350, R351). -/
theorem bookDeliver_known {i : Nat} (hfind : bookFind b code = some i) :
    let x := tget bookSlot0 i b.slots
    let y := { x with
      work := x.work.map (entryAdd b.opmin b.pcc tick (binOf (codeRow b.codes code) v) v), dirty := true }
    bookDeliver b cap up tick code sev v = ({ b with
      slots := tset bookSlot0 i (if slotDue up (codeRow b.codes code).rate x then slotPublish up y else y) b.slots },
      false) := by
  intro x y
  unfold bookDeliver
  extract_lets r bin new place
  rw [hfind]

end

/-! ### The rows -/

theorem rpAnswer_start (r : Nat) (d : Word) (s : State) : (rpAnswer r d s).start = s.start := rfl

/-- Two accesses that succeed answer twice, and the register of the port shows the second. -/
theorem rpAnswer_twice {s : State} (hout : s.out = []) (w : Word) : rpAnswer 0 w (rpAnswer 0 0 s) = { s with
    out := [.reg 0 0, .reg 0 w],
    regs := { s.regs with resp := 0, rdata := w } } := by
  unfold rpAnswer
  rw [hout]
  rfl

theorem rpAlive_congr {s t : State} (h : t.start = s.start) : rpAlive t = rpAlive s := by
  unfold rpAlive clocked
  rw [h]

theorem slotDue_of {up rate : Nat} {x : BookSlot} (h : ∀ t, x.lastPub = some t → t + rate ≤ up) : slotDue up rate x = true := by
  unfold slotDue
  cases hx : x.lastPub with
  | none => rfl
  | some t => exact decide_eq_true (h t hx)

theorem exec_pbPublish_due {code i : Nat} {s : State} (hfind : bookFind s.book code = some i)
    (hdirty : (tget bookSlot0 i s.book.slots).dirty = true)
    (hdue : slotDue s.time.up (codeRow s.book.codes code).rate (tget bookSlot0 i s.book.slots) = true) :
    exec (.pbPublish code) s = .next { s with
      out := [],
      book := { s.book with
        slots := tset bookSlot0 i (slotPublish s.time.up (tget bookSlot0 i s.book.slots)) s.book.slots } } := by
  change execPbPublish code s = _
  unfold execPbPublish
  extract_lets s0
  rw [show bookFind s0.book code = some i from hfind]
  refine if_pos ?_
  rw [Bool.and_eq_true]
  exact ⟨hdirty, hdue⟩

theorem writePbCtrl_clear (s : State) : writePbCtrl (2 ^ 30) s =
    if s.book.storing.isSome || s.book.storeWait then { s with book := { s.book with status := 1 } }
    else { s with book := { s.book with clearReq := true } } := by
  unfold writePbCtrl
  rw [show (2 ^ 30 : Nat).testBit 31 = false by decide, show (2 ^ 30 : Nat).testBit 30 = true by decide]
  rfl

theorem writePbCtrl_store (s : State) : writePbCtrl (2 ^ 31) s = bookStore s := by
  unfold writePbCtrl
  rw [show (2 ^ 31 : Nat).testBit 31 = true by decide, show (2 ^ 31 : Nat).testBit 30 = false by decide]
  rfl

theorem book_idle {s : State} (hstoring : s.book.storing = none) (hwait : s.book.storeWait = false) :
    ¬ (s.book.storing.isSome || s.book.storeWait) = true := by
  rw [hstoring, hwait]
  decide

section
variable {p : Nat} {s : State} (hopen : s.portOpen) (hp : 1 ≤ p)
include hopen hp

theorem pbCtrl_write {w : Nat} {u : State} (h : writePbCtrl w (fresh s) = u) :
    (.next (rpWrite p 0xC014 (writePbCtrl w) (fresh s)) : Host.Outcome State Fault Refusal) = .next (rpAnswer 0 0 u) :=
  congrArg Host.Outcome.next ((rpWrite_open hopen 2 (by decide) (mayWrite_two hp)).trans (congrArg (rpAnswer 0 0) h))

/-- While a store runs, CLEAR and STORE complete with status 1 (R358, R360). -/
theorem exec_pbCtrl_busy (hbusy : s.book.storing.isSome = true ∨ s.book.storeWait = true) :
    exec (.clear p) s = .next (rpAnswer 0 0 { s with out := [], book := { s.book with status := 1 } }) ∧
      exec (.pbStore p) s = .next (rpAnswer 0 0 { s with out := [], book := { s.book with status := 1 } }) := by
  have hguard : ((fresh s).book.storing.isSome || (fresh s).book.storeWait) = true := by
    rw [Bool.or_eq_true]
    exact hbusy
  exact ⟨pbCtrl_write hopen hp ((writePbCtrl_clear _).trans (if_pos hguard)),
    pbCtrl_write hopen hp ((writePbCtrl_store _).trans (if_pos hguard))⟩

section
variable (hstoring : s.book.storing = none) (hwait : s.book.storeWait = false)
include hstoring hwait

theorem exec_clear_idle : exec (.clear p) s =
    .next (rpAnswer 0 0 { s with
      out := [],
      book := { s.book with clearReq := true } }) :=
  pbCtrl_write hopen hp ((writePbCtrl_clear _).trans (if_neg (book_idle (s := fresh s) hstoring hwait)))

theorem exec_pbStore_idle (hvalid : s.pb.valid = true) : exec (.pbStore p) s = .next (rpAnswer 0 0 { s with
    out := [],
    book := { s.book with
      storing := some (bookImage s), done := false, ready := s.book.ready && !(wreg s 0xC00C).testBit 31 } }) := by
  have hgo : ¬ (!(fresh s).pb.valid) = true := by
    rw [show (fresh s).pb.valid = true from hvalid]
    decide
  exact pbCtrl_write hopen hp ((writePbCtrl_store _).trans
    ((if_neg (book_idle (s := fresh s) hstoring hwait)).trans (if_neg hgo)))

end

/-- The stored bank is selected (R361). -/
theorem exec_pbStoredFetch_selects :
    let i := wreg s 0xC00C % 2 ^ 12
    let ok := decide (s.book.stored = 0) && s.book.storing.isNone && !s.book.storeWait
    exec (.pbStoredFetch p) s = .next (rpAnswer 0 0 (
      let u := putReg 0xC00C (2 ^ 31 + i) { s with out := [] }
      { u with book := { s.book with ready := ok, fetched := if ok then some i else none } })) := by
  intro i ok
  refine congrArg Host.Outcome.next ((rpWrite_open hopen 2 (by decide) (mayWrite_two hp)).trans (congrArg (rpAnswer 0 0) ?_))
  have hi : bits (wreg (fresh s) 0xC00C) 11 0 = i := bits_zero ..
  have hok : (s.book.stored == 0 && s.book.storing.isNone && !s.book.storeWait) = ok := by
    rw [Bool.beq_eq_decide_eq]
  rw [hi]
  change (let u := putReg 0xC00C (2 ^ 31 + i) (fresh s)
    let ok := s.book.stored == 0 && s.book.storing.isNone && !s.book.storeWait
    ({ u with book := { s.book with ready := ok, fetched := if ok then some i else none } } : State)) = _
  rw [hok]
  rfl

/-- PB_FIND of the code in the upper half of `n`: the write, and then the answer (R357). -/
theorem pbFind_answers (n : Nat) : ∃ w : Word,
    (let t := rpWrite p 0xC010 (putReg 0xC010 n) (fresh s)
     if rpAlive t && t.regs.resp == 0 then done (rpAnswer 0 (BitVec.ofNat 32 (pbFindWord t)) t) else done t) = .next (
      let u := putReg 0xC010 n { s with out := [] }
      { u with out := [.reg 0 0, .reg 0 w], regs := { u.regs with resp := 0, rdata := w } }) := by
  have hwrite : rpWrite p 0xC010 (putReg 0xC010 n) (fresh s) = rpAnswer 0 0 (putReg 0xC010 n (fresh s)) :=
    rpWrite_open hopen 2 (by decide) (mayWrite_two hp)
  have hguard : (rpAlive (rpAnswer 0 0 (putReg 0xC010 n (fresh s))) &&
      (rpAnswer 0 0 (putReg 0xC010 n (fresh s))).regs.resp == 0) = true := by
    rw [Bool.and_eq_true]
    exact ⟨(rpAlive_congr ((rpAnswer_start ..).trans (putReg_start ..))).trans hopen.alive, rfl⟩
  rw [hwrite]
  exact ⟨_, (if_pos hguard).trans (congrArg Host.Outcome.next (rpAnswer_twice rfl _))⟩

end

/-! ### The end of a store -/

theorem bookCap_le (s : State) : bookCap s ≤ 4096 := by
  unfold bookCap byBuild
  split
  · exact Nat.le_refl _
  · split <;> decide

/-- A store's words lie in the region of the book (R359). -/
theorem tget_bookPlace_outside {s : State} {ws : List Nat} {a : Nat} (hlen : ws.length ≤ 16 + 32 * bookCap s)
    (ha : a < s.pb.bookOffset ∨ s.pb.bookOffset + 2 ^ 20 ≤ a) : tget 0xFF a (bookPlace s ws) = tget 0xFF a s.flash := by
  have hcap := bookCap_le s
  have hcommit : bookCommitOff = 0xFF000 := rfl
  unfold bookPlace
  extract_lets n o t
  have ho : o = s.pb.bookOffset := rfl
  have hn : n = ws.length := rfl
  rw [tget_flashProgram _ _ _ _ (by rw [List.length_drop]; omega),
    tget_flashProgram _ _ _ _ (by rw [List.length_take, List.length_drop]; omega),
    tget_flashProgram _ _ _ _ (by rw [List.length_take]; omega), tget_flashErase _ _ _ _ (by omega),
    tget_flashErase _ _ _ _ (by omega)]

theorem exec_pbStoreDone_quiet {error : Bool} {back img : List Nat} {s : State} (hstoring : s.book.storing = some img)
    (hall : s.port.storeAll = none) (hshut : s.mgmt.shutdown = none) (hwait : s.start.restartWait = false) :
    exec (.pbStoreDone error back) s = .next (bookEnd error back img (fresh s)) := by
  change execPbStoreDone error back s = _
  unfold execPbStoreDone
  extract_lets s0
  rw [show s0.book.storing = some img from hstoring]
  exact congrArg Host.Outcome.next (storesEnd_of_quiet (s := bookEnd error back img s0) hall hshut hwait)

/-- Settles O55: deliveries by `bookDeliver_new` and `bookDeliver_known`, the rows by their `exec` lemmas, the region that a store
writes by `tget_bookPlace_outside`. -/
theorem bookKept : Obligations.BookKept := by
  unfold Obligations.BookKept
  refine ⟨fun b cap up tick code sev i v hfind hi hfree hlow => ?_, fun b cap up tick code sev i e v hfind hwork => ?_,
    fun code i s hfind => ?_, fun p s hopen hp => ?_, fun error back img s hstoring _ _ hall hshut hrestart => ?_⟩
  case refine_1 =>
    exact ⟨_, _, bookDeliver_new cap up tick sev v hfind hi hfree hlow, rfl, rfl, rfl, rfl, rfl, rfl, rfl, rfl, rfl, rfl, rfl,
      rfl, rfl⟩
  case refine_2 =>
    refine ⟨_, entryAdd b.opmin b.pcc tick (binOf (codeRow b.codes code) v) v e, bookDeliver_known cap up tick sev v hfind, ?_⟩
    rw [hwork]
    split
    · exact ⟨rfl, rfl, rfl, rfl, rfl, rfl, rfl, rfl, rfl, rfl, .inl rfl⟩
    · exact ⟨rfl, rfl, rfl, rfl, rfl, rfl, rfl, rfl, rfl, rfl, .inr rfl⟩
  case refine_3 =>
    intro x hdirty hdue
    exact exec_pbPublish_due hfind hdirty (slotDue_of hdue)
  case refine_4 =>
    exact ⟨fun hbusy => exec_pbCtrl_busy hopen hp hbusy, fun hstoring hwait =>
      ⟨exec_clear_idle hopen hp hstoring hwait, fun hvalid => exec_pbStore_idle hopen hp hstoring hwait hvalid⟩,
      exec_pbStoredFetch_selects hopen hp, fun code => pbFind_answers hopen hp (code % 65536 * 65536)⟩
  case refine_5 =>
    exact ⟨_, _, _, rfl, exec_pbStoreDone_quiet hstoring hall hshut hrestart, fun hlen a ha => tget_bookPlace_outside hlen ha⟩

end Sys2Proof.Machine
end

section
/-! R422, R445 and R446: the instructions of the test access port. -/

namespace Sys2Proof.Machine

open Sys2Proof

/-! ### Selecting an instruction -/

theorem spoilIr_false {n : Nat} (h : n ∉ [0x10, 0x12]) : spoilIr n = false := by
  simp only [List.mem_cons, List.not_mem_nil, or_false, not_or] at h
  simp [spoilIr, h.1, h.2]

/-- Away from the two instructions that spoil the block, a public instruction ends a test mode and else changes nothing. -/
theorem selectIr_public {n : Nat} {s : State} (hold : spoilIr s.port.ir = false) (hn : privateIr n = false) :
    selectIr n s = (let s1 : State := { s with port := { s.port with ir := n } }
      if s.start.testMode then testLeave s1 else s1) := by
  unfold selectIr
  extract_lets old src s1 s2
  rw [show s2 = s1 from if_neg (by rw [show spoilIr old = false from hold]; exact Bool.false_ne_true), hn]
  rfl

theorem selectIr_private {n : Nat} {s : State} (hold : spoilIr s.port.ir = false) (hn : privateIr n = true) :
    selectIr n s = testHold { s with port := { s.port with ir := n } } := by
  unfold selectIr
  extract_lets old src s1 s2
  rw [show s2 = s1 from if_neg (by rw [show spoilIr old = false from hold]; exact Bool.false_ne_true), hn]
  rfl

/-- Leaving an instruction that spoils the block for a public one ends the test mode of a block that is undefined. -/
theorem selectIr_spoils {n : Nat} {s : State} (hold : spoilIr s.port.ir = true) (hne : s.port.ir ≠ n)
    (hn : privateIr n = false) (hmode : s.start.testMode = true) :
    selectIr n s = testLeave (spoil { s with port := { s.port with ir := n } }) := by
  unfold selectIr
  extract_lets old src s1 s2
  have hs2 : s2 = spoil s1 := if_pos (by
    rw [show spoilIr old = true from hold, Bool.true_and, bne_iff_ne]
    exact hne)
  rw [hs2, hn]
  exact (if_neg Bool.false_ne_true).trans (if_pos hmode)

/-- A test mode drives the hold outputs: what they change where they were not driven yet. -/
theorem testHold_frame (s : State) : ∃ o q fq tk law, testHold s = { s with
      out := o, tk := tk, law := law,
      port := { s.port with fseq := q, friQ := fq },
      start := { s.start with testMode := true },
      fault := { s.fault with errFault := true },
      core := { s.core with running := false } } ∧
    (holdOut s = true → tk = s.tk ∧ law = s.law) := by
  unfold testHold
  by_cases hheld : holdOut s = true
  · rw [if_pos hheld]
    exact ⟨_, _, _, _, _, rfl, fun _ => ⟨rfl, rfl⟩⟩
  · obtain ⟨o, q, fq, cl, rv, ag, hdrive⟩ := holdDrive_frame s
    rw [if_neg hheld, hdrive]
    exact ⟨_, _, _, _, _, rfl, fun h => absurd h hheld⟩

/-- The pair shows what the block is once the test mode has ended. -/
theorem tapOut_testLeave_errFault (l : List Nat) (s : State) :
    (tapOut l (testLeave s)).fault.errFault = !running (tapOut l (testLeave s)) := rfl

/-! ### Entering a test-mode instruction -/

/-- Instruction `n` has answered `l`, and the block is held in its test mode. -/
def TestEntered (s : State) (n : Nat) (l : List Nat) (t : State) : Prop :=
  .tap n l ∈ t.out ∧ t.port.ir = n ∧ t.start.testMode = true ∧ t.fault.errFault = true ∧
  holdOut t = true ∧ running t = false ∧ programRuns t = false ∧ t.start.state = s.start.state ∧
  t.time = s.time ∧ t.cap = s.cap ∧ t.margin = s.margin ∧ t.therm = s.therm ∧ t.curt = s.curt ∧ t.pkg = s.pkg ∧
  t.zilt = s.zilt ∧ t.mgmt = s.mgmt ∧ t.book = s.book ∧ t.obs = s.obs ∧ t.regs = s.regs ∧ t.pb = s.pb ∧
  t.par = s.par ∧ t.flash = s.flash ∧ t.pending = s.pending ∧ (holdOut s = true → t.tk = s.tk ∧ t.law = s.law)

theorem running_of_testMode {s : State} (h : s.start.testMode = true) : running s = false := by
  unfold running holdOut
  rw [h, Bool.or_true]
  rfl

/-- A state held in the test mode, with what a test-mode instruction may change further. -/
def testState (s : State) (o : List Emit) (tk : TicketSt) (law : LawSt) (p : PortSt) (f : Nat) : State :=
  { s with
    out := o, tk := tk, law := law, port := p, free := f,
    start := { s.start with testMode := true },
    fault := { s.fault with errFault := true },
    core := { s.core with running := false } }

theorem testEntered_of {s : State} {n f : Nat} {l : List Nat} {o : List Emit} {tk : TicketSt} {law : LawSt} {p : PortSt}
    (hir : p.ir = n) (hkept : holdOut s = true → tk = s.tk ∧ law = s.law) :
    TestEntered s n l (emit (.tap n l) (testState s o tk law p f)) := by
  refine ⟨List.mem_append_right _ (List.mem_singleton_self _), hir, rfl, rfl, Bool.or_true _, ?_, Bool.and_false _, rfl, rfl,
    rfl, rfl, rfl, rfl, rfl, rfl, rfl, rfl, rfl, rfl, rfl, rfl, rfl, rfl, hkept⟩
  exact running_of_testMode rfl

/-- A test-mode instruction after one that does not spoil the block. -/
theorem testState_select {s : State} {n : Nat} (hir : s.port.ir ∉ [0x10, 0x12]) (hn : privateIr n = true) :
    ∃ o q fq tk law, selectIr n (fresh s) = testState s o tk law { s.port with ir := n, fseq := q, friQ := fq } s.free ∧
      (holdOut s = true → tk = s.tk ∧ law = s.law) := by
  obtain ⟨o, q, fq, tk, law, hhold, hkept⟩ := testHold_frame { s with out := [], port := { s.port with ir := n } }
  exact ⟨o, q, fq, tk, law, (selectIr_private (s := fresh s) (spoilIr_false hir) hn).trans hhold, hkept⟩

theorem length_aoMirror (w : Nat) (f : Nat → Nat) :
    (leBytes 4 w ++ (List.range 8).flatMap (fun p => leBytes 4 (f p))).length = 36 := by
  rw [List.length_append, length_leBytes, List.length_flatMap]
  simp only [length_leBytes]
  decide

/-- Settles O57: a public instruction by `selectIr_public`, a test-mode one by `testState_select`, the end of a spoiling one by
`selectIr_spoils`. -/
theorem testPort : Obligations.TestPort := by
  unfold Obligations.TestPort
  refine ⟨fun s hir hmode => ?_, fun s hir => ?_, fun s hir hmode => ?_, fun s hir hmode => ?_, fun w s hbusy => if_pos hbusy⟩
  case refine_1 =>
    have hspoil : spoilIr s.port.ir = false := spoilIr_false (by
      intro h
      simp only [List.mem_cons, List.not_mem_nil, or_false] at h hir
      omega)
    have hselect : ∀ n, privateIr n = false → selectIr n (fresh s) = { s with out := [], port := { s.port with ir := n } } :=
      fun n hn => (selectIr_public (s := fresh s) hspoil hn).trans (if_neg (ne_true_of_eq_false hmode))
    refine ⟨?_, ?_, Config.standardBytes 0x4002 s.free, ?_⟩
    · change done (tapOut (leBytes 4 (idcode (selectIr 0x01 (fresh s)).par)) (selectIr 0x01 (fresh s))) = _
      rw [hselect 0x01 (by decide)]
      rfl
    · change done (tapOut [0] (selectIr 0xFF (fresh s))) = _
      rw [hselect 0xFF (by decide)]
      rfl
    · change execSamplePreload s = _
      unfold execSamplePreload
      rw [hselect 0x02 (by decide)]
      rfl
  case refine_2 =>
    intro entered
    refine ⟨?_, ?_, ?_, ?_, ?_⟩
    · obtain ⟨o, q, fq, tk, law, hselect, hkept⟩ := testState_select (n := 0x10) hir (by decide)
      refine ⟨emit (.tap 0x10 [1]) (testState s o tk law
        { s.port with ir := 0x10, fseq := q, friQ := fq, mbistBusy := true, mbistDone := false } s.free), ?_,
        testEntered_of rfl hkept, rfl, rfl⟩
      change execMbistRun s = _
      unfold execMbistRun
      rw [hselect]
      rfl
    · obtain ⟨o, q, fq, tk, law, hselect, hkept⟩ := testState_select (n := 0x11) hir (by decide)
      refine ⟨emit (.tap 0x11 _) (testState s o tk law { s.port with ir := 0x11, fseq := q, friQ := fq } s.free), ?_,
        testEntered_of rfl hkept, rfl⟩
      change execMbistResult s = _
      unfold execMbistResult
      rw [hselect]
      rfl
    · obtain ⟨o, q, fq, tk, law, hselect, hkept⟩ := testState_select (n := 0x12) hir (by decide)
      refine ⟨Config.standardBytes 0x4012 s.free, emit (.tap 0x12 _) (testState s o tk law
        { s.port with ir := 0x12, fseq := q, friQ := fq } (s.free + 1)), ?_, testEntered_of rfl hkept, rfl⟩
      change execScanBlock s = _
      unfold execScanBlock
      rw [hselect]
      rfl
    · obtain ⟨o, q, fq, tk, law, hselect, hkept⟩ := testState_select (n := 0x13) hir (by decide)
      refine ⟨emit (.tap 0x13 (paramImage s.par)) (testState s o tk law
        { s.port with ir := 0x13, fseq := q, friQ := fq } s.free), ?_, testEntered_of rfl hkept⟩
      change execParamRead s = _
      unfold execParamRead
      rw [hselect]
      rfl
    · obtain ⟨o, q, fq, tk, law, hselect, hkept⟩ := testState_select (n := 0x14) hir (by decide)
      have hentered : ∀ l, TestEntered s 0x14 l (tapOut l (selectIr 0x14 (fresh s))) := fun l => by
        rw [hselect]
        exact testEntered_of rfl hkept
      exact ⟨_, _, rfl, hentered _,
        length_aoMirror (readTherm (selectIr 0x14 (fresh s)) 0x8080) (pairSt (selectIr 0x14 (fresh s)))⟩
  case refine_3 =>
    have hspoil : spoilIr s.port.ir = true := by rcases hir with h | h <;> rw [h] <;> decide
    have hne : s.port.ir ≠ 0xFF := by rcases hir with h | h <;> rw [h] <;> decide
    refine ⟨tapOut [0] (testLeave (spoil { fresh s with port := { s.port with ir := 0xFF } })), ?_, rfl, rfl, rfl, ?_, rfl⟩
    · exact congrArg (fun u => Host.Outcome.next (tapOut [0] u)) (selectIr_spoils (s := fresh s) hspoil hne (by decide) hmode)
    · rfl
  case refine_4 =>
    have hspoil : spoilIr s.port.ir = false := by rcases hir with h | h | h <;> rw [h] <;> decide
    have hselect : selectIr 0xFF (fresh s) = testLeave { s with out := [], port := { s.port with ir := 0xFF } } :=
      (selectIr_public (s := fresh s) hspoil (by decide)).trans (if_pos hmode)
    refine ⟨tapOut [0] (testLeave { s with out := [], port := { s.port with ir := 0xFF } }),
      congrArg (fun u => Host.Outcome.next (tapOut [0] u)) hselect, rfl, ?_, rfl⟩
    rw [tapOut_testLeave_errFault, Bool.not_eq_true']

end Sys2Proof.Machine
end

section
/-! R25, R109, R110 and R253: what a sample edge keeps and what it sets. -/

namespace Sys2Proof.Machine

open Sys2Proof

/-! ### What the parts of an edge keep -/

/-- A value that is looked at only under a condition. -/
def lookIf {α : Type} (b : Bool) (a : α) : Option α := if b then some a else none

/-- The estimates written and applied, the operation and the routines that wait for them. -/
abbrev EstView := EstOut × EstOut × Option (Nat × Nat) × Tab Task

/-- What almost every part of an edge leaves as it was: the sample's number and period, the Playbill, the registers in
force, a restart that waits and, where `e` says so, the estimates. -/
abbrev EdgeView := Nat × Nat × Playbill × Tab Nat × Bool × Option EstView

def edgeView (e : Bool) (s : State) : EdgeView :=
  (s.time.k, s.time.pSel, s.pb, s.regs.act, s.start.restartWait,
    lookIf e (s.core.out.est, s.core.app.est, s.core.estGo, s.core.tasks))

section
variable {e : Bool}

@[simp] theorem edgeView_mk (par time ord core tk tel law cap margin therm curt pkg zilt mgmt start fault book obs port
    regs pb flash out free pending) :
    edgeView e (State.mk par time ord core tk tel law cap margin therm curt pkg zilt mgmt start fault book obs port regs
      pb flash out free pending) =
      (time.k, time.pSel, pb, regs.act, start.restartWait,
        lookIf e (core.out.est, core.app.est, core.estGo, core.tasks)) := by simp only [edgeView]

@[simp] theorem edgeView_fold (s : State) : (s.time.k, s.time.pSel, s.pb, s.regs.act, s.start.restartWait,
    lookIf e (s.core.out.est, s.core.app.est, s.core.estGo, s.core.tasks)) = edgeView e s := rfl

@[simp] theorem edgeView_ite (c : Prop) [Decidable c] (a b : State) :
    edgeView e (if c then a else b) = if c then edgeView e a else edgeView e b := apply_ite (edgeView e) c a b

theorem edgeView_foldl {β : Type} (f : State → β → State) (l : List β) (s : State)
    (h : ∀ x, ∀ b ∈ l, edgeView e (f x b) = edgeView e x) : edgeView e (l.foldl f s) = edgeView e s :=
  List.foldlRecOn l f (motive := fun x => edgeView e x = edgeView e s) rfl fun x hx b hb => (h x b hb).trans hx

theorem edgeView_foldl_snd {β γ : Type} (f : γ × State → β → γ × State) (l : List β) (s : γ × State)
    (h : ∀ x b, edgeView e (f x b).2 = edgeView e x.2) : edgeView e (l.foldl f s).2 = edgeView e s.2 :=
  List.foldlRecOn l f (motive := fun x => edgeView e x.2 = edgeView e s.2) rfl fun x hx b _ => (h x b).trans hx

@[simp] theorem edgeView_emit (m : Emit) (s : State) : edgeView e (emit m s) = edgeView e s := by simp [emit]

@[simp] theorem edgeView_emitAll (l : List Emit) (s : State) : edgeView e (emitAll l s) = edgeView e s := by
  simp [emitAll]

@[simp] theorem edgeView_raise (g b : Nat) (s : State) : edgeView e (raise g b s) = edgeView e s := by simp [raise]

@[simp] theorem edgeView_raiseIf (c : Bool) (g b : Nat) (s : State) : edgeView e (raiseIf c g b s) = edgeView e s := by
  simp [raiseIf]

@[simp] theorem edgeView_trcFire (type code cycle : Nat) (l : List Nat) (s : State) :
    edgeView e (trcFire type code cycle l s) = edgeView e s := by simp [trcFire]

@[simp] theorem edgeView_trcDelivery (code : Nat) (s : State) : edgeView e (trcDelivery code s) = edgeView e s := by
  simp [trcDelivery]

@[simp] theorem edgeView_deliver (code sev : Nat) (v : Int) (s : State) :
    edgeView e (deliver code sev v s) = edgeView e s := by simp [deliver]

@[simp] theorem edgeView_event (code : Nat) (v : Int) (s : State) : edgeView e (event code v s) = edgeView e s := by
  simp [event]

@[simp] theorem edgeView_friSend (type addr value : Nat) (s : State) :
    edgeView e (friSend type addr value s) = edgeView e s := by simp [friSend]

@[simp] theorem edgeView_holdDrive (s : State) : edgeView e (holdDrive s) = edgeView e s := by
  simp [holdDrive, edgeView_foldl]

@[simp] theorem edgeView_enterSafe (s : State) : edgeView e (enterSafe s) = edgeView e s := by
  simp [enterSafe, -holdDrive_regs]

@[simp] theorem edgeView_collect (code : Nat) (v : Int) (inj : Bool) (s : State) :
    edgeView e (collect code v inj s) = edgeView e s := by simp [collect, -enterSafe_start]

@[simp] theorem edgeView_reportInj (inj : Bool) (code : Nat) (v : Int) (s : State) :
    edgeView e (reportInj inj code v s) = edgeView e s := by simp [reportInj]

@[simp] theorem edgeView_report (code : Nat) (v : Int) (s : State) : edgeView e (report code v s) = edgeView e s := by
  simp [report]

@[simp] theorem edgeView_reportIf (c : Bool) (code : Nat) (v : Int) (s : State) :
    edgeView e (reportIf c code v s) = edgeView e s := by simp [reportIf]

@[simp] theorem edgeView_reportAll (l : List (Nat × Int)) (s : State) : edgeView e (reportAll l s) = edgeView e s := by
  simp [reportAll, edgeView_foldl]

@[simp] theorem edgeView_putReg (off w : Nat) (s : State) : edgeView e (putReg off w s) = edgeView e s := by
  simp [putReg]

@[simp] theorem edgeView_alert (code : Nat) (data : List Nat) (s : State) :
    edgeView e (alert code data s) = edgeView e s := by simp [alert]

@[simp] theorem edgeView_bookClear (s : State) : edgeView e (bookClear s) = edgeView e s := by simp [bookClear]

@[simp] theorem edgeView_bookStore (s : State) : edgeView e (bookStore s) = edgeView e s := by simp [bookStore]

@[simp] theorem edgeView_writePbCtrl (w : Nat) (s : State) : edgeView e (writePbCtrl w s) = edgeView e s := by
  simp [writePbCtrl]

@[simp] theorem edgeView_writePbCursor (w : Nat) (s : State) : edgeView e (writePbCursor w s) = edgeView e s := by
  simp [writePbCursor]

@[simp] theorem edgeView_plausEdge (s : State) : edgeView e (plausEdge s) = edgeView e s := by simp [plausEdge]

@[simp] theorem edgeView_writeScene (w : Nat) (s : State) : edgeView e (writeScene w s) = edgeView e s := by
  simp [writeScene]

@[simp] theorem edgeView_writeSpt (w : Nat) (s : State) : edgeView e (writeSpt w s) = edgeView e s := by simp [writeSpt]

@[simp] theorem edgeView_sceneEdge (s : State) : edgeView e (sceneEdge s) = edgeView e s := by simp [sceneEdge]

@[simp] theorem edgeView_opEdge (target : Option Nat) (s : State) : edgeView e (opEdge target s) = edgeView e s := by
  simp [opEdge]

@[simp] theorem edgeView_railApply (r : Nat) (s : State) : edgeView e (railApply r s) = edgeView e s := by
  simp [railApply]

@[simp] theorem edgeView_railEdge (s : State) : edgeView e (railEdge s) = edgeView e s := by
  simp [railEdge, edgeView_foldl]

@[simp] theorem edgeView_friSends (n : Nat) (s : State) : edgeView e (friSends n s) = edgeView e s := by
  induction n generalizing s with
  | zero => rfl
  | succ n ih =>
    unfold friSends
    split
    · simp
    · split <;> simp [ih]

@[simp] theorem edgeView_friDrain (s : State) : edgeView e (friDrain s) = edgeView e s := by simp [friDrain]

@[simp] theorem edgeView_clockApply (settle : Bool) (d : Nat) (s : State) :
    edgeView e (clockApply settle d s) = edgeView e s := by simp [clockApply]

@[simp] theorem edgeView_clockEdge (s : State) : edgeView e (clockEdge s) = edgeView e s := by
  simp [clockEdge, edgeView_foldl]

@[simp] theorem edgeView_hostRefuse (s : State) : edgeView e (hostRefuse s) = edgeView e s := by simp [hostRefuse]

@[simp] theorem edgeView_writeHostCap (w : Nat) (s : State) : edgeView e (writeHostCap w s) = edgeView e s := by
  simp [writeHostCap]

@[simp] theorem edgeView_writeHostPref (w : Nat) (s : State) : edgeView e (writeHostPref w s) = edgeView e s := by
  simp [writeHostPref]

@[simp] theorem edgeView_dieEscAlert (s : State) : edgeView e (dieEscAlert s) = edgeView e s := by simp [dieEscAlert]

@[simp] theorem edgeView_trcOne (cycle n b src value : Nat) (s : State) :
    edgeView e (trcOne cycle n b src value s) = edgeView e s := by simp [trcOne]

@[simp] theorem edgeView_trcCapture (cycle : Nat) (modes : List Nat) (value : Nat → Option Nat) (s : State) :
    edgeView e (trcCapture cycle modes value s) = edgeView e s := by
  rw [trcCapture, edgeView_foldl_snd]
  intro x q
  split
  · rfl
  · split <;> simp

@[simp] theorem edgeView_vrefEdge (pNs : Nat) (s : State) : edgeView e (vrefEdge pNs s) = edgeView e s := by
  simp [vrefEdge]

@[simp] theorem edgeView_droopEdge (s : State) : edgeView e (droopEdge s) = edgeView e s := by simp [droopEdge]

@[simp] theorem edgeView_writeAgemon (w : Nat) (s : State) : edgeView e (writeAgemon w s) = edgeView e s := by
  simp [writeAgemon]

@[simp] theorem edgeView_marginEdge (s : State) : edgeView e (marginEdge s) = edgeView e s := by simp [marginEdge]

@[simp] theorem edgeView_marginDue (k : Nat) (s : State) : edgeView e (marginDue k s) = edgeView e s := by
  simp [marginDue]

@[simp] theorem edgeView_marginStore (s : State) : edgeView e (marginStore s) = edgeView e s := by simp [marginStore]

@[simp] theorem edgeView_writeMarginCmd (w : Nat) (s : State) : edgeView e (writeMarginCmd w s) = edgeView e s := by
  simp [writeMarginCmd]

@[simp] theorem edgeView_officeEdge (s : State) : edgeView e (officeEdge s) = edgeView e s := by simp [officeEdge]

@[simp] theorem edgeView_writeTarget (w : Nat) (s : State) : edgeView e (writeTarget w s) = edgeView e s := by
  simp [writeTarget]

@[simp] theorem edgeView_targetKeep (s : State) : edgeView e (targetKeep s) = edgeView e s := by simp [targetKeep]

@[simp] theorem edgeView_enfBegin (force : Bool) (s : State) : edgeView e (enfBegin force s) = edgeView e s := by
  simp [enfBegin]

@[simp] theorem edgeView_enfQuota (s : State) : edgeView e (enfQuota s) = edgeView e s := by simp [enfQuota]

@[simp] theorem edgeView_levelEdge (s : State) : edgeView e (levelEdge s) = edgeView e s := by simp [levelEdge]

@[simp] theorem edgeView_enfEdge (forced : Bool) (s : State) : edgeView e (enfEdge forced s) = edgeView e s := by
  simp [enfEdge]

@[simp] theorem edgeView_thermEdge (old : Nat) (forced : Bool) (s : State) :
    edgeView e (thermEdge old forced s) = edgeView e s := by simp [thermEdge]

@[simp] theorem edgeView_ctrlSt (n : Nat) (s : State) : edgeView e (ctrlSt n s) = edgeView e s := by simp [ctrlSt]

@[simp] theorem edgeView_faultClose (merged : Bool) (s : State) : edgeView e (faultClose merged s) = edgeView e s := by
  simp [faultClose]

@[simp] theorem edgeView_writeFaultCtrl (merged : Bool) (w : Nat) (s : State) :
    edgeView e (writeFaultCtrl merged w s) = edgeView e s := by simp [writeFaultCtrl]

@[simp] theorem edgeView_resume (s : State) : edgeView e (resume s) = edgeView e s := by simp [resume]

@[simp] theorem edgeView_resumeEdge (s : State) : edgeView e (resumeEdge s) = edgeView e s := by simp [resumeEdge]

@[simp] theorem edgeView_recoverEdge (s : State) : edgeView e (recoverEdge s) = edgeView e s := by simp [recoverEdge]

@[simp] theorem edgeView_writeReh (w : Nat) (s : State) : edgeView e (writeReh w s) = edgeView e s := by simp [writeReh]

@[simp] theorem edgeView_writeInj (w : Nat) (s : State) : edgeView e (writeInj w s) = edgeView e s := by simp [writeInj]

@[simp] theorem edgeView_curtArmNow (s : State) : edgeView e (curtArmNow s) = edgeView e s := by simp [curtArmNow]

@[simp] theorem edgeView_rehEdge (s : State) : edgeView e (rehEdge s) = edgeView e s := by simp [rehEdge]

@[simp] theorem edgeView_putDie (j : Nat) (d : DieRec) (s : State) : edgeView e (putDie j d s) = edgeView e s := by
  simp [putDie]

@[simp] theorem edgeView_pkgEscAlert (s : State) : edgeView e (pkgEscAlert s) = edgeView e s := by simp [pkgEscAlert]

@[simp] theorem edgeView_allocEdge (s : State) : edgeView e (allocEdge s) = edgeView e s := by simp [allocEdge]

@[simp] theorem edgeView_leaveEdge (s : State) : edgeView e (leaveEdge s) = edgeView e s := by simp [leaveEdge]

@[simp] theorem edgeView_ledgerEdge (s : State) : edgeView e (ledgerEdge s) = edgeView e s := by simp [ledgerEdge]

@[simp] theorem edgeView_dbpSend (type dst payload : Nat) (s : State) :
    edgeView e (dbpSend type dst payload s) = edgeView e s := by simp [dbpSend]

@[simp] theorem edgeView_sendLeave (s : State) : edgeView e (sendLeave s) = edgeView e s := by simp [sendLeave]

@[simp] theorem edgeView_sendReport (demand : Nat) (s : State) : edgeView e (sendReport demand s) = edgeView e s := by
  simp [sendReport]

@[simp] theorem edgeView_sendJoin (s : State) : edgeView e (sendJoin s) = edgeView e s := by simp [sendJoin]

@[simp] theorem edgeView_sendSlack (s : State) : edgeView e (sendSlack s) = edgeView e s := by simp [sendSlack]

@[simp] theorem edgeView_sendAlloc (j : Nat) (s : State) : edgeView e (sendAlloc j s) = edgeView e s := by
  simp [sendAlloc]

@[simp] theorem edgeView_sendRoles (s : State) : edgeView e (sendRoles s) = edgeView e s := by simp [sendRoles]

@[simp] theorem edgeView_barEdge (s : State) : edgeView e (barEdge s) = edgeView e s := by
  unfold barEdge
  split <;> simp

@[simp] theorem edgeView_pkgEdge (demand : Nat) (s : State) : edgeView e (pkgEdge demand s) = edgeView e s := by
  simp [pkgEdge, edgeView_foldl]

@[simp] theorem edgeView_zltEdge (s : State) : edgeView e (zltEdge s) = edgeView e s := by simp [zltEdge]

@[simp] theorem edgeView_writeOpCtrl (w : Nat) (s : State) : edgeView e (writeOpCtrl w s) = edgeView e s := by
  simp [writeOpCtrl]

@[simp] theorem edgeView_trcMod (f : TraceBuf → TraceBuf) (s : State) : edgeView e (trcMod f s) = edgeView e s := by
  unfold trcMod
  split <;> simp

@[simp] theorem edgeView_writeTrcCtrl (w : Nat) (s : State) : edgeView e (writeTrcCtrl w s) = edgeView e s := by
  simp [writeTrcCtrl]

@[simp] theorem edgeView_writeTrcWord (off w : Nat) (s : State) : edgeView e (writeTrcWord off w s) = edgeView e s := by
  simp [writeTrcWord]

@[simp] theorem edgeView_trcArmEdge (s : State) : edgeView e (trcArmEdge s) = edgeView e s := by simp [trcArmEdge]

@[simp] theorem edgeView_trcEdge (s : State) : edgeView e (trcEdge s) = edgeView e s := by simp [trcEdge]

@[simp] theorem edgeView_snapSchedule (tick : Nat) (freeze : Bool) (s : State) :
    edgeView e (snapSchedule tick freeze s) = edgeView e s := by simp [snapSchedule]

@[simp] theorem edgeView_writeSnapCtrl (w : Nat) (s : State) : edgeView e (writeSnapCtrl w s) = edgeView e s := by
  simp [writeSnapCtrl]

@[simp] theorem edgeView_snapEdge (s : State) : edgeView e (snapEdge s) = edgeView e s := by simp [snapEdge]

@[simp] theorem edgeView_writeKeyReg (off w : Nat) (s : State) : edgeView e (writeKeyReg off w s) = edgeView e s := by
  simp [writeKeyReg]

@[simp] theorem edgeView_storeBoth (s : State) : edgeView e (storeBoth s) = edgeView e s := by simp [storeBoth]

@[simp] theorem edgeView_hostDone (seq code result : Nat) (res : Tab Nat) (s : State) :
    edgeView e (hostDone seq code result res s) = edgeView e s := by simp [hostDone]

@[simp] theorem edgeView_thrSet (which : Nat) (v : Int) (s : State) : edgeView e (thrSet which v s) = edgeView e s := by
  simp [thrSet]

@[simp] theorem edgeView_zltPlace (id level parent : Nat) (s : State) :
    edgeView e (zltPlace id level parent s) = edgeView e s := by simp [zltPlace]

@[simp] theorem edgeView_release (scope id : Nat) (s : State) : edgeView e (release scope id s) = edgeView e s := by
  simp [release]

@[simp] theorem edgeView_rampCancel (id : Nat) (s : State) : edgeView e (rampCancel id s) = edgeView e s := by
  simp [rampCancel]

@[simp] theorem edgeView_mgmtEffect (code : Nat) (a : List Int) (s : State) :
    edgeView e (mgmtEffect code a s) = edgeView e s := by
  unfold mgmtEffect
  split <;> simp

@[simp] theorem edgeView_mgmtResp (code seq status : Nat) (data : List Nat) (s : State) :
    edgeView e (mgmtResp code seq status data s) = edgeView e s := by simp [mgmtResp]

@[simp] theorem edgeView_handLatch (c : AgentCmd) (s : State) : edgeView e (handLatch c s) = edgeView e s := by
  simp [handLatch]

@[simp] theorem edgeView_writeAgentCmd (priv w : Nat) (s : State) :
    edgeView e (writeAgentCmd priv w s) = edgeView e s := by simp [writeAgentCmd]

@[simp] theorem edgeView_writeTktSel (w : Nat) (s : State) : edgeView e (writeTktSel w s) = edgeView e s := by
  simp [writeTktSel]

@[simp] theorem edgeView_writeClassData (w : Nat) (s : State) : edgeView e (writeClassData w s) = edgeView e s := by
  simp [writeClassData]

@[simp] theorem edgeView_writeClassCtrl (w : Nat) (s : State) : edgeView e (writeClassCtrl w s) = edgeView e s := by
  simp [writeClassCtrl]

@[simp] theorem edgeView_writeCoreFlags (w : Nat) (s : State) : edgeView e (writeCoreFlags w s) = edgeView e s := by
  simp [writeCoreFlags]

@[simp] theorem edgeView_writeSlotInfo (w : Nat) (s : State) : edgeView e (writeSlotInfo w s) = edgeView e s := by
  simp [writeSlotInfo]

@[simp] theorem edgeView_writeCtlFlags (w : Nat) (s : State) : edgeView e (writeCtlFlags w s) = edgeView e s := by
  simp [writeCtlFlags]

@[simp] theorem edgeView_writeLoopState (w : Nat) (s : State) : edgeView e (writeLoopState w s) = edgeView e s := by
  simp [writeLoopState]

@[simp] theorem edgeView_writeFreeze (w : Nat) (s : State) : edgeView e (writeFreeze w s) = edgeView e s := by
  simp [writeFreeze]

@[simp] theorem edgeView_writeHcmd (w : Nat) (s : State) : edgeView e (writeHcmd w s) = edgeView e s := by
  simp [writeHcmd]

@[simp] theorem edgeView_hostNop (s : State) : edgeView e (hostNop s) = edgeView e s := by
  unfold hostNop
  split <;> simp

@[simp] theorem edgeView_hostReadCut (s : State) : edgeView e (hostReadCut s) = edgeView e s := by
  unfold hostReadCut
  split <;> simp

@[simp] theorem edgeView_hostReserved (s : State) : edgeView e (hostReserved s) = edgeView e s := by
  unfold hostReserved
  split <;> simp

@[simp] theorem edgeView_bclkEdge (out : Bool) (s : State) : edgeView e (bclkEdge out s) = edgeView e s := by
  simp [bclkEdge]

@[simp] theorem edgeView_flagEdge (s : State) : edgeView e (flagEdge s) = edgeView e s := by simp [flagEdge]

@[simp] theorem edgeView_tellEdge (o : CoreOut) (s : State) : edgeView e (tellEdge o s) = edgeView e s := by
  simp [tellEdge, edgeView_foldl]

@[simp] theorem edgeView_escEdge (die pkg : Bool) (s : State) : edgeView e (escEdge die pkg s) = edgeView e s := by
  simp [escEdge]

@[simp] theorem edgeView_driveEdge (ran : Bool) (s : State) : edgeView e (driveEdge ran s) = edgeView e s := by
  simp [driveEdge]

@[simp] theorem edgeView_heatEdge (old : Nat) (ran : Bool) (s : State) :
    edgeView e (heatEdge old ran s) = edgeView e s := by simp [heatEdge]

@[simp] theorem edgeView_ziltEnergy (s : State) : edgeView e (ziltEnergy s) = edgeView e s := by simp [ziltEnergy]

@[simp] theorem edgeView_packageEdge (s : State) : edgeView e (packageEdge s) = edgeView e s := by simp [packageEdge]

@[simp] theorem edgeView_freezeEdge (s : State) : edgeView e (freezeEdge s) = edgeView e s := by simp [freezeEdge]

@[simp] theorem edgeView_ordinalEdge (s : State) : edgeView e (ordinalEdge s) = edgeView e s := by simp [ordinalEdge]

@[simp] theorem edgeView_ordinalClear (s : State) : edgeView e (ordinalClear s) = edgeView e s := by simp [ordinalClear]

@[simp] theorem edgeView_overrunEdge (s : State) : edgeView e (overrunEdge s) = edgeView e s := by simp [overrunEdge]

end

end Sys2Proof.Machine
end

section
/-! R12, R25, R109, R110, R253 and R308: the sample edge as a whole, and the edge at which the outputs go live. -/

namespace Sys2Proof.Machine

open Sys2Proof

section
variable {e : Bool}

/-! ### The posted APPLY (R401) -/

/-- A pair of APPLY names a register with RW fields and writes no bit beside them. -/
theorem pairOk_bits {p : Nat × Nat} (h : pairOk p = true) : p.2 = p.2 &&& rwMask p.1 := by
  unfold pairOk at h
  simp only [Bool.and_eq_true, beq_iff_eq] at h
  exact h.2

/-- A register whose RW fields leave out bit 31 is not told to go by a pair of APPLY. -/
theorem pairOk_noGo {p : Nat × Nat} (h : pairOk p = true) (hmask : (rwMask p.1).testBit 31 = false) :
    p.2.testBit 31 = false := by
  rw [pairOk_bits h, Nat.testBit_and, hmask, Bool.and_false]

theorem edgeView_writeEstCmd {w : Nat} (hw : w.testBit 31 = false) (s : State) :
    edgeView e (writeEstCmd w s) = edgeView e s := by simp [writeEstCmd, hw]

theorem edgeView_writeLoadCtrl {w : Nat} (hw : w.testBit 31 = false) (s : State) :
    edgeView e (writeLoadCtrl w s) = edgeView e s := by simp [writeLoadCtrl, hw]

theorem edgeView_writeLow {off w : Nat} (priv : Nat) (hgo : off = 0x4014 → w.testBit 31 = false) (s : State) :
    edgeView e (writeLow priv off w s) = edgeView e s := by
  unfold writeLow
  split
  case h_8 => exact edgeView_writeEstCmd (hgo rfl) s
  all_goals simp

theorem edgeView_writeHigh {off w : Nat} (hgo : off = 0xA014 → w.testBit 31 = false) (hdata : off ≠ 0xA01C) (s : State) :
    edgeView e (writeHigh off w s) = edgeView e s := by
  unfold writeHigh
  split
  case h_2 => exact edgeView_writeLoadCtrl (hgo rfl) s
  case h_3 => exact absurd rfl hdata
  all_goals simp

theorem edgeView_regWrite_pair {p : Nat × Nat} (h : pairOk p = true) (priv : Nat) (s : State) :
    edgeView e (regWrite priv p.1 p.2 s) = edgeView e s := by
  unfold regWrite
  split
  · simp
  · split
    · exact edgeView_writeLow priv (fun hoff => pairOk_noGo h (by rw [hoff]; decide)) s
    · exact edgeView_writeHigh (fun hoff => pairOk_noGo h (by rw [hoff]; decide)) (pairOk_ne_loadData h) s

@[simp] theorem edgeView_hostApply (s : State) : edgeView e (hostApply s) = edgeView e s := by
  unfold hostApply
  split
  · rfl
  · dsimp only
    split
    next hok =>
      obtain ⟨-, -, hpairs⟩ := hok
      rw [edgeView_hostDone]
      exact edgeView_foldl _ _ s fun x p hp => edgeView_regWrite_pair (List.all_eq_true.1 hpairs p hp) 1 x
    next => simp

/-! ### What waits for a restart -/

theorem restartWait_eq_of_view {s t : State} (h : edgeView e t = edgeView e s) :
    t.start.restartWait = s.start.restartWait := by
  simp only [edgeView, Prod.mk.injEq] at h
  exact h.2.2.2.2.1

/-- Where no restart waits, the end of the stores only answers those who asked. -/
theorem edgeView_storesEnd {s t : State} (ht : edgeView e t = edgeView e s) (h : s.start.restartWait = false) :
    edgeView e (storesEnd t) = edgeView e s := by
  unfold storesEnd
  extract_lets m b bad src s1 src' s2
  have hs1 : edgeView e s1 = edgeView e s := by
    unfold s1
    split
    · exact ht
    · rw [← ht]
      simp [src]
  have hs2 : edgeView e s2 = edgeView e s := by
    unfold s2
    split
    · exact hs1
    · rw [← hs1]
      simp [src']
  rw [if_neg (ne_true_of_eq_false ((restartWait_eq_of_view hs2).trans h)), edgeView_ite, ht, hs2, ite_self]

theorem edgeView_mgmtEdgeOne (t : Nat × List Int) {s : State} (h : s.start.restartWait = false) :
    edgeView e (mgmtEdgeOne t s) = edgeView e s := by
  unfold mgmtEdgeOne
  extract_lets tell seq src s0 src' s1 src''
  have hs1 : edgeView e s1 = edgeView e s := by simp [s1, s0, src']
  rw [edgeView_ite, edgeView_ite, edgeView_ite, edgeView_mgmtResp, hs1, ite_self,
    edgeView_storesEnd (s := s) (by rw [← hs1]; simp [src'']) h, ite_self]
  simp [src]

theorem edgeView_mgmtEdge {s : State} (h : s.start.restartWait = false) : edgeView e (mgmtEdge s) = edgeView e s := by
  unfold mgmtEdge
  refine List.foldlRecOn s.mgmt.todo _ (motive := fun x => edgeView e x = edgeView e s) (by simp) fun x hx t _ => ?_
  exact (edgeView_mgmtEdgeOne t ((restartWait_eq_of_view hx).trans h)).trans hx

theorem edgeView_hostStoreAll {s : State} (h : s.start.restartWait = false) :
    edgeView e (hostStoreAll s) = edgeView e s := by
  unfold hostStoreAll
  split
  · rfl
  · next seq _ =>
    extract_lets s1 src
    have hs1 : edgeView e s1 = edgeView e s := edgeView_storeBoth s
    rw [edgeView_ite, edgeView_storesEnd (s := s) (by rw [← hs1]; simp [src]) h, ite_self]

theorem edgeView_hostEdge {s : State} (h : s.start.restartWait = false) : edgeView e (hostEdge s) = edgeView e s := by
  have hcut : edgeView e (hostReadCut (hostNop s)) = edgeView e s := by simp
  rw [hostEdge, edgeView_hostReserved, edgeView_hostStoreAll ((restartWait_eq_of_view hcut).trans h), hcut]

end

/-! ### The parts that touch the estimates -/

@[simp] theorem lookIf_false {α : Type} (a : α) : lookIf false a = none := rfl

@[simp] theorem edgeView_fold_false (s : State) :
    (s.time.k, s.time.pSel, s.pb, s.regs.act, s.start.restartWait, none) = edgeView false s := rfl

@[simp] theorem edgeView_adaptReset (s : State) : edgeView false (adaptReset s) = edgeView false s := by
  simp [adaptReset]

@[simp] theorem edgeView_readmit (site : Nat) (s : State) : edgeView false (readmit site s) = edgeView false s := by
  simp [readmit]

@[simp] theorem edgeView_estCmdEdge (s : State) : edgeView false (estCmdEdge s) = edgeView false s := by
  unfold estCmdEdge
  split <;> simp [lookIf]

@[simp] theorem edgeView_slotTrace {e : Bool} (old : CoreOut) (r : Run) (s : State) :
    edgeView e (slotTrace old r s) = edgeView e s := by
  unfold slotTrace
  split
  · rfl
  · exact edgeView_foldl _ _ _ fun x l => by simp

@[simp] theorem edgeView_slotStops (r : Run) (s : State) : edgeView false (slotStops r s) = edgeView false s := by
  simp [slotStops]

@[simp] theorem edgeView_overrunRest (s : State) : edgeView false (overrunRest s) = edgeView false s := by
  simp [overrunRest, edgeView_foldl]

@[simp] theorem edgeView_applyOut (s : State) : edgeView false (applyOut s) = edgeView false s := by
  simp [applyOut]

@[simp] theorem edgeView_latchEdge (run : Bool) (froze : Nat) (wr : List (Nat × Nat)) (s : State) :
    edgeView false (latchEdge run froze wr s) = edgeView false s := by
  simp [latchEdge]

/-! ### The three parts of an edge -/

theorem edgeView_hostEdge_of {e : Bool} {s t : State} (ht : edgeView e t = edgeView e s) (h : s.start.restartWait = false) :
    edgeView e (hostEdge t) = edgeView e s :=
  (edgeView_hostEdge ((restartWait_eq_of_view ht).trans h)).trans ht

theorem edgeView_edgeApply (ran : Bool) {s : State} (h : s.start.restartWait = false) :
    edgeView false (edgeApply ran s) = edgeView false s := by
  unfold edgeApply
  extract_lets old s1 s2 s3
  have hs1 : edgeView false s1 = edgeView false s := by simp [s1]
  have hs2 : edgeView false s2 = edgeView false s :=
    (edgeView_estCmdEdge _).trans ((edgeView_mgmtEdge ((restartWait_eq_of_view hs1).trans h)).trans hs1)
  simp [s3, hs2]

theorem edgeView_edgeEnd (wr : List (Nat × Nat)) {s : State} (h : s.start.restartWait = false) :
    edgeView false (edgeEnd wr s) = edgeView false s := by
  unfold edgeEnd
  extract_lets s1 froze was s2 run src s3
  refine edgeView_hostEdge_of ?_ h
  have hs2 : edgeView false s2 = edgeView false s := by simp [s2, s1]
  have hs3 : edgeView false s3 = edgeView false s := by
    rw [← hs2]
    simp [s3, src]
  simp [hs3]

/-- The registers as written, a posted APPLY and THM_TARGET's limits included, are in force (R12, R253). -/
def edgeRegs (s : State) : State :=
  let s1 := targetKeep (bookClear (hostApply s))
  { s1 with regs := { s1.regs with act := s1.regs.wr } }

theorem edgeView_edgeBegin (out : Bool) (dropped : Nat) (s : State) :
    edgeView false (edgeBegin out dropped s) = edgeView false (edgeRegs s) := by
  unfold edgeBegin
  simp [edgeRegs]

/-! ### The estimates across an edge (R110) -/

theorem est_eq_of_view {s t : State} (h : edgeView true t = edgeView true s) :
    t.core.out.est = s.core.out.est ∧ t.core.app.est = s.core.app.est ∧ t.core.estGo = s.core.estGo ∧
      t.core.tasks = s.core.tasks := by
  simp only [edgeView, lookIf, Prod.mk.injEq, if_true, Option.some.injEq] at h
  obtain ⟨-, -, -, -, -, hest⟩ := h
  exact hest

theorem edgeRegs_est (s : State) : (edgeRegs s).core.out.est = s.core.out.est ∧
    (edgeRegs s).core.app.est = s.core.app.est ∧ (edgeRegs s).core.estGo = s.core.estGo ∧
    (edgeRegs s).core.tasks = s.core.tasks := by
  obtain ⟨hout, happ, hgo, htasks⟩ :=
    est_eq_of_view (show edgeView true (targetKeep (bookClear (hostApply s))) = edgeView true s by simp)
  exact ⟨hout, happ, hgo, htasks⟩

/-- With no routine in progress nothing is undone. -/
theorem edgeView_overrunRest_of_idle {s : State} (h : s.core.tasks = []) :
    edgeView true (overrunRest s) = edgeView true s := by
  unfold overrunRest
  rw [h]
  split
  · rfl
  · simp [tasksClear, ← h]

theorem edgeView_edgeBegin_of_idle (out : Bool) (dropped : Nat) {s : State} (h : s.core.tasks = []) :
    edgeView true (edgeBegin out dropped s) = edgeView true (edgeRegs s) := by
  have htasks : (edgeRegs s).core.tasks = [] := (edgeRegs_est s).2.2.2.trans h
  unfold edgeBegin
  extract_lets s1 src1 src2 src3 s2
  have hs2 : edgeView true s2 = edgeView true (edgeRegs s) := by
    simp [s2, s1, src2, src3, edgeRegs]
  have hrest : edgeView true (overrunRest s2) = edgeView true s2 := edgeView_overrunRest_of_idle htasks
  simp only [edgeView_friDrain, edgeView_vrefEdge, edgeView_overrunEdge, edgeView_ordinalEdge, edgeView_bclkEdge,
    edgeView_resumeEdge, hrest, hs2]

/-- All of O_k passes: the estimates written are applied. -/
theorem applyOut_est (s : State) : (applyOut s).core.app.est = s.core.out.est ∧ (applyOut s).core.estGo = s.core.estGo := by
  unfold applyOut
  extract_lets o die pkg s1 app src
  obtain ⟨-, -, hgo, -⟩ := est_eq_of_view (show edgeView true s1 = edgeView true s by simp [s1])
  obtain ⟨-, happ', hgo', -⟩ := est_eq_of_view (show edgeView true (escEdge die pkg (tellEdge o (plausEdge { s1 with
      core := { src with app := app } }))) = edgeView true { s1 with core := { src with app := app } } by
    rw [edgeView_escEdge, edgeView_tellEdge, edgeView_plausEdge])
  exact ⟨happ', hgo'.trans hgo⟩

theorem edgeApply_est (ran : Bool) {s : State} (hgo : s.core.estGo = none) (h : s.start.restartWait = false) :
    (edgeApply ran s).core.app.est = if ran then s.core.out.est else s.core.app.est := by
  obtain ⟨u, hu⟩ : ∃ u, (if ran then applyOut s else s) = u := ⟨_, rfl⟩
  have hest : u.core.app.est = (if ran then s.core.out.est else s.core.app.est) ∧ u.core.estGo = none := by
    rw [← hu]
    cases ran with
    | false => exact ⟨rfl, hgo⟩
    | true => exact ⟨(applyOut_est s).1, (applyOut_est s).2.trans hgo⟩
  have hwait : u.start.restartWait = false := by
    rw [← hu]
    exact (restartWait_eq_of_view (e := false) (by simp)).trans h
  have hmgmt : edgeView true (mgmtEdge u) = edgeView true u := edgeView_mgmtEdge hwait
  have hcmd : estCmdEdge (mgmtEdge u) = mgmtEdge u := by
    rw [estCmdEdge, (est_eq_of_view hmgmt).2.2.1, hest.2]
  have hview : edgeView true (edgeApply ran s) = edgeView true u := by
    unfold edgeApply
    extract_lets old s1 s2 s3
    rw [← hmgmt, ← hcmd, ← hu]
    simp [s3, s2, s1]
  exact (est_eq_of_view hview).2.1.trans hest.1

/-- The image is latched: what is applied stays, and O_k begins as it. -/
theorem edgeView_latchEdge_true (run : Bool) (froze : Nat) (wr : List (Nat × Nat)) (s : State) :
    edgeView true (latchEdge run froze wr s) = edgeView true { s with core := { s.core with out := s.core.app } } := by
  simp [latchEdge]

theorem edgeEnd_est (wr : List (Nat × Nat)) {s : State} (h : s.start.restartWait = false) :
    (edgeEnd wr s).core.app.est = s.core.app.est := by
  unfold edgeEnd
  extract_lets s1 froze was s2 run src s3
  have hs2 : edgeView true s2 = edgeView true s := by simp [s2, s1]
  have hlatch : s3.core.app.est = s2.core.app.est ∧ s3.start.restartWait = s2.start.restartWait := by
    unfold s3
    split
    · exact ⟨(est_eq_of_view (edgeView_latchEdge_true run _ wr s2)).2.1,
        restartWait_eq_of_view (edgeView_latchEdge run _ wr s2)⟩
    · exact ⟨rfl, rfl⟩
  have hwait : s3.start.restartWait = false := hlatch.2.trans ((restartWait_eq_of_view hs2).trans h)
  have hrest : edgeView true (trcEdge (trcArmEdge (ordinalClear (marginDue s3.time.k s3)))) = edgeView true s3 := by simp
  exact (est_eq_of_view (edgeView_hostEdge_of hrest hwait)).2.1.trans (hlatch.1.trans (est_eq_of_view hs2).2.1)

/-! ### The edge -/

/-- Where the command slot is free, the registers in force are those written, with THM_TARGET within its limits. -/
theorem edgeRegs_act_of_free {s : State} (h : s.port.posted = none) : (edgeRegs s).regs.act = (targetKeep s).regs.wr := by
  have happly : hostApply s = s := by
    unfold hostApply postedAs
    rw [h]
  unfold edgeRegs
  rw [happly]
  unfold bookClear
  split <;> rfl

theorem edgeView_edgeRegs (s : State) : edgeView false (edgeRegs s) =
    (s.time.k, s.time.pSel, s.pb, (edgeRegs s).regs.act, s.start.restartWait, none) := by
  have hview : edgeView false (targetKeep (bookClear (hostApply s))) = edgeView false s := by simp
  simp only [edgeView, lookIf_false, Prod.mk.injEq] at hview
  obtain ⟨hk, hpSel, hpb, -, hwait, -⟩ := hview
  rw [← hk, ← hpSel, ← hpb, ← hwait]
  rfl

theorem edgeRegs_restartWait (s : State) : (edgeRegs s).start.restartWait = s.start.restartWait :=
  restartWait_eq_of_view (e := false) (s := s) (t := targetKeep (bookClear (hostApply s))) (by simp)

/-- The state in which the edge begins: the tick and the number of the sample are those of the edge (R25). -/
def edgeTimed (c u i : Nat) (s : State) : State :=
  { s with time := { s.time with
      count := c, up := u, k := edgeNumber s.time.pSel c i, edgeQ := 4 * u + gridQ s.time * i } }

/-- What an edge does before the time is set to what it was, in terms of the state in which it begins. -/
def edgeRun (out : Bool) (dropped : Nat) (ran : Bool) (s : State) : State :=
  edgeEnd (edgeBegin out dropped s).law.sceneWr (edgeApply ran (edgeBegin out dropped s))

theorem edgeAt_eq (c u i : Nat) (out : Bool) (dropped : Nat) (s : State) : edgeAt c u i out dropped s =
    let r := edgeRun out dropped (programRuns s) (edgeTimed c u i s)
    { r with time := { r.time with
        count := s.time.count, up := s.time.up, subIdx := i, edgeUp := u, begun := true, edgeN := s.time.edgeN + 1 } } := by
  unfold edgeAt
  extract_lets t ran s1 s2 wr s3 src r
  have h1 : edgeTimed c u i s = s1 := rfl
  have hr : r = s3 := by
    unfold r edgeRun
    rw [h1]
  clear_value r s3
  subst hr
  rfl

theorem edgeView_edgeRun (out : Bool) (dropped : Nat) (ran : Bool) {s : State} (h : s.start.restartWait = false) :
    edgeView false (edgeRun out dropped ran s) = edgeView false (edgeRegs s) := by
  have hbegin := edgeView_edgeBegin out dropped s
  have hwait : (edgeBegin out dropped s).start.restartWait = false :=
    (restartWait_eq_of_view hbegin).trans ((edgeRegs_restartWait s).trans h)
  have happly := edgeView_edgeApply ran hwait
  exact (edgeView_edgeEnd _ ((restartWait_eq_of_view happly).trans hwait)).trans (happly.trans hbegin)

theorem edgeRun_est (out : Bool) (dropped : Nat) (ran : Bool) {s : State} (h : s.start.restartWait = false)
    (hgo : s.core.estGo = none) (htasks : s.core.tasks = []) :
    (edgeRun out dropped ran s).core.app.est = if ran then s.core.out.est else s.core.app.est := by
  have hbegin := edgeView_edgeBegin_of_idle out dropped htasks
  have hwait : (edgeBegin out dropped s).start.restartWait = false :=
    (restartWait_eq_of_view hbegin).trans ((edgeRegs_restartWait s).trans h)
  have happly : (edgeApply ran (edgeBegin out dropped s)).start.restartWait = false :=
    (restartWait_eq_of_view (edgeView_edgeApply ran hwait)).trans hwait
  obtain ⟨hout, happ, hnone, -⟩ := est_eq_of_view hbegin
  obtain ⟨hout', happ', hnone', -⟩ := edgeRegs_est s
  rw [edgeRun, edgeEnd_est _ happly, edgeApply_est ran (hnone.trans (hnone'.trans hgo)) hwait, hout, happ, hout', happ']

theorem sampleEdge_lasts (cycles dropped : Nat) (s : State) : ∃ t, exec (.sampleEdge cycles dropped) s = .next t ∧
    t.par = s.par ∧ t.flash = s.flash ∧ t.pending = s.pending := by
  have h := lasting_execSampleEdge cycles dropped s
  refine ⟨_, rfl, ?_⟩
  simp only [execSampleEdge, lastingNext_done, Option.some.injEq, lasting, Prod.mk.injEq] at h
  obtain ⟨hpar, hpending, hflash, -⟩ := h
  exact ⟨hpar, hflash, hpending⟩

/-- Settles O29: the number, the registers and the Playbill by `edgeView_edgeRun`, the estimates by `edgeRun_est`. -/
theorem edgeLatches : Obligations.EdgeLatches := by
  unfold Obligations.EdgeLatches
  intro cycles dropped c u i s hclk hstate hdue hlive hwait
  have hguard : ¬ (!clocked (fresh s) || (fresh s).start.state == 0) = true := by
    rw [show clocked (fresh s) = true from hclk, show ((fresh s).start.state == 0) = false from beq_eq_false_iff_ne.2 hstate]
    decide
  obtain ⟨out, hstep⟩ : ∃ out, edgeStep (some cycles) dropped (fresh s) = edgeAt c u i out dropped (fresh s) := by
    rw [edgeStep, if_neg hguard, show edgeDue (fresh s).time = some (c, u, i) from hdue]
    exact ⟨_, congrArg (edgeAt c u i _ dropped) (if_neg (ne_true_of_eq_false hlive))⟩
  have hexec : exec (.sampleEdge cycles dropped) s = .next (edgeAt c u i out dropped (fresh s)) :=
    congrArg Host.Outcome.next hstep
  obtain ⟨t, ht, hpar, hflash, hpending⟩ : ∃ t, exec (.sampleEdge cycles dropped) s = .next t ∧ t.par = s.par ∧
      t.flash = s.flash ∧ t.pending = s.pending := sampleEdge_lasts cycles dropped s
  have hview := edgeView_edgeRun out dropped (programRuns s) (s := edgeTimed c u i (fresh s)) hwait
  have hest := edgeRun_est out dropped (programRuns s) (s := edgeTimed c u i (fresh s)) hwait
  have hat := edgeAt_eq c u i out dropped (fresh s)
  rw [edgeView_edgeRegs] at hview
  obtain ⟨r, hr⟩ : ∃ r, edgeRun out dropped (programRuns s) (edgeTimed c u i (fresh s)) = r := ⟨_, rfl⟩
  rw [show programRuns (fresh s) = programRuns s from rfl, hr] at hat
  rw [hr] at hview hest
  simp only [edgeView, lookIf_false, Prod.mk.injEq] at hview
  obtain ⟨hk, hpSel, hpb, hact, -, -⟩ := hview
  rw [hat] at hexec
  cases ht.symm.trans hexec
  refine ⟨_, hexec, hk, rfl, rfl, rfl, hpSel, rfl, rfl, fun hfree => ?_, fun hgo htasks => hest hgo htasks, hpar, hpb,
    hflash, hpending⟩
  exact hact.trans (edgeRegs_act_of_free (s := edgeTimed c u i (fresh s)) hfree)

end Sys2Proof.Machine
end

section
/-! R120, R308 and R338: the edge at which the outputs go live can itself report a fault of class S. -/

namespace Sys2Proof.Machine

open Sys2Proof

/-- A routine of slot 0 that has nothing left to run. -/
def task0 : Task := ⟨0, [], coreOut0, coreOut0, told0⟩

/-- SETTLE with the first sample of the program run and an edge due at the tick 5. Seven samples in a row have overrun, and slot
0 has not ended in this one. -/
def overrunLive : State :=
  { State.reset with
    start := { State.reset.start with state := 8, blkUp := true, bclkAbsent := false },
    time := { State.reset.time with anyTick := true, up := 5, count := 5 },
    core := { State.reset.core with running := true, overrunRun := 7, tasks := [(0, task0)] } }

/-- Whether the error pair shows a fault in the state that an outcome answers. -/
def pairFault : Host.Outcome State Fault Refusal → Bool
  | .next t => t.fault.errFault
  | _ => false

/-- The overrun of slot 0 is the eighth sample in a row: 0x3004, class S, drives the pair to fault after LIVE has cleared it. -/
theorem pairFault_overrunLive : pairFault (exec .live overrunLive) = true := by decide +kernel

/-- Refutes O53: the edge of LIVE ends the routine that is still in progress in `overrunLive`, and the eighth overrun in a row
is a fault of class S (0x3004) that no report of O_k tells of, so the pair is at fault after the edge. -/
theorem not_goesLive : ¬ Obligations.GoesLive := by
  unfold Obligations.GoesLive
  intro h
  obtain ⟨t, hexec, -, -, hpair, -⟩ := h 5 5 0 overrunLive rfl rfl rfl (by decide) (by decide) rfl (by decide)
  have hfault := pairFault_overrunLive
  rw [hexec] at hfault
  exact Bool.false_ne_true (hpair.symm.trans hfault)

end Sys2Proof.Machine
end
